-- ==== Sys2Proof/Word.lean ====
section
/-! DEFINITION. The word types of the part: bytes of the control line, field numbers, and the identities
of projectors, islands, ports, changeover records and switcher sources. -/

namespace Sys2Proof

/-- One data byte of the control line (R177). -/
abbrev Byte := BitVec 8

/-- A field number: the 32-bit unsigned field counter that wraps (R8). -/
abbrev Field := BitVec 32

/-- A projector. Index 0 is P1 and index 7 is P8 (Conventions, Identities). -/
abbrev Proj := Fin 8

/-- An island. Index 0 is I1 and index 3 is I4 (Conventions, Identities). -/
abbrev Isl := Fin 4

/-- An island port, 0..2 (Conventions, Identities). -/
abbrev Port := Fin 3

/-- A changeover record, 0..3 (Conventions, Identities). -/
abbrev Rec := Fin 4

/-- A switcher source code, 0..31 (Terms: Source code). -/
abbrev Source := Fin 32

/-- The eight projectors, P1 first. -/
def allProj : List Proj := [0, 1, 2, 3, 4, 5, 6, 7]

/-- The four islands, I1 first. -/
def allIsl : List Isl := [0, 1, 2, 3]

/-- The four changeover records in index order. -/
def allRec : List Rec := [0, 1, 2, 3]

end Sys2Proof
end

