-- ==== Sys2Proof/Syntax.lean ====
section
/-! DEFINITION. The commands of the part: one constructor of `Instr` per row of the opcode table, with the
row's operands. The table gives no operand fields, so the operands are the ones the numbered rules give: the
fields of the message (R183), the projector, island or record an event strikes, the input lines it reads, and
the time at which it comes. -/

namespace Sys2Proof

/-- The input lines of one projector that are read as levels (Signals). PERF, SHUT and an assertion of CUE are
events of their own. -/
structure ProjPins where
  /-- LAMPOK asserted. -/
  lampok : Bool
  /-- LOOP asserted. -/
  loop : Bool
  /-- TAIL asserted. -/
  tail : Bool
  /-- CUE asserted. -/
  cue : Bool
  /-- DIR reads forward. -/
  forward : Bool
  deriving DecidableEq, Repr

/-- The input lines of one island (Signals): the MPOS code (R82) and the TLY line (R88). -/
structure IslPins where
  mpos : Fin 4
  tly : Bool
  deriving DecidableEq, Repr

/-- What an event finds outside the rules' reach: the input lines of the part that are read as levels, and how soon the cue
store takes a match. The reference lets a match and what comes with or after it be taken in either order (R70, R71, R74, R75) up to
the next frame advance of its projector, so it is an operand: a statement about all operands is a statement about every order
(DESIGN CHOICE, safe, assumption 26). -/
structure Pins where
  proj : Vector ProjPins 8
  isl : Vector IslPins 4
  /-- No line: the projectors of which a match, detected now or waiting, is not taken at this event. -/
  late : List Proj
  deriving DecidableEq, Repr

/-- All inputs at rest: no lamp current, no loop loss, no tail, no mark, film direction forward, mirrors on
port 0, no tally. Every match is taken at once. -/
def Pins.rest : Pins where
  proj := Vector.replicate 8 ⟨false, false, false, false, true⟩
  isl := Vector.replicate 4 ⟨0, false⟩
  late := []

/-- The moment at which an event from outside comes: the time since the event before it, in units of
`Config.unitsPerSecond`, and the input lines as they stand then (DESIGN CHOICE, safe, assumption 5). -/
structure Moment where
  elapsed : Nat
  pins : Pins
  deriving DecidableEq, Repr

/-- How a command that a group frame may carry was addressed (R178, R182). -/
inductive Via where
  | individual
  | group
  deriving DecidableEq, Repr

/-- The steps of the opcode table that belong to a boundary. -/
inductive Machine.Due where
  | strikeEnd (p : Proj)
  | lampFail (p : Proj)
  | runupTimeout (p : Proj)
  | coastEnd (p : Proj)
  | lockDeclared (p : Proj)
  | slipCorrection (p : Proj)
  | missingEdge (p : Proj)
  | mirrorComplete (i : Isl)
  | mirrorDeadline (i : Isl)
  | takeGrant
  | strobeDrop
  | windowJudged
  | changeoverStart (r : Rec)
  | lockDecision (r : Rec)
  | switchCut (r : Rec)
  | mirrorCut (r : Rec)
  deriving DecidableEq, Repr

/-- The reactions to one boundary, which may come in any order (R8). -/
inductive Part where
  /-- A tracker: cadence advance, with what the frame advance causes (R55, R63). -/
  | tracker (p : Proj)
  /-- A channel: still count, timers, lamp watch, loop and tail (R20, R21, R24, R31). -/
  | channel (p : Proj)
  /-- The island units: mirror positions and tallies (R82, R85, R88). -/
  | islands
  /-- The changeover engine's arming attempt on a projector (R130). -/
  | arming (p : Proj)
  /-- The take port's arbitration (R92). -/
  | take
  /-- A step of the opcode table, if it waits by then. -/
  | step (d : Machine.Due)
  deriving DecidableEq, Repr

/-- The order in which the part reacts to one boundary. The reference does not fix it (R8, R95, R97, R135, R158, R159), so it is
an operand of every event that makes a boundary: a statement about all operands is a statement about every order (DESIGN CHOICE, safe,
assumption 9). Reactions that the list leaves out follow those that it names: trackers, channels, islands, arming attempts and the
arbitration. A step that the list leaves out waits for its own row. -/
structure BoundaryOrder where
  parts : List Part
  deriving DecidableEq, Repr

/-- The order in which nothing is moved from its place. -/
def BoundaryOrder.plain : BoundaryOrder := ⟨[]⟩

/-- The straps and the ESTOP line as they read when RESET is released (R34, R176). -/
structure Straps where
  addr : BitVec 6
  rate : BitVec 2
  estop : Bool
  deriving DecidableEq, Repr

/-- One character as received: its eight data bits, its parity bit and its stop bit (R177). -/
structure LineChar where
  data : Byte
  parity : Bool
  stop : Bool
  deriving DecidableEq, Repr

/-- The body of SET_PROJECTOR in wire order (R183). -/
structure ProjectorBody where
  projector : Byte
  gauge : Byte
  strikeFields : BitVec 16
  runupLimit : BitVec 16
  stillness : Byte
  progU : BitVec 16
  progD : BitVec 16
  adaptDepth : Byte
  w : Byte
  k : Byte
  m : Byte
  deriving DecidableEq, Repr

/-- The part's commands and events, one per row of the opcode table. An event that comes from outside carries
the `Moment` at which it comes. An event whose time the rules fix (INTERNAL_TICK, SYNC_LOST, LINE_SILENCE_TIMEOUT,
REPLY_COMPLETE) carries no time. A step that belongs to the boundary just made (STRIKE_END to MIRROR_CUT) names
only what it strikes. Message fields are carried as the bytes of R183. -/
inductive Instr where
  /-- RESET (R8): release of the RESET input. -/
  | reset (straps : Straps) (pins : Pins)
  /-- FLD_PULSE (R2). -/
  | fldPulse (m : Moment) (o : BoundaryOrder)
  /-- INTERNAL_TICK (R3). -/
  | internalTick (pins : Pins) (o : BoundaryOrder)
  /-- SYNC_LOST (R6). -/
  | syncLost (pins : Pins) (o : BoundaryOrder)
  /-- PERF_PULSE (R46); DIR is read from the moment's pins. -/
  | perfPulse (m : Moment) (p : Proj)
  /-- SHUTTER_EDGE (R48). -/
  | shutterEdge (m : Moment) (p : Proj)
  /-- CUE_INPUT_ASSERTED (R67). -/
  | cueInputAsserted (m : Moment) (p : Proj)
  /-- ESTOP_ASSERTED (R34). -/
  | estopAsserted (m : Moment)
  /-- ESTOP_RELEASED (R35). -/
  | estopReleased (m : Moment)
  /-- LINE_BYTE (R178): one character, at the end of its stop bit. -/
  | lineByte (m : Moment) (c : LineChar)
  /-- LINE_SILENCE_TIMEOUT (R179). -/
  | lineSilenceTimeout
  /-- REPLY_COMPLETE (R181). -/
  | replyComplete
  /-- STRIKE_END (R22). -/
  | strikeEnd (p : Proj)
  /-- LAMP_FAIL (R24). -/
  | lampFail (p : Proj)
  /-- RUNUP_TIMEOUT (R28). -/
  | runupTimeout (p : Proj)
  /-- COAST_END (R29). -/
  | coastEnd (p : Proj)
  /-- LOCK_DECLARED (R54). -/
  | lockDeclared (p : Proj)
  /-- SLIP_CORRECTION (R57). -/
  | slipCorrection (p : Proj)
  /-- MISSING_EDGE (R58). -/
  | missingEdge (p : Proj)
  /-- MIRROR_COMPLETE (R83). -/
  | mirrorComplete (i : Isl)
  /-- MIRROR_DEADLINE (R84). -/
  | mirrorDeadline (i : Isl)
  /-- TAKE_GRANT (R93). -/
  | takeGrant
  /-- TAKE_STROBE_DROP (R93). -/
  | takeStrobeDrop
  /-- TAKE_WINDOW_JUDGED (R97). -/
  | takeWindowJudged
  /-- CHANGEOVER_START (R137). -/
  | changeoverStart (r : Rec)
  /-- LOCK_DECISION (R146). -/
  | lockDecision (r : Rec)
  /-- SWITCH_CUT_POST (R152). -/
  | switchCutPost (r : Rec)
  /-- MIRROR_CUT (R154). -/
  | mirrorCut (r : Rec)
  /-- SET_STANDARD (R14). -/
  | setStandard (m : Moment) (standard : Byte)
  /-- SET_ROUTE (R79). -/
  | setRoute (m : Moment) (projector island port : Byte)
  /-- SET_ISLAND (R80). -/
  | setIsland (m : Moment) (island source travel : Byte)
  /-- SET_PROJECTOR (R38). -/
  | setProjector (m : Moment) (body : ProjectorBody)
  /-- SET_SIGNATURE (R76). -/
  | setSignature (m : Moment) (projector length pattern : Byte)
  /-- SET_SAFETY (R99). -/
  | setSafety (m : Moment) (source flags : Byte)
  /-- SET_HORIZON (R144). -/
  | setHorizon (m : Moment) (horizon : BitVec 16)
  /-- SET_MASK (R172). -/
  | setMask (m : Moment) (unit : Byte) (kinds : BitVec 32) (setting : Byte)
  /-- SET_REPORT (R64). -/
  | setReport (m : Moment) (projector : Byte) (period : BitVec 16)
  /-- SET_GROUP (R182). -/
  | setGroup (m : Moment) (mask : Byte)
  /-- LAMP on (R21). -/
  | lampOn (m : Moment) (via : Via) (projector : Byte)
  /-- LAMP off (R23). -/
  | lampOff (m : Moment) (via : Via) (projector : Byte)
  /-- START (R25). -/
  | start (m : Moment) (via : Via) (projector : Byte)
  /-- STOP (R29). -/
  | stop (m : Moment) (via : Via) (projector : Byte)
  /-- INCH forward (R30). -/
  | inchForward (m : Moment) (projector : Byte)
  /-- INCH reverse (R30). -/
  | inchReverse (m : Moment) (projector : Byte)
  /-- INCH stop (R30). -/
  | inchStop (m : Moment) (projector : Byte)
  /-- CLEAR (R32). -/
  | clear (m : Moment) (projector : Byte)
  /-- SET_MODE (R36). -/
  | setMode (m : Moment) (via : Via) (projector mode : Byte)
  /-- PRESET (R37); the frame count is the 3-byte two's complement field of R183. -/
  | preset (m : Moment) (projector : Byte) (frame : BitVec 24)
  /-- LOAD_CUES (R111): the two header bytes and the bytes of the entries (R184). -/
  | loadCues (m : Moment) (header watermark : Byte) (entries : List Byte)
  /-- DELETE_CUE (R113). -/
  | deleteCue (m : Moment) (cue : BitVec 16)
  /-- CLEAR_CUES (R114). -/
  | clearCues (m : Moment) (projector : Byte)
  /-- QUERY_CUES (R115). -/
  | queryCues (m : Moment) (projector start : Byte)
  /-- ABORT_CHANGE (R162). -/
  | abortChange (m : Moment) (cue : BitVec 16)
  /-- QUERY_CHANGES (R145). -/
  | queryChanges (m : Moment)
  /-- TAKE (R96). -/
  | take (m : Moment) (source : Byte)
  /-- MIRROR (R87). -/
  | mirror (m : Moment) (island port : Byte)
  /-- QUERY_PROJECTOR (R43). -/
  | queryProjector (m : Moment) (projector clearFlag : Byte)
  /-- QUERY_ISLAND (R89). -/
  | queryIsland (m : Moment) (island : Byte)
  /-- QUERY_DEVICE (R188). -/
  | queryDevice (m : Moment) (clearFlag : Byte)
  /-- QUERY_ALARMS (R174). -/
  | queryAlarms (m : Moment) (unit : Byte)
  /-- ACK_ALARMS (R170). -/
  | ackAlarms (m : Moment) (unit : Byte) (kinds : BitVec 32)
  /-- POLL (R185). -/
  | poll (m : Moment)
  /-- RESTART (R189). -/
  | restart (m : Moment) (via : Via)
  /-- RESET_ASSERTED (R176). -/
  | resetAsserted (m : Moment)
  /-- REPLY_START (R181): begun `wait` units after the taken frame's last stop bit. -/
  | replyStart (wait : Nat)
  deriving DecidableEq, Repr

end Sys2Proof
end

