-- ==== Sys2Proof/Decode.lean ====
section
/-! DEFINITION. The command that a word spells by the bits of the opcode table. The part is no processor: every row of the
table has an empty list of fields, so no word spells a command. The frames of the control line, which do carry message codes,
are read character by character in Machine/Line.lean. -/

namespace Sys2Proof

/-- The command that a word of the opcode table spells: none, since the table gives no row any bits. -/
def decodeTableWord (_nbits _w : Nat) : Option Instr := none

end Sys2Proof
end

