-- ==== Sys2Proof/Config.lean ====
section
/-! DEFINITION. What is fixed for the machine: the unit in which the model measures time, and the sizes
that the reference states once. The reference leaves no value open that the model would have to hold as a
free value (INVENTORY.md, What the manual leaves open). -/

namespace Sys2Proof.Config

/-- The model's unit of time is 1/38,400,000 of a second. Every duration that the reference compares against
is a whole number of units: a nominal period and its halves, sixteenths and sixty-fourths under both standards,
and a character time at each rate. DESIGN CHOICE, safe, assumption 1. -/
def unitsPerSecond : Nat := 38400000

/-- Notices that the queue holds (R185). -/
def queueRoom : Nat := 16

/-- Entries of the cue pool (R107). -/
def poolSize : Nat := 256

/-- Lowest frame count (R47). -/
def frameMin : Int := -99999

/-- Highest frame count, and highest cue position (R47, R109). -/
def frameMax : Int := 999999

/-- Where a 16-bit count of the tracker or the line controller saturates (R62, R176). -/
def countMax : Nat := 65535

end Sys2Proof.Config
end

