-- ==== Sys2Proof/Machine/State.lean ====
section
/-! DEFINITION. The state of the part, block by block as the chapters own it, the reasons a step can stop, and
the state after reset. Every item of the state tables of R1, R15, R44, R66, R77, R90, R106, R126, R127, R164, R173
and R176 stands here; INVENTORY.md lists them with their rules and reset values. -/

namespace Sys2Proof.Machine

/-! ### Timebase (R1 to R8) -/

/-- The television standard (R1). -/
inductive Standard where
  | s50
  | s60
  deriving DecidableEq, Repr

/-- The field length of one film frame (R1). -/
inductive Step where
  | even
  | long
  | short
  deriving DecidableEq, Repr

/-- The timebase states (R2 to R7). -/
inductive TbState where
  | acquire
  | sync
  | lost
  deriving DecidableEq, Repr

/-- The timebase (state table of chapter 1), with the times it compares. -/
structure Timebase where
  standard : Standard
  state : TbState
  /-- The field counter (R8). -/
  field : Field
  /-- The run count, 0..16 (R2). -/
  runCount : Nat
  /-- The time at which the running internal tick makes its next boundary; absent when stopped (R3). -/
  tick : Option Nat
  /-- Time of the last FLD pulse (R2). -/
  lastPulse : Option Nat
  /-- Time of the most recent internal boundary (R5). -/
  lastTick : Option Nat
  /-- Time at which the field in progress began: the last boundary, or the release of RESET (R8, R51). -/
  fieldStart : Nat
  /-- Whether the last boundary was made in SYNC (R92). -/
  madeInSync : Bool
  deriving DecidableEq, Repr

/-! ### Projector channels (R15, R16) -/

/-- Projector states (R15). -/
inductive ProjState where
  | dark
  | strike
  | ready
  | runup
  | run
  | coast
  | inch
  | fault
  deriving DecidableEq, Repr

/-- Fault causes (R15). -/
inductive Cause where
  | none
  | lampFail
  | lockFail
  | filmBreak
  | loopLoss
  | runout
  | estop
  deriving DecidableEq, Repr

/-- Modes (R36). -/
inductive Mode where
  | auto
  | manual
  deriving DecidableEq, Repr

/-- Film gauges (R16). -/
inductive Gauge where
  | g35
  | g16
  deriving DecidableEq, Repr

/-- A running timer: the field in which it was started, its count of the boundaries after that, and the count at which
it ends, as held when it was started (R21, R25, R28). -/
structure Timer where
  start : Field
  count : Nat
  limit : Nat
  deriving DecidableEq, Repr

/-- The run-up record (R15, R25). -/
structure RunRecord where
  startField : Field
  startFrame : Int
  fromReady : Bool
  deriving DecidableEq, Repr

/-- The channel's configuration (R16). -/
structure ChanConfig where
  gauge : Gauge
  strikeFields : Nat
  runupLimit : Nat
  stillness : Nat
  progU : Nat
  progD : Nat
  adaptDepth : Nat
  deriving DecidableEq, Repr

/-- One projector channel (R15). -/
structure Channel where
  state : ProjState
  cause : Cause
  mode : Mode
  /-- MOTOR output. -/
  motor : Bool
  /-- LAMP output. -/
  lamp : Bool
  /-- DOUSE output, true when open. -/
  douse : Bool
  /-- INCHF output. -/
  inchF : Bool
  /-- INCHR output. -/
  inchR : Bool
  strike : Option Timer
  runup : Option Timer
  douseHeld : Bool
  /-- Still count, 0..63 (R20). -/
  still : Nat
  /-- Lamp-fail count, 0..2 (R24). -/
  lampFails : Nat
  record : Option RunRecord
  /-- Run-up history of (U_meas, D_meas), oldest first (R39). -/
  history : List (Nat × Nat)
  config : ChanConfig
  deriving DecidableEq, Repr

/-! ### Position trackers (R44) -/

/-- Lock states (R44). -/
inductive LockState where
  | unlocked
  | search
  | locked
  deriving DecidableEq, Repr

/-- A field-aligned position (f, i, c) (R9 to R13, R44). -/
structure Pos where
  f : Int
  i : Nat
  c : Step
  deriving DecidableEq, Repr

/-- A pending lock: the declaring boundary and the position fixed for it (R54). -/
structure PendingLock where
  declare : Field
  f : Int
  i : Nat
  c : Step
  deriving DecidableEq, Repr

/-- A slip correction that waits for the first boundary after its edge: that boundary and the position the
cadence gives frame g there (R57). -/
structure SlipWait where
  boundary : Field
  g : Int
  i : Nat
  c : Step
  deriving DecidableEq, Repr

/-- One position tracker (R44). -/
structure Tracker where
  /-- Frame count (R47). -/
  frame : Int
  /-- Perf phase, 0..G-1 (R46). -/
  phase : Nat
  motor : Bool
  lock : LockState
  /-- Interval count, absent or 0..15 (R48). -/
  interval : Option Nat
  /-- Empty count, 0..3 (R50). -/
  empty : Nat
  /-- In-window run, 0..15 (R53). -/
  run : Nat
  lastIn : Option Field
  pendingLock : Option PendingLock
  pos : Option Pos
  edgeDue : Option Field
  slipWait : Option SlipWait
  /-- Out counter, 0..7 (R56). -/
  out : Nat
  /-- Lock parameters (R52). -/
  w : Nat
  k : Nat
  m : Nat
  /-- The four counters (R62). -/
  slips : Nat
  perfDefects : Nat
  strayMarks : Nat
  corrections : Nat
  /-- Quiet window (start, until) (R61). -/
  quiet : Option (Int × Int)
  /-- Report period, 0 or 16..4096 (R64). -/
  period : Nat
  /-- Direction of the last perforation taken, true for forward (R63): `Tracker.direction` is the motion direction. -/
  forward : Bool
  deriving DecidableEq, Repr

/-- One mark detector (R66). -/
structure Detector where
  sigLen : Nat
  /-- The signature's samples, oldest first. -/
  sigPat : List Bool
  /-- The sample history, newest last. -/
  history : List Bool
  latch : Bool
  /-- A match handed to the cue store that it has not taken yet, by its detected frame (R69, R70). -/
  found : Option Int
  deriving DecidableEq, Repr

/-! ### Cue store (R106 to R110) -/

/-- Late policies (R110). -/
inductive Policy where
  | cutOnTime
  | hold
  | abandon
  deriving DecidableEq, Repr

/-- The kind part of a CHANGE entry (R110). The tail-out is absent for KEEP. The two high bits of the policy
byte have no meaning in R184 but are returned as loaded, so they are held (DEDUCED, unsafe, assumption 22). -/
structure ChangePart where
  incoming : Proj
  target : Nat
  tolerance : Nat
  policy : Policy
  priority : Fin 4
  spare : BitVec 2
  margin : Byte
  tailOut : Option Nat
  deriving DecidableEq, Repr

/-- The kind of a cue with its kind part (R109). -/
inductive CueKind where
  | change (part : ChangePart)
  | stop
  | note
  | mark (tolerance : Nat)
  | quiet (length : Nat)
  deriving DecidableEq, Repr

/-- A cue entry (R109). -/
structure CueEntry where
  number : Nat
  pos : Nat
  kind : CueKind
  deriving DecidableEq, Repr

/-- Outcomes of a consumption (R116). -/
inductive CueOutcome where
  | actioned
  | skipped
  | missed
  | armed
  | noPreroll
  | matched
  | missing
  deriving DecidableEq, Repr

/-- The cue store (R106). -/
structure CueStore where
  /-- Free entries of the pool (R107). -/
  free : Nat
  lists : Vector (List CueEntry) 8
  low : Vector Nat 8
  deriving DecidableEq, Repr

/-! ### Changeover engine (R126 to R128) -/

/-- States of a record that is not FREE (R128). A FREE record is an absent one. -/
inductive RecState where
  | armed
  | starting
  | locked
  | cutting
  | tailout
  deriving DecidableEq, Repr

/-- The method of a changeover (R127). -/
inductive Method where
  | mirror
  | switch
  deriving DecidableEq, Repr

/-- Results of a record (R148, R150). -/
inductive Result where
  | onTime
  | lateCut
  | held
  | heldShort
  | early
  | abandoned
  | late
  | emergency
  | mirrorFail
  | incomingFailed
  | outgoingFailed
  | aborted
  | restart
  | estop
  deriving DecidableEq, Repr

/-- The flags of a record (R127). -/
structure RecFlags where
  corrected : Bool
  cadenceBreak : Bool
  unlockedAtCut : Bool
  lateStart : Bool
  deriving DecidableEq, Repr

/-- The contents of a record that is not FREE (R127). -/
structure Record where
  state : RecState
  cue : Nat
  a : Proj
  b : Proj
  p : Nat
  q : Nat
  tolerance : Nat
  policy : Policy
  margin : Nat
  priority : Fin 4
  tailOut : Option Nat
  method : Method
  uUsed : Nat
  dUsed : Nat
  stepP : Step
  lead : Nat
  startField : Option Field
  e : Option Int
  planned : Option Field
  cutMade : Option Field
  deferrals : Nat
  flags : RecFlags
  result : Option Result
  deriving DecidableEq, Repr

/-- The changeover engine (R126). -/
structure Engine where
  records : Vector (Option Record) 4
  /-- Arm horizon, 24..9999 frames. -/
  horizon : Nat
  deriving DecidableEq, Repr

/-! ### Island units (R77) -/

/-- A pending mirror command (R77, R81). -/
structure MirrorCmd where
  port : Port
  deadline : Field
  deriving DecidableEq, Repr

/-- One island unit (R77). -/
structure Island where
  source : Source
  /-- Mirror travel, 1..15 fields. -/
  travel : Nat
  /-- Commanded port, driven on MCMD. -/
  commanded : Port
  pending : Option MirrorCmd
  /-- Whether a command was pending at the last boundary (R85). -/
  wasPending : Bool
  /-- Previous reading of MPOS. -/
  reading : Option (Fin 4)
  /-- Settled position; absent for NONE. -/
  settled : Option Port
  mismatch : Bool
  claim : Option Rec
  /-- Tally as read at the last boundary; absent before the first. -/
  tally : Option Bool
  /-- Tally reading of the field before (R97). -/
  tallyBefore : Bool
  deriving DecidableEq, Repr

/-! ### Take port (R90) -/

/-- Where a take comes from (R90). -/
inductive Origin where
  | record (r : Rec)
  | protective
  | host
  deriving DecidableEq, Repr

/-- A changeover request (R90, R91). -/
structure ChangeReq where
  source : Source
  priority : Fin 4
  posted : Field
  due : Field
  deferrals : Nat
  deriving DecidableEq, Repr

/-- The protective request (R90, R104). -/
structure ProtectReq where
  source : Source
  target : Option Proj
  posted : Field
  due : Field
  deriving DecidableEq, Repr

/-- The host request (R90, R96). -/
structure HostReq where
  source : Source
  posted : Field
  due : Field
  deriving DecidableEq, Repr

/-- The last take (R90). -/
structure LastTake where
  field : Field
  source : Source
  origin : Origin
  deriving DecidableEq, Repr

/-- A confirmation window (R97), with what the tallies have shown in its fields so far. -/
structure Window where
  take : Field
  target : Option Isl
  previous : Vector Bool 4
  /-- The target's tally was asserted in some field of the window. -/
  seenOn : Bool
  /-- The island's tally was not asserted in some field of the window. -/
  seenOff : Vector Bool 4
  deriving DecidableEq, Repr

/-- The take port (R90). -/
structure TakePort where
  slots : Vector (Option ChangeReq) 4
  protective : Option ProtectReq
  host : Option HostReq
  safety : Source
  /-- Protect set: bit 0 FILM_BREAK to bit 6 LOCK_LOST in the order of R99. -/
  protectSet : BitVec 7
  /-- TSRC lines. -/
  tsrc : Source
  /-- TAKE strobe. -/
  strobe : Bool
  last : Option LastTake
  window : Option Window
  deriving DecidableEq, Repr

/-! ### Alarm unit (R164, R165, R173) -/

/-- The 17 kinds of a projector unit in the order of R165. -/
inductive ProjAlarm where
  | filmBreak
  | loopLoss
  | runout
  | lampFail
  | lockFail
  | changeMissed
  | changeAbandoned
  | protect
  | lockLost
  | slip
  | perfDefect
  | markMissing
  | strayMark
  | framing
  | counterLimit
  | cueLow
  | cueUnderrun
  deriving DecidableEq, Repr

/-- The 3 kinds of an island unit in the order of R165. -/
inductive IslAlarm where
  | mirrorMismatch
  | takeUnconfirmed
  | tallyChange
  deriving DecidableEq, Repr

/-- The 7 kinds of unit DEVICE in the order of R165. -/
inductive DevAlarm where
  | syncLost
  | estop
  | syncRestored
  | estopReleased
  | lineError
  | lineOverrun
  | noticeLost
  deriving DecidableEq, Repr

/-- A (unit, kind) pair that exists: a unit holds the kinds of its own group and no other (R165). -/
inductive AlarmId where
  | proj (p : Proj) (k : ProjAlarm)
  | isl (i : Isl) (k : IslAlarm)
  | dev (k : DevAlarm)
  deriving DecidableEq, Repr

/-- Latch, occurrence count and enable of one (unit, kind) (R164). -/
structure Latch where
  set : Bool
  /-- 0..255. -/
  count : Nat
  enabled : Bool
  deriving DecidableEq, Repr

/-- A projector's condition flags as read at the last boundary (R173). -/
structure ProjFlags where
  lampok : Bool
  loop : Bool
  tail : Bool
  deriving DecidableEq, Repr

/-- The alarm unit (R164). The condition flags of R173 that follow state held elsewhere (mirror mismatch, tally,
sync, estop) are read from that state (DESIGN CHOICE, safe, assumption 24). -/
structure AlarmUnit where
  proj : Vector (Vector Latch 17) 8
  isl : Vector (Vector Latch 3) 4
  dev : Vector Latch 7
  flags : Vector ProjFlags 8
  /-- MAJOR line. -/
  major : Bool
  /-- MINOR line. -/
  minor : Bool
  deriving DecidableEq, Repr

/-! ### Notices and the line controller (R176, R185) -/

/-- The kind of a cue without its kind part, as notices carry it (R125). -/
inductive CueTag where
  | change
  | stop
  | note
  | mark
  | quiet
  deriving DecidableEq, Repr

/-- The content of a CUE notice (R125). -/
structure CueNotice where
  projector : Proj
  cue : Nat
  kind : CueTag
  pos : Nat
  outcome : CueOutcome
  value : Int
  field : Field
  frame : Int
  deriving DecidableEq, Repr

/-- The content of a CHANGE notice (R151). -/
structure ChangeNotice where
  index : Rec
  cue : Nat
  a : Proj
  b : Proj
  p : Nat
  q : Nat
  method : Method
  result : Result
  e : Option Int
  planned : Option Field
  cutMade : Option Field
  deferrals : Nat
  flags : RecFlags
  startField : Option Field
  ended : Field
  deriving DecidableEq, Repr

/-- The content of a POSITION notice (R65). -/
structure PosNotice where
  projector : Proj
  frame : Int
  phase : Nat
  lock : LockState
  field : Field
  deriving DecidableEq, Repr

/-- A notice (R185, R186). The class of an ALARM notice follows from its kind (R165). -/
inductive Notice where
  | alarm (id : AlarmId) (field : Field) (frame : Option Int)
  | cue (n : CueNotice)
  | change (n : ChangeNotice)
  | position (n : PosNotice)
  deriving DecidableEq, Repr

/-- Receiver states (R178). RECEIVE knows, once the address byte is read, how the frame is addressed. FOREIGN
counts the bytes still to be dropped once the length byte is read. -/
inductive RxState where
  | idle
  | receive (via : Option Via)
  | foreign (left : Option Nat)
  | discard
  deriving DecidableEq, Repr

/-- A reply that is pending (R181): its bytes, the time of its frame's last stop bit, and the time at which the
return pair began to be driven, absent before that. -/
structure Reply where
  bytes : List Byte
  frameEnd : Nat
  started : Option Nat
  deriving DecidableEq, Repr

/-- The line controller (R176). -/
structure Line where
  own : BitVec 6
  rate : BitVec 2
  mask : BitVec 6
  rx : RxState
  /-- The bytes of the frame being read, from its address byte on. -/
  buffer : List Byte
  /-- Time of the last character's stop bit. -/
  lastByte : Nat
  /-- The reply being waited for or sent; its presence is the reply pending flag. -/
  reply : Option Reply
  queue : List Notice
  taken : Nat
  faults : Nat
  overruns : Nat
  discarded : Nat
  deriving DecidableEq, Repr

/-! ### The whole part -/

/-- The state of the part. `now`, `due`, `unmoved` and `pending` are the model's own fields: the clock, the steps of the present
boundary that have not been taken, the trackers that have yet to react to it, and the queue of commands that wait (DESIGN CHOICE,
safe, assumptions 1, 7, 9 and 25). -/
structure State where
  /-- The clock, in units of `Config.unitsPerSecond` since RESET was released. -/
  now : Nat
  /-- The input lines as they last stood. -/
  pins : Pins
  /-- The RESET input is asserted. -/
  resetHeld : Bool
  /-- The ESTOP line is asserted. -/
  estop : Bool
  tb : Timebase
  ch : Vector Channel 8
  tr : Vector Tracker 8
  det : Vector Detector 8
  cues : CueStore
  eng : Engine
  isl : Vector Island 4
  /-- The routing map (R78). -/
  route : Vector (Option (Isl × Port)) 8
  take : TakePort
  alarm : AlarmUnit
  line : Line
  due : List Due
  /-- The projectors whose tracker has yet to react to the boundary that is being made. -/
  unmoved : List Proj
  pending : List Instr
  deriving DecidableEq, Repr

/-- The reasons for which a step stops the machine with a fault. There is none: every command of the table has an
effect in every state, so no constructor is raised by anything, which is safe (assumption 2). -/
inductive Fault where
  deriving DecidableEq, Repr

/-- The reasons for which a step refuses a command. -/
inductive Refusal where
  /-- Raised by `exec`'s arm of a command that has no meaning yet. Safe: the machine stops. No arm raises it now. -/
  | notModelled (mnemonic : String)
  deriving DecidableEq, Repr

/-! ### Power-on values -/

/-- Power-on values of the timebase (state table of chapter 1; R3, R8). One nominal period of S50 is 768,000 units. -/
def Timebase.powerOn : Timebase where
  standard := .s50
  state := .acquire
  field := 0
  runCount := 0
  tick := some 768000
  lastPulse := none
  lastTick := none
  fieldStart := 0
  madeInSync := false

/-- Power-on values of a channel (R15, R16). -/
def Channel.powerOn : Channel where
  state := .dark
  cause := .none
  mode := .manual
  motor := false
  lamp := false
  douse := false
  inchF := false
  inchR := false
  strike := none
  runup := none
  douseHeld := false
  still := 63
  lampFails := 0
  record := none
  history := []
  config := ⟨.g35, 100, 300, 10, 60, 8, 0⟩

/-- Power-on values of a tracker (R44). -/
def Tracker.powerOn : Tracker where
  frame := 0
  phase := 0
  motor := false
  lock := .unlocked
  interval := none
  empty := 0
  run := 0
  lastIn := none
  pendingLock := none
  pos := none
  edgeDue := none
  slipWait := none
  out := 0
  w := 6
  k := 4
  m := 3
  slips := 0
  perfDefects := 0
  strayMarks := 0
  corrections := 0
  quiet := none
  period := 0
  -- DESIGN CHOICE, unsafe, assumption 3: no perforation has been taken, the direction is held as forward.
  forward := true

/-- Power-on values of a mark detector (R66). -/
def Detector.powerOn : Detector where
  sigLen := 5
  sigPat := [false, true, true, true, false]
  history := []
  latch := false
  -- DEDUCED, safe, assumption 26: no sample has been taken, so no match waits.
  found := none

/-- Power-on values of the cue store (R106). -/
def CueStore.powerOn : CueStore where
  free := 256
  lists := Vector.replicate 8 []
  low := Vector.replicate 8 2

/-- Power-on values of the changeover engine (R126). -/
def Engine.powerOn : Engine where
  records := Vector.replicate 4 none
  horizon := 480

/-- Power-on values of an island unit with its source code (R77). -/
def Island.powerOn (source : Source) : Island where
  source := source
  travel := 6
  commanded := 0
  pending := some ⟨0, 14⟩
  wasPending := false
  reading := none
  settled := none
  mismatch := false
  claim := none
  tally := none
  tallyBefore := false

/-- Power-on values of the take port (R90, R99). -/
def TakePort.powerOn : TakePort where
  slots := Vector.replicate 4 none
  protective := none
  host := none
  safety := 0
  protectSet := 0x3F
  tsrc := 0
  strobe := false
  last := none
  window := none

/-- Power-on values of a latch (R164). -/
def Latch.powerOn : Latch := ⟨false, 0, true⟩

/-- Power-on values of the alarm unit (R164, R173). -/
def AlarmUnit.powerOn : AlarmUnit where
  proj := Vector.replicate 8 (Vector.replicate 17 Latch.powerOn)
  isl := Vector.replicate 4 (Vector.replicate 3 Latch.powerOn)
  dev := Vector.replicate 7 Latch.powerOn
  flags := Vector.replicate 8 ⟨false, false, false⟩
  major := false
  minor := false

/-- Power-on values of the line controller with its straps (R176). -/
def Line.powerOn (own : BitVec 6) (rate : BitVec 2) : Line where
  own := own
  rate := rate
  mask := 0
  rx := .idle
  buffer := []
  lastByte := 0
  reply := none
  queue := []
  taken := 0
  faults := 0
  overruns := 0
  discarded := 0

/-- Every block at its power-on values, with the straps and input lines as they read at the release of RESET and
the ESTOP line not asserted (R8, R176). -/
def State.powerOn (own : BitVec 6) (rate : BitVec 2) (pins : Pins) : State where
  now := 0
  pins := pins
  resetHeld := false
  estop := false
  tb := Timebase.powerOn
  ch := Vector.replicate 8 Channel.powerOn
  tr := Vector.replicate 8 Tracker.powerOn
  det := Vector.replicate 8 Detector.powerOn
  cues := CueStore.powerOn
  eng := Engine.powerOn
  isl := #v[Island.powerOn 1, Island.powerOn 2, Island.powerOn 3, Island.powerOn 4]
  route := #v[some (0, 0), some (0, 1), some (1, 0), some (1, 1), some (2, 0), some (2, 1), some (3, 0), some (3, 1)]
  take := TakePort.powerOn
  alarm := AlarmUnit.powerOn
  line := Line.powerOn own rate
  due := []
  unmoved := []
  pending := []

/-- The part right after reset: every block at its power-on values, no command waiting. The straps and the input
lines are the outside world's; here the address straps and the rate straps read 0 and the inputs are at rest
(DESIGN CHOICE, unsafe, assumption 3). -/
def State.reset : State := State.powerOn 0 0 Pins.rest

end Sys2Proof.Machine
end

