-- ==== Sys2Proof/Machine/Cadence.lean ====
section
/-! DEFINITION. Field numbers, the cadence arithmetic and the durations of chapter 1. -/

namespace Sys2Proof.Machine

/-! ### Field numbers (R9) -/

/-- The signed difference d(a, b) of field numbers (R9). -/
def fieldDiff (a b : Field) : Int := (a - b).toInt

/-- "now + k": the absolute field computed from a count of fields (R9). -/
def fieldAdd (n : Field) (k : Int) : Field := n + BitVec.ofInt 32 k

/-- A field that is due "at or before" boundary n (R9). -/
def fieldReached (due n : Field) : Bool := decide (fieldDiff due n ≤ 0)

/-! ### Standards, steps and durations (R1, R177) -/

/-- The nominal field period in units of time: 20 ms under S50 and 1/60 s under S60 (R1). -/
def Standard.period : Standard → Nat
  | .s50 => 768000
  | .s60 => 640000

/-- Whether a spacing of pulses is good: within 1/16 of the nominal period (R2). -/
def Standard.goodSpacing (s : Standard) (spacing : Nat) : Bool :=
  decide (s.period ≤ spacing + s.period / 16) && decide (spacing ≤ s.period + s.period / 16)

/-- Whether a spacing of boundaries, in fields, is a step length of the standard (R1, R53). -/
def Standard.stepLength (s : Standard) (d : Int) : Bool :=
  match s with
  | .s50 => decide (d = 2)
  | .s60 => decide (d = 2) || decide (d = 3)

/-- One character time, 11 bit times, at the rate of the RATE straps (R177). -/
def charTime (rate : BitVec 2) : Nat :=
  match rate.toNat with
  | 0 => 44000
  | 1 => 22000
  | _ => 11000

/-- The length of a step in fields (R1). -/
def Step.len : Step → Nat
  | .even => 2
  | .long => 3
  | .short => 2

/-- The step of the next frame (R1). -/
def Step.flip : Step → Step
  | .even => .even
  | .long => .short
  | .short => .long

/-- Perforations per frame of a gauge (R44). -/
def Gauge.perfs : Gauge → Nat
  | .g35 => 4
  | .g16 => 1

/-- Frames per foot of a gauge (Conventions, Frame counts). -/
def Gauge.framesPerFoot : Gauge → Int
  | .g35 => 16
  | .g16 => 40

/-! ### Cadence sum, step and reach (R10 to R12) -/

/-- The cadence sum cad(n, s) (R10). The step EVEN is the only one of S50 and never one of S60. -/
def cad (n : Nat) (s : Step) : Nat :=
  match s with
  | .even => 2 * n
  | s => 5 * (n / 2) + (if n % 2 = 1 then s.len else 0)

/-- The step of frame X seen from a position (R11). -/
def Pos.stepOf (q : Pos) (x : Int) : Step :=
  if (x - q.f).natAbs % 2 = 0 then q.c else q.c.flip

/-- The reach of frame X seen from a position (R12). -/
def Pos.reach (q : Pos) (x : Int) : Int :=
  if q.f < x then
    ((q.c.len : Int) - q.i) + cad (x - q.f - 1).toNat q.c.flip
  else
    -((cad (q.f - x).toNat (q.stepOf x) : Int) + q.i)

/-- The position one boundary later by the cadence alone (R55), before the limit of R47. -/
def Pos.advance (q : Pos) : Pos :=
  if q.i + 1 < q.c.len then { q with i := q.i + 1 } else ⟨q.f + 1, 0, q.c.flip⟩

/-! ### Whole-number helpers -/

/-- A count that stops at its largest value (Conventions, Arithmetic). -/
def satInc (top n : Nat) : Nat := min top (n + 1)

/-- A value taken to the nearer end of a range (R180). -/
def clampNat (lo hi n : Nat) : Nat := max lo (min hi n)

/-- A frame count held at the limits of R47. -/
def clampFrame (x : Int) : Int := max Config.frameMin (min Config.frameMax x)

/-- Whether a frame count lies within the limits of R47. -/
def frameInRange (x : Int) : Bool := decide (Config.frameMin ≤ x) && decide (x ≤ Config.frameMax)

/-- Whether a frame count lies in a quiet window (R61). -/
def inQuiet (w : Option (Int × Int)) (frame : Int) : Bool :=
  match w with
  | none => false
  | some (start, untilF) => decide (start ≤ frame) && decide (frame < untilF)

end Sys2Proof.Machine
end

