-- ==== Sys2Proof/Machine/Operands.lean ====
section
/-! DEFINITION. The wire forms of chapter 11: byte order, the codes of the enumerations (R183), reply statuses (R180),
how message fields name projectors, islands, ports, sources and alarm units, and cue entries (R184). -/

namespace Sys2Proof.Machine

/-! ### Bytes, most significant first (R183) -/

/-- One byte of a number. -/
def b1 (n : Nat) : List Byte := [BitVec.ofNat 8 n]

/-- Two bytes, most significant first. -/
def b2 (n : Nat) : List Byte := [BitVec.ofNat 8 (n / 256), BitVec.ofNat 8 n]

/-- Three bytes, most significant first. -/
def b3 (n : Nat) : List Byte := BitVec.ofNat 8 (n / 65536) :: b2 n

/-- Four bytes, most significant first. -/
def b4 (n : Nat) : List Byte := b2 (n / 65536) ++ b2 n

/-- A signed number in three bytes of two's complement. -/
def s3 (x : Int) : List Byte := b3 (BitVec.ofInt 24 x).toNat

/-- A signed number in four bytes of two's complement. -/
def s4 (x : Int) : List Byte := b4 (BitVec.ofInt 32 x).toNat

/-- A field number in four bytes. -/
def bField (n : Field) : List Byte := b4 n.toNat

/-- An optional field number; an absent one holds 0 (R183). -/
def bFieldOpt (n : Option Field) : List Byte := bField (n.getD 0)

/-- An optional frame count with no presence bit; 0x800000 means absent (R183). -/
def bFrameOpt (x : Option Int) : List Byte :=
  match x with
  | none => [0x80, 0, 0]
  | some f => s3 f

/-- A byte of flags, bit 0 first. Bits to which the layouts of R183 and R186 to R188 give no meaning are 0 (DESIGN CHOICE, unsafe,
assumption 38). -/
def bFlags (bs : List Bool) : List Byte :=
  [BitVec.ofNat 8 (bs.foldr (fun b acc => (if b then 1 else 0) + 2 * acc) 0)]

/-- The number that bytes spell, most significant first. -/
def beNat (bs : List Byte) : Nat := bs.foldl (fun acc b => acc * 256 + b.toNat) 0

/-- The 16-bit field that two bytes spell. -/
def w16 (hi lo : Byte) : BitVec 16 := BitVec.ofNat 16 (hi.toNat * 256 + lo.toNat)

/-- The 24-bit field that three bytes spell. -/
def w24 (a b c : Byte) : BitVec 24 := BitVec.ofNat 24 (beNat [a, b, c])

/-- The 32-bit field that four bytes spell. -/
def w32 (a b c d : Byte) : BitVec 32 := BitVec.ofNat 32 (beNat [a, b, c, d])

/-! ### Identities in message fields -/

/-- The projector that a byte 1..8 names (R183). -/
def projOf (b : Byte) : Option Proj :=
  if h : 1 ≤ b.toNat ∧ b.toNat ≤ 8 then some ⟨b.toNat - 1, by omega⟩ else none

/-- The island that a byte 1..4 names (R183). -/
def islOf (b : Byte) : Option Isl :=
  if h : 1 ≤ b.toNat ∧ b.toNat ≤ 4 then some ⟨b.toNat - 1, by omega⟩ else none

/-- The port that a byte 0..2 names. -/
def portOf (b : Byte) : Option Port :=
  if h : b.toNat < 3 then some ⟨b.toNat, h⟩ else none

/-- The source code that a byte 0..31 names. -/
def sourceOf (b : Byte) : Option Source :=
  if h : b.toNat < 32 then some ⟨b.toNat, h⟩ else none

/-- The number of a projector in messages, 1..8. -/
def projNo (p : Proj) : Nat := p.val + 1

/-- The number of an island in messages, 1..4. -/
def islNo (i : Isl) : Nat := i.val + 1

/-- The number of an optional projector in messages, 0 for none. -/
def projNoOpt (p : Option Proj) : Nat := p.elim 0 projNo

/-- The clear flag of a query: 0 or 1 (R183). -/
def clearFlagOf (b : Byte) : Option Bool :=
  if b = 0 then some false else if b = 1 then some true else none

/-! ### Reply statuses (R180) -/

/-- The status of a reply (R180). -/
inductive Status where
  | accepted
  | acceptedClamped
  | badLength
  | badCode
  | badField
  | busy
  | estop
  | inChangeover
  | claimed
  | notStill
  | unknown
  | tooLate
  | duplicate
  deriving DecidableEq, Repr

/-- Status codes (R180). -/
def Status.code : Status → Byte
  | .accepted => 0x00
  | .acceptedClamped => 0x01
  | .badLength => 0x10
  | .badCode => 0x11
  | .badField => 0x12
  | .busy => 0x13
  | .estop => 0x14
  | .inChangeover => 0x15
  | .claimed => 0x16
  | .notStill => 0x17
  | .unknown => 0x18
  | .tooLate => 0x19
  | .duplicate => 0x1A

/-- The result of one entry of LOAD_CUES (R112). -/
inductive EntryResult where
  | accepted
  | poolFull
  | duplicate
  | passed
  | badField
  | badTarget
  deriving DecidableEq, Repr

/-- Entry result codes (R180). -/
def EntryResult.code : EntryResult → Byte
  | .accepted => 0x00
  | .duplicate => 0x1A
  | .badField => 0x12
  | .poolFull => 0x20
  | .passed => 0x21
  | .badTarget => 0x22

/-! ### Codes of the enumerations (R183) -/

/-- Standard codes. -/
def Standard.code : Standard → Nat
  | .s50 => 0
  | .s60 => 1

/-- The standard that a byte names. -/
def standardOf (b : Byte) : Option Standard :=
  if b = 0 then some .s50 else if b = 1 then some .s60 else none

/-- Gauge codes. -/
def Gauge.code : Gauge → Nat
  | .g35 => 0
  | .g16 => 1

/-- The gauge that a byte names. -/
def gaugeOf (b : Byte) : Option Gauge :=
  if b = 0 then some .g35 else if b = 1 then some .g16 else none

/-- Mode codes. -/
def Mode.code : Mode → Nat
  | .manual => 0
  | .auto => 1

/-- The mode that a byte names. -/
def modeOf (b : Byte) : Option Mode :=
  if b = 0 then some .manual else if b = 1 then some .auto else none

/-- Timebase state codes. -/
def TbState.code : TbState → Nat
  | .acquire => 0
  | .sync => 1
  | .lost => 2

/-- Lock state codes. -/
def LockState.code : LockState → Nat
  | .unlocked => 0
  | .search => 1
  | .locked => 2

/-- Step codes. -/
def Step.code : Step → Nat
  | .even => 0
  | .long => 1
  | .short => 2

/-- Projector state codes. -/
def ProjState.code : ProjState → Nat
  | .dark => 0
  | .strike => 1
  | .ready => 2
  | .runup => 3
  | .run => 4
  | .coast => 5
  | .inch => 6
  | .fault => 7

/-- Fault cause codes. -/
def Cause.code : Cause → Nat
  | .none => 0
  | .lampFail => 1
  | .lockFail => 2
  | .filmBreak => 3
  | .loopLoss => 4
  | .runout => 5
  | .estop => 6

/-- Late policy codes. -/
def Policy.code : Policy → Nat
  | .cutOnTime => 0
  | .hold => 1
  | .abandon => 2

/-- The late policy that a code names; 3 to 15 name none (R184). -/
def policyOf (n : Nat) : Option Policy :=
  match n with
  | 0 => some .cutOnTime
  | 1 => some .hold
  | 2 => some .abandon
  | _ => none

/-- Method codes. -/
def Method.code : Method → Nat
  | .switch => 0
  | .mirror => 1

/-- Cue kind codes. -/
def CueTag.code : CueTag → Nat
  | .change => 1
  | .stop => 2
  | .note => 3
  | .mark => 4
  | .quiet => 5

/-- The cue kind that a byte names. -/
def cueTagOf (b : Byte) : Option CueTag :=
  match b.toNat with
  | 1 => some .change
  | 2 => some .stop
  | 3 => some .note
  | 4 => some .mark
  | 5 => some .quiet
  | _ => none

/-- The kind of an entry without its kind part. -/
def CueKind.tag : CueKind → CueTag
  | .change _ => .change
  | .stop => .stop
  | .note => .note
  | .mark _ => .mark
  | .quiet _ => .quiet

/-- Outcome codes. -/
def CueOutcome.code : CueOutcome → Nat
  | .actioned => 1
  | .skipped => 2
  | .missed => 3
  | .armed => 4
  | .noPreroll => 5
  | .matched => 6
  | .missing => 7

/-- Record state codes; an absent record is FREE. -/
def RecState.code : RecState → Nat
  | .armed => 1
  | .starting => 2
  | .locked => 3
  | .cutting => 4
  | .tailout => 5

/-- Result codes. -/
def Result.code : Result → Nat
  | .onTime => 1
  | .lateCut => 2
  | .held => 3
  | .heldShort => 4
  | .early => 5
  | .abandoned => 6
  | .late => 7
  | .emergency => 8
  | .mirrorFail => 9
  | .incomingFailed => 10
  | .outgoingFailed => 11
  | .aborted => 12
  | .restart => 13
  | .estop => 14

/-- The record flags byte. -/
def RecFlags.byte (f : RecFlags) : List Byte := bFlags [f.corrected, f.cadenceBreak, f.unlockedAtCut, f.lateStart]

/-- Take origin codes. -/
def Origin.code : Origin → Nat
  | .record r => r.val
  | .protective => 4
  | .host => 5

/-! ### Alarm units and kinds (R165, R183) -/

/-- The 17 kinds of a projector unit in code order. -/
def ProjAlarm.all : List ProjAlarm :=
  [.filmBreak, .loopLoss, .runout, .lampFail, .lockFail, .changeMissed, .changeAbandoned, .protect, .lockLost, .slip,
    .perfDefect, .markMissing, .strayMark, .framing, .counterLimit, .cueLow, .cueUnderrun]

/-- The 3 kinds of an island unit in code order. -/
def IslAlarm.all : List IslAlarm := [.mirrorMismatch, .takeUnconfirmed, .tallyChange]

/-- The 7 kinds of DEVICE in code order. -/
def DevAlarm.all : List DevAlarm :=
  [.syncLost, .estop, .syncRestored, .estopReleased, .lineError, .lineOverrun, .noticeLost]

/-- Place of a kind among the kinds of a projector unit. -/
def ProjAlarm.idx : ProjAlarm → Fin 17
  | .filmBreak => 0
  | .loopLoss => 1
  | .runout => 2
  | .lampFail => 3
  | .lockFail => 4
  | .changeMissed => 5
  | .changeAbandoned => 6
  | .protect => 7
  | .lockLost => 8
  | .slip => 9
  | .perfDefect => 10
  | .markMissing => 11
  | .strayMark => 12
  | .framing => 13
  | .counterLimit => 14
  | .cueLow => 15
  | .cueUnderrun => 16

/-- Place of a kind among the kinds of an island unit. -/
def IslAlarm.idx : IslAlarm → Fin 3
  | .mirrorMismatch => 0
  | .takeUnconfirmed => 1
  | .tallyChange => 2

/-- Place of a kind among the kinds of DEVICE. -/
def DevAlarm.idx : DevAlarm → Fin 7
  | .syncLost => 0
  | .estop => 1
  | .syncRestored => 2
  | .estopReleased => 3
  | .lineError => 4
  | .lineOverrun => 5
  | .noticeLost => 6

/-- The alarm kind code 1..27 (R183). -/
def AlarmId.kindCode : AlarmId → Nat
  | .proj _ k => k.idx.val + 1
  | .isl _ k => k.idx.val + 18
  | .dev k => k.idx.val + 21

/-- The unit code 1..13 (R183). -/
def AlarmId.unitCode : AlarmId → Nat
  | .proj p _ => projNo p
  | .isl i _ => 8 + islNo i
  | .dev _ => 13

/-- Whether the class of an alarm is MAJOR; it follows from the kind (R165). -/
def AlarmId.isMajor : AlarmId → Bool
  | .proj _ k => decide (k.idx.val < 8)
  | .isl _ k => decide (k.idx.val < 2)
  | .dev k => decide (k.idx.val < 2)

/-- A unit of the alarm table (R165). -/
inductive AlarmUnitId where
  | proj (p : Proj)
  | isl (i : Isl)
  | device
  deriving DecidableEq, Repr

/-- The thirteen units in the order P1..P8, I1..I4, DEVICE (R174). -/
def allUnits : List AlarmUnitId := allProj.map .proj ++ allIsl.map .isl ++ [.device]

/-- The pairs of a unit, every kind it holds in the order of R165. -/
def AlarmUnitId.ids : AlarmUnitId → List AlarmId
  | .proj p => ProjAlarm.all.map (.proj p)
  | .isl i => IslAlarm.all.map (.isl i)
  | .device => DevAlarm.all.map .dev

/-- The 155 pairs of the table (R165). -/
def allAlarms : List AlarmId := allUnits.flatMap AlarmUnitId.ids

/-- The unit that a byte names: P1..P8 1..8, I1..I4 9..12, DEVICE 13 (R183). -/
def unitOf (b : Byte) : Option AlarmUnitId :=
  if h : 1 ≤ b.toNat ∧ b.toNat ≤ 8 then some (.proj ⟨b.toNat - 1, by omega⟩)
  else if h : 9 ≤ b.toNat ∧ b.toNat ≤ 12 then some (.isl ⟨b.toNat - 9, by omega⟩)
  else if b.toNat = 13 then some .device
  else none

/-- The units that a unit byte names, with 0xFF for ALL (R170, R183). -/
def unitsOf (b : Byte) : Option (List AlarmUnitId) :=
  if b = 0xFF then some allUnits else (unitOf b).map (fun u => [u])

/-- Whether a kinds field names ALL kinds. -/
def kindsAll (kinds : BitVec 32) : Bool := kinds = 0xFFFFFFFF

/-- Whether a kinds field names a pair's kind: bit k - 1 for kind code k, or ALL (R183). -/
def kindsHas (kinds : BitVec 32) (a : AlarmId) : Bool := kindsAll kinds || kinds.getLsbD (a.kindCode - 1)

/-- The checks of ACK_ALARMS and SET_MASK on their unit and kinds fields, and the pairs that they apply to
(R170, R183). Absent when a check fails with BAD_FIELD. -/
def alarmTargets (unit : Byte) (kinds : BitVec 32) : Option (List AlarmId) :=
  match unitsOf unit with
  | none => none
  | some units =>
    if !kindsAll kinds && decide (2 ^ 27 ≤ kinds.toNat) then none
    else
      let held := units.flatMap AlarmUnitId.ids
      let foreign := allAlarms.any (fun a => kinds.getLsbD (a.kindCode - 1) && !held.any (fun h => h.kindCode = a.kindCode))
      if unit ≠ 0xFF && !kindsAll kinds && foreign then none
      else some (held.filter (kindsHas kinds))

/-! ### Cue entries (R184) -/

/-- The bytes of a kind part (R184). -/
def CueTag.partSize : CueTag → Nat
  | .change => 9
  | .stop => 0
  | .note => 0
  | .mark => 1
  | .quiet => 2

/-- A cue entry as carried: its kind is known and its kind part has the length of its kind. -/
structure RawEntry where
  number : Nat
  pos : Nat
  tag : CueTag
  part : List Byte
  deriving DecidableEq, Repr

/-- What reading the entries of a LOAD_CUES body comes to: the entries, or the status that refuses it (R111). -/
inductive EntryScan where
  | entries (es : List RawEntry)
  | refused (st : Status)
  deriving DecidableEq, Repr

/-- Read `count` entries in order (R111, checks 2 and 3). -/
def scanEntries : Nat → List Byte → EntryScan
  | 0, rest => if rest = [] then .entries [] else .refused .badLength
  | count + 1, rest =>
    match rest with
    | n1 :: n0 :: p2 :: p1 :: p0 :: kind :: tail =>
      match cueTagOf kind with
      | none => .refused .badField
      | some tag =>
        match scanEntries count (tail.drop tag.partSize) with
        | .refused st => .refused st
        | .entries es =>
          if tail.length < tag.partSize then .refused .badLength
          else .entries (⟨beNat [n1, n0], beNat [p2, p1, p0], tag, tail.take tag.partSize⟩ :: es)
    | _ => .refused .badLength

/-- The fields of an entry's kind part, absent when one is out of range (R112, check 4). -/
def RawEntry.kind (e : RawEntry) : Option CueKind :=
  match e.tag, e.part with
  | .stop, _ => some .stop
  | .note, _ => some .note
  | .mark, [t] => if t.toNat ≤ 15 then some (.mark t.toNat) else none
  | .quiet, [h, l] => if beNat [h, l] = 0 then none else some (.quiet (beNat [h, l]))
  | .change, [b, q2, q1, q0, tol, pp, margin, t1, t0] =>
    match projOf b, policyOf (pp.toNat % 16) with
    | some incoming, some policy =>
      let q := beNat [q2, q1, q0]
      let t := beNat [t1, t0]
      if 999999 < q ∨ 15 < tol.toNat ∨ (4096 ≤ t ∧ t ≤ 65534) then none
      else some (.change {
        incoming := incoming
        target := q
        tolerance := tol.toNat
        policy := policy
        priority := ⟨pp.toNat / 16 % 4, Nat.mod_lt _ (by decide)⟩
        spare := BitVec.ofNat 2 (pp.toNat / 64)
        margin := margin
        tailOut := if t = 65535 then none else some t })
    | _, _ => none
  | _, _ => none

/-- The entry with every field in range, or absent (R112, check 4). -/
def RawEntry.checked (e : RawEntry) : Option CueEntry :=
  if e.number = 0 ∨ 999999 < e.pos then none
  else e.kind.map (fun k => ⟨e.number, e.pos, k⟩)

/-- A tail-out on the wire: 0xFFFF for KEEP (R184). -/
def tailOutWord (t : Option Nat) : Nat := t.getD 65535

/-- The bytes of a kind part (R184). -/
def CueKind.part : CueKind → List Byte
  | .change c =>
    b1 (projNo c.incoming) ++ b3 c.target ++ b1 c.tolerance
      ++ b1 (c.policy.code + 16 * c.priority.val + 64 * c.spare.toNat) ++ [c.margin] ++ b2 (tailOutWord c.tailOut)
  | .stop => []
  | .note => []
  | .mark t => b1 t
  | .quiet l => b2 l

/-- The bytes of an entry, as it was loaded (R184). -/
def CueEntry.bytes (e : CueEntry) : List Byte := b2 e.number ++ b3 e.pos ++ b1 e.kind.tag.code ++ e.kind.part

end Sys2Proof.Machine
end

