-- ==== Sys2Proof/Machine/Ops.lean ====
section
/-! DEFINITION. The named reads and updates of State that the blocks share: one per replicated block, the look-ups
of the changeover table, the on-air test, and the field-aligned position for the present field. -/

namespace Sys2Proof.Machine

/-! ### Tables of fixed length

Written out by place, so that the kernel evaluates them. -/

/-- Change every entry of a table of four. -/
def map4 {α β : Type} (f : α → β) (v : Vector α 4) : Vector β 4 := #v[f v[0], f v[1], f v[2], f v[3]]

/-- Change every entry of a table of eight. -/
def map8 {α β : Type} (f : α → β) (v : Vector α 8) : Vector β 8 :=
  #v[f v[0], f v[1], f v[2], f v[3], f v[4], f v[5], f v[6], f v[7]]

/-- The table of four whose entries a function gives. -/
def table4 {α : Type} (f : Fin 4 → α) : Vector α 4 := #v[f 0, f 1, f 2, f 3]

/-! ### Updates of one member of a replicated block -/

/-- Update one channel. -/
def State.updCh (s : State) (p : Proj) (f : Channel → Channel) : State :=
  { s with ch := s.ch.set p (f s.ch[p]) }

/-- Update one tracker. -/
def State.updTr (s : State) (p : Proj) (f : Tracker → Tracker) : State :=
  { s with tr := s.tr.set p (f s.tr[p]) }

/-- Update one mark detector. -/
def State.updDet (s : State) (p : Proj) (f : Detector → Detector) : State :=
  { s with det := s.det.set p (f s.det[p]) }

/-- Update one island unit. -/
def State.updIsl (s : State) (i : Isl) (f : Island → Island) : State :=
  { s with isl := s.isl.set i (f s.isl[i]) }

/-- Update one changeover record that is not FREE. -/
def State.updRec (s : State) (r : Rec) (f : Record → Record) : State :=
  { s with eng := { s.eng with records := s.eng.records.set r (s.eng.records[r].map f) } }

/-- Put a record into the table, or make it FREE. -/
def State.setRec (s : State) (r : Rec) (rec : Option Record) : State :=
  { s with eng := { s.eng with records := s.eng.records.set r rec } }

/-- Update the take port. -/
def State.updTake (s : State) (f : TakePort → TakePort) : State := { s with take := f s.take }

/-- Update the line controller. -/
def State.updLine (s : State) (f : Line → Line) : State := { s with line := f s.line }

/-- Update the timebase. -/
def State.updTb (s : State) (f : Timebase → Timebase) : State := { s with tb := f s.tb }

/-- Take a step out of the list of steps that wait at this boundary. -/
def State.dropDue (s : State) (d : Due) : State := { s with due := s.due.filter (fun x => x ≠ d) }

/-- Add a step to the list of steps that wait at this boundary. -/
def State.addDue (s : State) (d : Due) : State := { s with due := s.due ++ [d] }

/-- Add a step when a condition holds. -/
def State.addDueIf (s : State) (c : Bool) (d : Due) : State := if c then s.addDue d else s

/-! ### Look-ups -/

/-- The number of the field in progress (R8). -/
def State.field (s : State) : Field := s.tb.field

/-- The record of lowest index that a test picks out. -/
def State.findRec (s : State) (f : Record → Bool) : Option Rec :=
  allRec.find? (fun r => (s.eng.records[r]).any f)

/-- The record in which a projector is outgoing (R129). -/
def State.asOutgoing (s : State) (p : Proj) : Option Rec := s.findRec (fun rec => rec.a = p)

/-- The record in which a projector is incoming (R129). -/
def State.asIncoming (s : State) (p : Proj) : Option Rec := s.findRec (fun rec => rec.b = p)

/-- Whether a projector belongs to a record that is not FREE (R129). -/
def State.inRecord (s : State) (p : Proj) : Bool :=
  (s.asOutgoing p).isSome || (s.asIncoming p).isSome

/-- The island whose source code is a given one (R80). -/
def State.islandOfSource (s : State) (c : Source) : Option Isl :=
  allIsl.find? (fun i => s.isl[i].source = c)

/-- The island that a record holds a claim on (R86). -/
def State.claimedBy (s : State) (r : Rec) : Option Isl :=
  allIsl.find? (fun i => s.isl[i].claim = some r)

/-- The projector at a place of the routing map (R78). -/
def State.projAt (s : State) (i : Isl) (port : Port) : Option Proj :=
  allProj.find? (fun p => s.route[p] = some (i, port))

/-- The on-air test of R88: routed, tally asserted and mirror settled on the projector's port. -/
def State.onAir (s : State) (p : Proj) : Bool :=
  match s.route[p] with
  | none => false
  | some (i, port) => s.isl[i].tally = some true && s.isl[i].settled = some port

/-- The projector on air at an island (R88, R89). -/
def State.onAirAt (s : State) (i : Isl) : Option Proj :=
  match s.isl[i].settled with
  | none => none
  | some port => if s.isl[i].tally = some true then s.projAt i port else none

/-- Whether a projector is still: its still count is at least the stillness interval (R20). -/
def Channel.isStill (c : Channel) : Bool := decide (c.config.stillness ≤ c.still)

/-- Whether the channel is in RUNUP or RUN. -/
def Channel.running (c : Channel) : Bool := c.state = .runup || c.state = .run

/-- Whether the mark detector samples in the channel's state (R68). -/
def Channel.sampling (c : Channel) : Bool :=
  c.state = .runup || c.state = .run || c.state = .inch || c.state = .coast

/-- The state test shared by SET_PROJECTOR, SET_SIGNATURE and SET_ROUTE: RUNUP, RUN, INCH or COAST (R38, R76, R79). -/
def Channel.inMotion (c : Channel) : Bool := c.sampling

/-- The motion direction, true for forward: forward while the motor flag is on and, with the motor off, the direction of the last
perforation taken (R63). -/
def Tracker.direction (t : Tracker) : Bool := t.motor || t.forward

/-- The tally of an island for the field that begins at a boundary: TLY as it reads there (R88). A block that reacts before the
island's own reading uses the same tally (R8). -/
def State.tallyForField (s : State) (i : Isl) : Bool := s.pins.isl[i].tly

/-- Perforations per frame of a projector's film (R44). -/
def State.perfs (s : State) (p : Proj) : Nat := s.ch[p].config.gauge.perfs

/-- Whether the missing-edge test of R58 is met at the present boundary. -/
def Tracker.edgeMissing (t : Tracker) (n : Field) : Bool :=
  t.lock = .locked && t.edgeDue.any (fun d => n = d + 2)

/-- The position to which the cadence advances a tracker from a position, the frame count held at its limit (R47, R55). -/
def Tracker.advanced (t : Tracker) (q : Pos) : Pos :=
  if q.advance.f = q.f ∨ t.frame < Config.frameMax then q.advance else { q.advance with f := q.f }

/-- The field-aligned position of a tracker for the present field, its cadence giving `pos` (R9 to R13, R146). It is defined for the
field and not by which block reacts first: a slip correction, a lock or a loss of lock that belongs to this boundary counts
whether or not its own step has been taken (DEDUCED, unsafe, assumption 11). -/
def Tracker.fieldPos (t : Tracker) (n : Field) (pos : Option Pos) : Option Pos :=
  match t.lock with
  | .unlocked => none
  | .search =>
    match t.pendingLock with
    | none => none
    | some q => if q.declare = n then some ⟨t.frame, q.i, q.c⟩ else none
  | .locked =>
    match t.slipWait with
    | some w => if w.boundary = n then some ⟨clampFrame w.g, w.i, w.c⟩ else pos
    | none => if t.edgeMissing n then none else pos

/-- The field-aligned position of a projector for the present field: the advance of a tracker that has yet to react to the boundary
counts (R8, R130, R137). -/
def State.fieldPos (s : State) (p : Proj) : Option Pos :=
  let t := s.tr[p]
  t.fieldPos s.field (if p ∈ s.unmoved then t.pos.map t.advanced else t.pos)

/-! ### Effective run-up (R41) -/

/-- The rounded average of the newest d values of a list, oldest first (R41). -/
def averageNewest (d : Nat) (xs : List Nat) : Nat := ((xs.drop (xs.length - d)).sum + d / 2) / d

/-- U_eff of a channel (R41). -/
def Channel.uEff (c : Channel) : Nat :=
  if c.config.adaptDepth = 0 ∨ c.history.length < c.config.adaptDepth then c.config.progU
  else averageNewest c.config.adaptDepth (c.history.map Prod.fst)

/-- D_eff of a channel (R41). -/
def Channel.dEff (c : Channel) : Nat :=
  if c.config.adaptDepth = 0 ∨ c.history.length < c.config.adaptDepth then c.config.progD
  else averageNewest c.config.adaptDepth (c.history.map Prod.snd)

/-- Append a measured pair to the run-up history, dropping the oldest of a full one (R39). -/
def pushHistory (h : List (Nat × Nat)) (x : Nat × Nat) : List (Nat × Nat) :=
  if h.length < 8 then h ++ [x] else h.drop 1 ++ [x]

end Sys2Proof.Machine
end

