-- ==== Sys2Proof/Machine/Flags.lean ====
section
/-! DEFINITION. The alarm unit and the notice queue: latches and counts (R166, R167), the MAJOR and MINOR lines (R169),
how notices join the queue (R65, R168, R185), and the condition flags (R173). -/

namespace Sys2Proof.Machine

/-! ### The latch table -/

/-- The latch, count and enable of a pair (R164). -/
def AlarmUnit.get (u : AlarmUnit) : AlarmId → Latch
  | .proj p k => u.proj[p][k.idx]
  | .isl i k => u.isl[i][k.idx]
  | .dev k => u.dev[k.idx]

/-- Put the latch, count and enable of a pair. -/
def AlarmUnit.put (u : AlarmUnit) (a : AlarmId) (l : Latch) : AlarmUnit :=
  match a with
  | .proj p k => { u with proj := u.proj.set p (u.proj[p].set k.idx l) }
  | .isl i k => { u with isl := u.isl.set i (u.isl[i].set k.idx l) }
  | .dev k => { u with dev := u.dev.set k.idx l }

/-- Whether a pair is enabled and latched. -/
def AlarmUnit.lit (u : AlarmUnit) (a : AlarmId) : Bool := (u.get a).set && (u.get a).enabled

/-- Whether some pair of a class is enabled and latched: the terms of R169. -/
def AlarmUnit.anyLit (u : AlarmUnit) (major : Bool) : Bool :=
  allAlarms.any (fun a => a.isMajor = major && u.lit a)

/-- Bring both lines to the value that R169 gives. -/
def AlarmUnit.refresh (u : AlarmUnit) : AlarmUnit := { u with major := u.anyLit true, minor := u.anyLit false }

/-- Change one pair and let the lines follow at once (R169). -/
def State.putLatch (s : State) (a : AlarmId) (l : Latch) : State := { s with alarm := (s.alarm.put a l).refresh }

/-! ### The notice queue (R185) -/

/-- Put a notice in as the newest. -/
def State.enqueue (s : State) (n : Notice) : State := s.updLine (fun l => { l with queue := l.queue ++ [n] })

/-- Count a notice that the queue discards (R176). -/
def State.countDiscard (s : State) : State :=
  s.updLine (fun l => { l with discarded := satInc Config.countMax l.discarded })

/-- The event NOTICE_LOST that a discard passes. Its own ALARM notice meets the same full queue: it is discarded,
counted, and passes no further event (R168, R185; that it is counted is DEDUCED, unsafe, assumption 14). -/
def State.passNoticeLost (s : State) : State :=
  let a := AlarmId.dev .noticeLost
  let l := s.alarm.get a
  if l.set then s.putLatch a { l with count := satInc 255 l.count }
  else
    let s1 := s.putLatch a { l with set := true, count := 1 }
    if l.enabled then s1.countDiscard else s1

/-- Post a notice other than a POSITION notice (R185). -/
def State.post (s : State) (n : Notice) : State :=
  if s.line.queue.length < Config.queueRoom then s.enqueue n else s.countDiscard.passNoticeLost

/-- Whether a notice is the POSITION notice of a projector. -/
def Notice.isPositionOf (p : Proj) : Notice → Bool
  | .position n => n.projector = p
  | _ => false

/-- Post a POSITION notice: it replaces its projector's notice in place, joins if there is room, or is discarded
without NOTICE_LOST (R65). -/
def State.postPosition (s : State) (n : PosNotice) : State :=
  if s.line.queue.any (Notice.isPositionOf n.projector) then
    s.updLine (fun l =>
      { l with queue := l.queue.map (fun x => if x.isPositionOf n.projector then .position n else x) })
  else if s.line.queue.length < Config.queueRoom then s.enqueue (.position n)
  else s

/-! ### Taking an event (R166 to R168) -/

/-- The frame count that an event on a projector unit carries (R168). -/
def State.alarmFrame (s : State) : AlarmId → Option Int
  | .proj p _ => some s.tr[p].frame
  | _ => none

/-- Pass an event to the alarm unit (R166, R167): latch or count, post the ALARM notice of an enabled pair, and
bring the lines to their value. NOTICE_LOST goes by `passNoticeLost`. -/
def State.pass (s : State) (a : AlarmId) : State :=
  let l := s.alarm.get a
  if l.set then s.putLatch a { l with count := satInc 255 l.count }
  else
    let s1 := s.putLatch a { l with set := true, count := 1 }
    if l.enabled then s1.post (.alarm a s.field (s.alarmFrame a)) else s1

/-- Pass an event when a condition holds. -/
def State.passIf (s : State) (c : Bool) (a : AlarmId) : State := if c then s.pass a else s

/-- Pass an event of the tracker that the quiet window holds back (R61). -/
def State.passUnlessQuiet (s : State) (p : Proj) (k : ProjAlarm) : State :=
  s.passIf (!inQuiet s.tr[p].quiet s.tr[p].frame) (.proj p k)

/-! ### Acknowledgement and masks (R170, R172) -/

/-- Clear the latches and counts of pairs, the lines following (R170). -/
def State.ackLatches (s : State) (targets : List AlarmId) : State :=
  { s with alarm := (targets.foldl (fun u a => u.put a { u.get a with set := false, count := 0 }) s.alarm).refresh }

/-- Set the enables of pairs, the lines following (R172). -/
def State.maskLatches (s : State) (targets : List AlarmId) (enable : Bool) : State :=
  { s with alarm := (targets.foldl (fun u a => u.put a { u.get a with enabled := enable }) s.alarm).refresh }

/-! ### Condition flags (R173) -/

/-- The projector flags as the inputs read at a boundary. -/
def State.sampleFlags (s : State) : State :=
  { s with alarm := { s.alarm with flags := map8 (fun q => ⟨q.lampok, q.loop, q.tail⟩) s.pins.proj } }

/-- The mirror mismatch flag of an island. -/
def State.mismatchFlag (s : State) (i : Isl) : Bool := s.isl[i].mismatch

/-- The tally flag of an island, clear until the first boundary. -/
def State.tallyFlag (s : State) (i : Isl) : Bool := s.isl[i].tally.getD false

/-- The sync flag: set while the timebase is in SYNC (R4, R6, R7, R14). -/
def State.syncFlag (s : State) : Bool := s.tb.state = .sync

/-- The estop flag. -/
def State.estopFlag (s : State) : Bool := s.estop

end Sys2Proof.Machine
end

