-- ==== Sys2Proof/Machine/Records.lean ====
section
/-! DEFINITION. Ending a changeover record (R150, R151), and what a STOP, a fault, a loss of lock or a mirror mismatch
handed to the changeover engine does to a record (R141, R142, R155, R158, R159, R161). -/

namespace Sys2Proof.Machine

/-- Whether a waiting step belongs to a record. -/
def Due.ofRec (r : Rec) : Due → Bool
  | .changeoverStart x => x = r
  | .lockDecision x => x = r
  | .switchCut x => x = r
  | .mirrorCut x => x = r
  | _ => false

/-- Withdraw a record's changeover request, if one is pending (R91, R150 step 2). -/
def State.withdraw (s : State) (r : Rec) : State := s.updTake (fun t => { t with slots := t.slots.set r none })

/-- Release the claims of a record (R86, R150 step 3). -/
def State.releaseClaim (s : State) (r : Rec) : State :=
  { s with isl := map4 (fun u => if u.claim = some r then { u with claim := none } else u) s.isl }

/-- The result that an ending reports: one taken in TAILOUT keeps the result of the lock decision, except for RESTART
and ESTOP (R150 step 1). -/
def Record.endResult (rec : Record) (res : Result) : Result :=
  if rec.state = .tailout ∧ res ≠ .restart ∧ res ≠ .estop then rec.result.getD res else res

/-- The CHANGE notice of an ending (R151). -/
def Record.notice (rec : Record) (r : Rec) (res : Result) (ended : Field) : ChangeNotice where
  index := r
  cue := rec.cue
  a := rec.a
  b := rec.b
  p := rec.p
  q := rec.q
  method := rec.method
  result := res
  e := rec.e
  planned := rec.planned
  cutMade := rec.cutMade
  deferrals := rec.deferrals
  flags := rec.flags
  startField := rec.startField
  ended := ended

/-- End a record (R150): withdraw its request, release its claim, post its CHANGE notice and make it FREE. A record
that is FREE already is left alone. -/
def State.endRecord (s : State) (r : Rec) (res : Result) : State :=
  match s.eng.records[r] with
  | none => s
  | some rec =>
    let s1 := (s.withdraw r).releaseClaim r
    let s2 := s1.post (.change (rec.notice r (rec.endResult res) s.field))
    { s2.setRec r none with due := s2.due.filter (fun d => !d.ofRec r) }

/-- End every record that is not FREE, in index order (R163). -/
def State.endAllRecords (s : State) (res : Result) : State := allRec.foldl (fun s r => s.endRecord r res) s

/-- A STOP taken on a projector that belongs to a record (R29, R141, R142, R158, R159, R161). -/
def State.engineStop (s : State) (p : Proj) : State :=
  match s.asOutgoing p with
  | some r => s.endRecord r .outgoingFailed
  | none =>
    match s.asIncoming p with
    | none => s
    | some r =>
      if (s.eng.records[r]).any (fun rec => rec.state = .tailout) then s else s.endRecord r .incomingFailed

/-- A fault on a projector that belongs to a record, after the take port's decision (R100, R158, R159, R161).
`emergency` says that the take port chose an emergency cut. -/
def State.engineFault (s : State) (p : Proj) (emergency : Bool) : State :=
  match s.asOutgoing p with
  | some r => s.endRecord r (if emergency then .emergency else .outgoingFailed)
  | none =>
    match s.asIncoming p with
    | none => s
    | some r =>
      if (s.eng.records[r]).any (fun rec => rec.state = .tailout) then s else s.endRecord r .incomingFailed

/-- A loss of lock on a projector that belongs to a record (R140, R142, R158, R160, R161): it ends the record of an
outgoing projector before TAILOUT when it was a protective event, and changes nothing otherwise. -/
def State.engineLockLost (s : State) (p : Proj) (isProtective emergency : Bool) : State :=
  match s.asOutgoing p with
  | none => s
  | some r =>
    if isProtective && !(s.eng.records[r]).any (fun rec => rec.state = .tailout) then
      s.endRecord r (if emergency then .emergency else .outgoingFailed)
    else s

/-- A mirror mismatch handed to the claiming record (R155). -/
def State.engineMismatch (s : State) (i : Isl) : State :=
  match s.isl[i].claim with
  | none => s
  | some r =>
    if (s.eng.records[r]).any (fun rec => rec.state = .tailout) then s else s.endRecord r .mirrorFail

/-- A mark correction other than 0 reported for a projector: a record whose cut field is fixed sets CORRECTED (R75). -/
def State.engineCorrected (s : State) (p : Proj) : State :=
  let mark (r : Rec) (s : State) : State :=
    s.updRec r (fun rec =>
      if rec.state = .locked ∨ rec.state = .cutting ∨ rec.state = .tailout then
        { rec with flags := { rec.flags with corrected := true } }
      else rec)
  match s.asOutgoing p with
  | some r => mark r s
  | none =>
    match s.asIncoming p with
    | some r => mark r s
    | none => s

end Sys2Proof.Machine
end

