-- ==== Sys2Proof/Machine/Protection.lean ====
section
/-! DEFINITION. Protective action: mirror commands (R81), the protective request (R104), and the take port's decision
on a fault kind that strikes a projector (R99 to R103). -/

namespace Sys2Proof.Machine

/-- The seven protectable kinds, in the order of R99. -/
inductive ProtectKind where
  | filmBreak
  | loopLoss
  | runout
  | lampFail
  | lockFail
  | estop
  | lockLost
  deriving DecidableEq, Repr

/-- Bit of a kind in the protect set (R183, SET_SAFETY). -/
def ProtectKind.bit : ProtectKind → Nat
  | .filmBreak => 0
  | .loopLoss => 1
  | .runout => 2
  | .lampFail => 3
  | .lockFail => 4
  | .estop => 5
  | .lockLost => 6

/-- Whether a kind is in the protect set (R99). -/
def TakePort.protects (t : TakePort) (k : ProtectKind) : Bool := t.protectSet.getLsbD k.bit

/-- A mirror command taken by an island in the field in progress (R81). What waited for the command that it replaces,
its completion or its deadline, no longer arises. -/
def State.mirrorCommand (s : State) (i : Isl) (port : Port) : State :=
  let s1 := s.updIsl i (fun u =>
    { u with commanded := port, pending := some ⟨port, fieldAdd s.field (u.travel + 8)⟩ })
  (s1.dropDue (.mirrorComplete i)).dropDue (.mirrorDeadline i)

/-- Post a protective request: a new one, or the replacement rule on the one pending (R104). -/
def State.postProtective (s : State) (source : Source) (target : Option Proj) : State :=
  s.updTake (fun t =>
    match t.protective with
    | none => { t with protective := some ⟨source, target, s.field, fieldAdd s.field 1⟩ }
    | some q => if q.source = source then t else { t with protective := some { q with source := source, target := target } })

/-- The record in LOCKED in which a projector is outgoing, for a kind other than ESTOP: the emergency row of R100. -/
def State.emergencyRec (s : State) (p : Proj) (k : ProtectKind) : Option Rec :=
  if k = .estop then none
  else s.findRec (fun rec => decide (rec.a = p) && decide (rec.state = .locked))

/-- An emergency cut to a record's incoming projector: by switch (R101) or by mirror (R102). -/
def State.emergencyCut (s : State) (r : Rec) : State :=
  match s.eng.records[r] with
  | none => s
  | some rec =>
    match s.route[rec.b] with
    | none => s
    | some (i, port) =>
      match rec.method with
      | .switch => s.postProtective s.isl[i].source (some rec.b)
      | .mirror => s.mirrorCommand i port

/-- Whether a kind on a projector is a protective event (R100): the kind is in the protect set and the projector is on
air. A strike failure is none (R22), nor is a fault on the incoming projector of a record in ARMED (R141): assumption 16. -/
def State.isProtective (s : State) (p : Proj) (k : ProtectKind) : Bool :=
  s.take.protects k && s.onAir p
    && !(k ≠ .estop && (s.ch[p].state = .strike
      || (s.findRec (fun rec => decide (rec.b = p) && decide (rec.state = .armed))).isSome))

/-- Whether a kind strikes the target of the pending protective request (R104). -/
def State.strikesTarget (s : State) (p : Proj) (k : ProtectKind) : Bool :=
  s.take.protects k && s.take.protective.any (fun q => q.target = some p)

/-- The pending protective request aims at the safety source and at no projector (R104, last paragraph). -/
def State.retarget (s : State) : State :=
  s.updTake (fun t => { t with protective := t.protective.map (fun q => { q with source := t.safety, target := none }) })

/-- The take port takes a kind on a projector (R100, R103, R104): a strike on the target of the pending request turns that
request to the safety source, and a protective event then makes its decision. One strike passes PROTECT once
(DEDUCED, unsafe, assumption 16). -/
def State.protect (s : State) (p : Proj) (k : ProtectKind) : State :=
  let isProt := s.isProtective p k
  let strikes := s.strikesTarget p k
  let s1 := s.passIf (isProt || strikes) (.proj p .protect)
  let s2 := if strikes then s1.retarget else s1
  if isProt then
    match s2.emergencyRec p k with
    | some r => s2.emergencyCut r
    | none => s2.postProtective s2.take.safety none
  else s2

end Sys2Proof.Machine
end

