-- ==== Sys2Proof/Machine/Channels.lean ====
section
/-! DEFINITION. The projector channel's transitions (R17, R21 to R35), the tracker's motor reports (R45), and what a
channel hands on at a STOP, a fault or a loss of lock. START stands in Changeover.lean, since it skips cues. -/

namespace Sys2Proof.Machine

/-! ### One channel -/

/-- All outputs but LAMP off and the douser closed (R17). -/
def Channel.quiesce (c : Channel) : Channel := { c with motor := false, douse := false, inchF := false, inchR := false }

/-- The run-up timer, the douse-held flag and the run-up record as they are outside RUNUP and RUN (R15, R29, R31). -/
def Channel.endRun (c : Channel) : Channel := { c with runup := none, douseHeld := false, record := none }

/-- LAMP on in DARK: STRIKE with the strike timer started (R21). -/
def Channel.strikeLamp (c : Channel) (n : Field) : Channel :=
  { c with state := .strike, lamp := true, strike := some ⟨n, 0, c.config.strikeFields⟩, lampFails := 0 }

/-- LAMP off in STRIKE or READY: DARK (R23). -/
def Channel.darken (c : Channel) : Channel := { c with state := .dark, lamp := false, strike := none, lampFails := 0 }

/-- START taken: RUNUP (R25). -/
def Channel.beginRunup (c : Channel) (n : Field) (frame : Int) : Channel :=
  { c with
    state := .runup
    motor := true
    douse := false
    douseHeld := false
    runup := some ⟨n, 0, c.config.runupLimit⟩
    record := some ⟨n, frame, true⟩
    lampFails := 0 }

/-- STOP or RESTART from RUNUP, RUN or INCH: COAST (R29, R42). -/
def Channel.toCoast (c : Channel) : Channel := { c.quiesce.endRun with state := .coast, lampFails := 0 }

/-- INCH taken in a direction: INCH (R30). -/
def Channel.toInch (c : Channel) (forward : Bool) : Channel :=
  { c with state := .inch, inchF := forward, inchR := !forward, lampFails := 0 }

/-- The end of COAST (R29). -/
def Channel.endCoast (c : Channel) : Channel :=
  { c with state := if c.lamp then .ready else .dark, lampFails := 0 }

/-- CLEAR taken in FAULT (R32). -/
def Channel.clearFault (c : Channel) (lampok : Bool) : Channel :=
  if c.lamp && lampok then { c with cause := .none, state := .ready, lampFails := 0 }
  else { c with cause := .none, state := .dark, lamp := false, lampFails := 0 }

/-- Entry to FAULT with a cause, the lamp kept or put out (R31, R34). -/
def Channel.toFault (c : Channel) (cause : Cause) (lampOff : Bool) : Channel :=
  { c.quiesce.endRun with
    state := .fault
    cause := cause
    lamp := c.lamp && !lampOff
    strike := none
    lampFails := 0 }

/-- The tracker locks in RUNUP: RUN (R26), with a measured pair for a run-up from READY (R40). -/
def Channel.toRun (c : Channel) (m : Field) (frame : Int) : Channel :=
  let measured (r : RunRecord) : Nat × Nat :=
    (clampNat 0 1023 (fieldDiff m r.startField).toNat, clampNat 0 255 (frame - r.startFrame).toNat)
  { c with
    state := .run
    douse := true
    douseHeld := false
    runup := none
    lampFails := 0
    history :=
      match c.record with
      | some r => if r.fromReady then pushHistory c.history (measured r) else c.history
      | none => c.history
    record := c.record.map (fun r => { r with fromReady := false }) }

/-- The tracker loses lock in RUN: RUNUP with the douser held open (R27). -/
def Channel.backToRunup (c : Channel) (n : Field) : Channel :=
  { c with
    state := .runup
    douseHeld := true
    runup := some ⟨n, 0, c.config.runupLimit⟩
    lampFails := 0
    record := c.record.map (fun r => { r with fromReady := false }) }

/-- RESTART (R42). -/
def Channel.restart (c : Channel) : Channel :=
  if c.running || c.state = .inch then c.toCoast else c.endRun

/-! ### The tracker's motor reports (R45) -/

/-- The cadence state unset (R44). -/
def Tracker.unsetCadence (t : Tracker) : Tracker :=
  { t with lastIn := none, pendingLock := none, pos := none, edgeDue := none, slipWait := none }

/-- The motor-on report (R45). -/
def Tracker.motorOn (t : Tracker) : Tracker :=
  { t.unsetCadence with motor := true, lock := .search, interval := none, empty := 0, run := 0, out := 0 }

/-- The motor-off report (R45). -/
def Tracker.motorOff (t : Tracker) : Tracker :=
  { t.unsetCadence with motor := false, lock := .unlocked, interval := none, empty := 0, run := 0, out := 0 }

/-- Lock is lost: back to SEARCH with the frame count kept (R59). -/
def Tracker.toSearch (t : Tracker) : Tracker :=
  { t with
    lock := .search
    pos := none
    edgeDue := none
    slipWait := none
    out := 0
    run := 0
    lastIn := none
    pendingLock := none }

/-! ### Faults -/

/-- The faults of R31 that put a channel in FAULT. -/
inductive ChanFault where
  | loopLoss
  | runout
  | lampFail
  | lockFail
  | filmBreak
  deriving DecidableEq, Repr

/-- The fault cause of a fault. -/
def ChanFault.cause : ChanFault → Cause
  | .loopLoss => .loopLoss
  | .runout => .runout
  | .lampFail => .lampFail
  | .lockFail => .lockFail
  | .filmBreak => .filmBreak

/-- The alarm kind of a fault. -/
def ChanFault.alarm : ChanFault → ProjAlarm
  | .loopLoss => .loopLoss
  | .runout => .runout
  | .lampFail => .lampFail
  | .lockFail => .lockFail
  | .filmBreak => .filmBreak

/-- The protectable kind of a fault. -/
def ChanFault.kind : ChanFault → ProtectKind
  | .loopLoss => .loopLoss
  | .runout => .runout
  | .lampFail => .lampFail
  | .lockFail => .lockFail
  | .filmBreak => .filmBreak

/-- Whether a kind handed on for a projector leads to an emergency cut (R100). -/
def State.choosesEmergency (s : State) (p : Proj) (k : ProtectKind) : Bool :=
  s.isProtective p k && (s.emergencyRec p k).isSome

/-- The faults that arise together on a channel (R31), first the one that gives the cause: all are latched, the take
port decides on each against the state that the fault finds, the engine then ends the record, and the channel is in
FAULT with its tracker told that the motor is off. The order of these is DEDUCED, unsafe, assumption 16. -/
def State.enterFault (s : State) (p : Proj) (faults : List ChanFault) : State :=
  match faults with
  | [] => s
  | first :: _ =>
    let emergency := faults.any (fun f => s.choosesEmergency p f.kind)
    let s1 := faults.foldl (fun s f => s.pass (.proj p f.alarm)) s
    let s2 := faults.foldl (fun s f => s.protect p f.kind) s1
    let s3 := s2.engineFault p emergency
    (s3.updCh p (fun c => c.toFault first.cause (faults.any (fun f => f = .lampFail)))).updTr p Tracker.motorOff

/-! ### STOP (R29) -/

/-- A STOP that the channel takes; one on a projector in a record is handed to the engine (R29). -/
def State.doStop (s : State) (p : Proj) : State :=
  let s1 :=
    if s.ch[p].running then (s.updCh p Channel.toCoast).updTr p Tracker.motorOff
    else if s.ch[p].state = .inch then s.updCh p Channel.toCoast
    else s
  s1.engineStop p

/-- A STOP request from the host, the engine or a STOP cue (R18, R29). -/
def State.requestStop (s : State) (p : Proj) : State × Status :=
  if s.estop then (s, .estop) else (s.doStop p, .accepted)

/-- A STOP that the engine or the cue store gives: a refusal changes nothing (R18). -/
def State.giveStop (s : State) (p : Proj) : State := (s.requestStop p).1

/-! ### Loss of lock (R27, R59) -/

/-- A tracker loses lock: it returns to SEARCH, and a channel in RUN goes to RUNUP, latches LOCK_LOST and hands the
loss to the take port and the engine (R27, R59). R27, R100 and R158 do not order the notices of one loss: LOCK_LOST comes first, then
PROTECT, then the CHANGE notice of the record that it ends (DESIGN CHOICE, unsafe, assumption 34). -/
def State.loseLock (s : State) (p : Proj) : State :=
  let s1 := s.updTr p Tracker.toSearch
  if s1.ch[p].state = .run then
    let isProt := s1.isProtective p .lockLost
    let emergency := s1.choosesEmergency p .lockLost
    let s2 := (s1.updCh p (fun c => c.backToRunup s1.field)).pass (.proj p .lockLost)
    (s2.protect p .lockLost).engineLockLost p isProt emergency
  else s1

/-! ### The ESTOP line (R34, R35) -/

/-- One channel under the assertion of the ESTOP line (R34). -/
def State.estopChannel (s : State) (p : Proj) : State :=
  (s.updCh p (fun c => c.toFault .estop true)).updTr p Tracker.motorOff

/-- Everything that the assertion of the ESTOP line brings about (R34, R105, R163, R175). R31, R34 and R167 order its events in no
way: ESTOP is latched on DEVICE first, PROTECT then on the projectors in order, and the CHANGE notices come last (DESIGN CHOICE,
unsafe, assumption 28). -/
def State.assertEstop (s : State) : State :=
  let s1 := { s with estop := true }.pass (.dev .estop)
  let s2 := allProj.foldl (fun s p => s.estopChannel p) s1
  let s3 := s2.updTake (fun t => { t with slots := Vector.replicate 4 none, host := none })
  let s4 := allProj.foldl (fun s p => s.protect p .estop) s3
  s4.endAllRecords .estop

/-- The assertion of the ESTOP line while RESET is asserted: every effect of R34 on the channels, the trackers, the take port and the
changeover engine, so that the outputs of every projector are off (R33, R35). The alarm unit takes no event then (R164, R175); that
no notice is queued either is the model's choice (DESIGN CHOICE, unsafe, assumption 35). -/
def State.assertEstopInReset (s : State) : State := { s.assertEstop with alarm := s.alarm, line := s.line }

end Sys2Proof.Machine
end

