-- ==== Sys2Proof/Machine/Cues.lean ====
section
/-! DEFINITION. The cue store (chapter 7): taking entries in and out of the lists, consumption with its notice and
underrun test (R116, R124, R125), the watermark test (R123), the reach pass (R117 to R119), the skipping at START (R120),
and MARK entries (R70, R71). -/

namespace Sys2Proof.Machine

/-! ### Lists and pool (R107, R108) -/

/-- Update one cue list and the count of free entries. -/
def State.setCues (s : State) (p : Proj) (list : List CueEntry) (free : Nat) : State :=
  { s with cues := { s.cues with lists := s.cues.lists.set p list, free := free } }

/-- Insert an entry at the place that its position gives (R108). -/
def insertCue (e : CueEntry) : List CueEntry → List CueEntry
  | [] => [e]
  | x :: xs => if e.pos < x.pos then e :: x :: xs else x :: insertCue e xs

/-- Whether a cue number is held by an entry of any list (R108, R112). -/
def CueStore.holdsNumber (c : CueStore) (n : Nat) : Bool :=
  allProj.any (fun p => c.lists[p].any (fun e => e.number = n))

/-- The entries of a list whose position is greater than a frame count (R106). -/
def aheadOf (list : List CueEntry) (frame : Int) : Nat := list.countP (fun e => decide (frame < e.pos))

/-- A projector's count of entries ahead (R106). -/
def State.ahead (s : State) (p : Proj) : Nat := aheadOf s.cues.lists[p] s.tr[p].frame

/-- The watermark test of R123 after an event: `before` is the count of entries ahead before it. -/
def State.lowTest (s : State) (p : Proj) (before : Nat) : State :=
  let w := s.cues.low[p]
  s.passIf (decide (w ≠ 0) && decide (w ≤ before) && decide (s.ahead p < w)) (.proj p .cueLow)

/-- Remove the entry of a cue number from a list and return it to the pool (R107). -/
def State.removeCue (s : State) (p : Proj) (number : Nat) : State :=
  let list := s.cues.lists[p]
  if list.any (fun e => e.number = number) then
    s.setCues p (list.eraseP (fun e => e.number = number)) (s.cues.free + 1)
  else s

/-! ### Consumption (R116) -/

/-- Consume an entry: it returns to the pool, its CUE notice is posted, and the underrun test is made. `running` says
that the channel was in RUNUP or RUN when the entry was reached or consumed (R116, R124, R125). -/
def State.consume (s : State) (p : Proj) (e : CueEntry) (o : CueOutcome) (value : Int) (running : Bool) : State :=
  let isAuto := s.ch[p].mode = .auto
  let s1 := s.removeCue p e.number
  let s2 := s1.post (.cue ⟨p, e.number, e.kind.tag, e.pos, o, value, s.field, s.tr[p].frame⟩)
  if s2.cues.lists[p].isEmpty && isAuto && running then
    (s2.pass (.proj p .cueUnderrun)).updCh p (fun c => { c with mode := .manual })
  else s2

/-! ### Reaching (R117 to R119) -/

/-- Whether the reach pass takes entries of a kind; MARK entries are passed over (R117). -/
def CueKind.reachable : CueKind → Bool
  | .mark _ => false
  | _ => true

/-- Deal with one reached entry under the channel's mode (R118, R119). The pass is made in RUNUP or RUN, and a later
entry of the pass is treated as reached in RUN (R117). No rule orders CHANGE_MISSED and the CUE_UNDERRUN of one consumption:
CUE_UNDERRUN comes first (R116, R124; DESIGN CHOICE, unsafe, assumption 34). -/
def State.reachEntry (s : State) (p : Proj) (e : CueEntry) : State :=
  if s.ch[p].mode = .auto then
    match e.kind with
    | .stop => (s.giveStop p).consume p e .actioned 0 true
    | .note => s.consume p e .actioned 0 true
    | .quiet len => (s.updTr p (fun t => { t with quiet := some (e.pos, e.pos + len) })).consume p e .actioned 0 true
    | .change _ => (s.consume p e .missed 0 true).pass (.proj p .changeMissed)
    | .mark _ => s
  else s.consume p e .skipped 0 true

/-- The reach pass: the reachable entries at or below the frame count, in ascending order of position (R117). -/
def State.reachPass (s : State) (p : Proj) : State :=
  if s.ch[p].running then
    (s.cues.lists[p].filter (fun e => e.kind.reachable && decide ((e.pos : Int) ≤ s.tr[p].frame))).foldl
      (fun s e => s.reachEntry p e) s
  else s

/-- Consume as SKIPPED every entry behind the frame count, at START (R120). -/
def State.skipAtStart (s : State) (p : Proj) : State :=
  (s.cues.lists[p].filter (fun e => decide ((e.pos : Int) < s.tr[p].frame))).foldl
    (fun s e => s.consume p e .skipped 0 true) s

/-! ### MARK entries (R70, R71) -/

/-- Whether an entry is a MARK entry whose window lies below a frame count (R71). -/
def CueEntry.markPassed (e : CueEntry) (frame : Int) : Bool :=
  match e.kind with
  | .mark t => decide ((e.pos : Int) + t < frame)
  | _ => false

/-- Whether an entry is a MARK entry whose window contains a frame (R70). -/
def CueEntry.markOpen (e : CueEntry) (frame : Int) : Bool :=
  match e.kind with
  | .mark t => decide ((e.pos : Int) - t ≤ frame) && decide (frame ≤ (e.pos : Int) + t)
  | _ => false

/-- Consume as MISSING every MARK entry whose window the frame count has passed (R71). The CUE_UNDERRUN of a consumption comes before
its MARK_MISSING (R116, R124; DESIGN CHOICE, unsafe, assumption 34). -/
def State.missMarks (s : State) (p : Proj) : State :=
  if s.ch[p].sampling then
    (s.cues.lists[p].filter (fun e => e.markPassed s.tr[p].frame)).foldl
      (fun s e => (s.consume p e .missing 0 s.ch[p].running).pass (.proj p .markMissing)) s
  else s

/-- The first CHANGE entry ahead of a frame (R121). -/
def State.firstChange (s : State) (p : Proj) (f : Int) : Option (CueEntry × ChangePart) :=
  s.cues.lists[p].findSome? (fun e =>
    match e.kind with
    | .change part => if f < e.pos then some (e, part) else none
    | _ => none)

/-! ### Host edits (R111 to R115) -/

/-- The result of one entry of LOAD_CUES; an accepted entry is in the list (R112). -/
def State.loadEntry (s : State) (p : Proj) (e : RawEntry) : State × EntryResult :=
  if s.cues.free = 0 then (s, .poolFull)
  else if s.cues.holdsNumber e.number || s.cues.lists[p].any (fun x => x.pos = e.pos) then (s, .duplicate)
  else if s.ch[p].running && decide ((e.pos : Int) ≤ s.tr[p].frame) then (s, .passed)
  else
    match e.checked with
    | none => (s, .badField)
    | some entry =>
      let badTarget :=
        match entry.kind with
        | .change part => part.incoming = p || s.route[part.incoming] = none
        | _ => false
      if badTarget then (s, .badTarget)
      else (s.setCues p (insertCue entry s.cues.lists[p]) (s.cues.free - 1), .accepted)

/-- The entries of a LOAD_CUES one by one, in order (R111). -/
def State.loadEntries (s : State) (p : Proj) : List RawEntry → State × List EntryResult
  | [] => (s, [])
  | e :: es =>
    let (s1, r) := s.loadEntry p e
    let (s2, rs) := s1.loadEntries p es
    (s2, r :: rs)

/-- The projector whose list holds an entry of a cue number (R113). -/
def State.cueOwner (s : State) (number : Nat) : Option Proj :=
  allProj.find? (fun p => s.cues.lists[p].any (fun e => e.number = number))

end Sys2Proof.Machine
end

