-- ==== Sys2Proof/Machine/Trackers.lean ====
section
/-! DEFINITION. The position trackers and mark detectors (chapters 3 and 4): changes of the frame count with what they
cause, perforations (R46), shutter edges (R48 to R56), the cadence advance (R55), slip corrections (R57), the missing edge
(R58), lock (R54), samples and matches (R67 to R72) and corrections (R73 to R75), and the tail-out test (R157). -/

namespace Sys2Proof.Machine

/-! ### The tail-out test (R157) -/

/-- The tail-out test of a record: at the stop point P + tail-out the record ends with its decided result and A is
given a STOP, in no record by then (R157). -/
def State.tailoutTest (s : State) (r : Rec) : State :=
  match s.eng.records[r] with
  | none => s
  | some rec =>
    match rec.tailOut with
    | none => s
    | some t =>
      if rec.state = .tailout ∧ (rec.p : Int) + t ≤ s.tr[rec.a].frame then
        (s.endRecord r (rec.result.getD .onTime)).giveStop rec.a
      else s

/-- The tail-out test at a change of a projector's frame count (R157). -/
def State.tailoutOf (s : State) (p : Proj) : State :=
  match s.asOutgoing p with
  | none => s
  | some r => s.tailoutTest r

/-! ### Mark detector (R66 to R69) -/

/-- Append a sample, dropping the oldest of a history of 8 (R66). -/
def pushSample (h : List Bool) (x : Bool) : List Bool := if h.length < 8 then h ++ [x] else h.drop 1 ++ [x]

/-- Whether the newest L samples equal the signature (R69). -/
def Detector.matched (d : Detector) : Bool :=
  decide (d.sigLen ≤ d.history.length) && decide (d.history.drop (d.history.length - d.sigLen) = d.sigPat)

/-- Take a sample: the latch becomes the newest sample and is cleared, and set again at once while CUE is asserted
(R67, R68). -/
def Detector.sample (d : Detector) (cueNow : Bool) : Detector :=
  { d with history := pushSample d.history d.latch, latch := cueNow }

/-- Empty the history (R68, R69). -/
def Detector.emptied (d : Detector) : Detector := { d with history := [] }

/-- Empty the history and clear the latch (R67, R68). -/
def Detector.cleared (d : Detector) : Detector := { d with history := [], latch := false }

/-! ### Corrections (R73 to R75) -/

/-- A tracker's items under a correction (R73): the frame count, the f of a pending lock and of the position, and the
frame g of a slip correction that waits. -/
def Tracker.corrected (t : Tracker) (c : Int) : Tracker :=
  { t with
    frame := clampFrame (t.frame + c)
    pendingLock := t.pendingLock.map (fun q => { q with f := clampFrame (q.f + c) })
    pos := t.pos.map (fun q => { q with f := clampFrame (q.f + c) })
    slipWait := t.slipWait.map (fun w => { w with g := w.g + c })
    corrections := satInc Config.countMax t.corrections }

/-- The tracker applies a correction, reports it to the engine, and the cue store makes its reach pass for a positive
one (R73, R75, R117, R123, R157). These rules do not order what one correction causes: COUNTER_LIMIT comes first, then the report to
the engine (CORRECTED), the reach pass, the watermark test and the tail-out test, so a STOP cue that the correction reaches ends the
record with CORRECTED set (DESIGN CHOICE, unsafe, assumption 33). -/
def State.applyCorrection (s : State) (p : Proj) (c : Int) : State :=
  let before := s.ahead p
  let limited := !frameInRange (s.tr[p].frame + c)
  let s1 := (s.updTr p (fun t => t.corrected c)).passIf limited (.proj p .counterLimit)
  let s2 := if c = 0 then s1 else s1.engineCorrected p
  let s3 := if 0 < c then s2.reachPass p else s2
  (s3.lowTest p before).tailoutOf p

/-- The cue store takes a match with its detected frame: it consumes the open MARK entry and hands on the correction
(R70), or the match is a stray mark (R72). -/
def State.takeMatch (s : State) (p : Proj) (detected : Int) : State :=
  match s.cues.lists[p].find? (fun e => e.markOpen detected) with
  | some e =>
    let before := s.ahead p
    let c := (e.pos : Int) - detected
    ((s.consume p e .matched c s.ch[p].running).lowTest p before).applyCorrection p c
  | none =>
    (s.updTr p (fun t => { t with strayMarks := satInc Config.countMax t.strayMarks })).passUnlessQuiet p .strayMark

/-- The cue store takes the match that waits for it, if one does (R70). -/
def State.takeWaiting (s : State) (p : Proj) : State :=
  match s.det[p].found with
  | none => s
  | some detected => (s.updDet p (fun d => { d with found := none })).takeMatch p detected

/-- A match is handed to the cue store, which takes it now or has it wait (R69, R70; assumption 26). -/
def State.handMatch (s : State) (p : Proj) (detected : Int) : State :=
  if p ∈ s.pins.late then s.updDet p (fun d => { d with found := some detected }) else s.takeMatch p detected

/-- The waiting matches that an event finds are taken before it, but for those that the event names as late (R70, R71, R74, R75;
DESIGN CHOICE, safe, assumption 26), those of P1 first (DESIGN CHOICE, unsafe, assumption 34). -/
def State.takeFound (s : State) : State :=
  allProj.foldl (fun s p => if p ∈ s.pins.late then s else s.takeWaiting p) s

/-! ### What a frame advance and a frame retreat cause (R63) -/

/-- The POSITION report of a frame advance or retreat (R65). -/
def State.reportPosition (s : State) (p : Proj) : State :=
  let t := s.tr[p]
  if t.period ≠ 0 ∧ t.frame.emod t.period = 0 then
    s.postPosition ⟨p, t.frame, t.phase, t.lock, s.field⟩
  else s

/-- What a frame advance causes, the frame count having risen; `before` is the count of entries ahead before it.
The detector samples (R68), the position is reported (R65), the cue store consumes passed MARK entries (R71), makes its
reach pass (R117) and its watermark test (R123), a match that waited for the cue store since the advance before is taken, after
the advance as R71's second order has it, a completed signature is handed on (R69), and the tail-out test is made (R157).
The reference fixes no order among these: DESIGN CHOICE, unsafe, assumption 8; of the race of R71 between a match and the next
advance both orders are there (assumption 26). -/
def State.frameAdvanced (s : State) (p : Proj) (before : Nat) : State :=
  let detected := s.tr[p].frame
  let s1 := if s.ch[p].sampling then s.updDet p (fun d => d.sample s.pins.proj[p].cue) else s
  let isMatch := s.ch[p].sampling && s1.det[p].matched
  let s2 := if isMatch then s1.updDet p Detector.emptied else s1
  let s3 := (((s2.reportPosition p).missMarks p).reachPass p).lowTest p before
  let s4 := s3.takeWaiting p
  let s5 := if isMatch then s4.handMatch p detected else s4
  s5.tailoutOf p

/-- What a frame retreat causes: the history is emptied and the latch cleared (R68), and the position is reported (R65).
The count of entries ahead can only rise (R123). -/
def State.frameRetreated (s : State) (p : Proj) : State := (s.updDet p Detector.cleared).reportPosition p

/-- The frame count rises by one through motion, or is held at its limit (R47, R63). -/
def State.frameUp (s : State) (p : Proj) : State :=
  if s.tr[p].frame < Config.frameMax then
    let before := s.ahead p
    (s.updTr p (fun t => { t with frame := t.frame + 1 })).frameAdvanced p before
  else s.pass (.proj p .counterLimit)

/-- The frame count falls by one through motion, or is held at its limit (R47, R63). -/
def State.frameDown (s : State) (p : Proj) : State :=
  if Config.frameMin < s.tr[p].frame then
    (s.updTr p (fun t => { t with frame := t.frame - 1 })).frameRetreated p
  else s.pass (.proj p .counterLimit)

/-! ### Perforations (R20, R46, R48) -/

/-- The perf phase moved by one, wrapping at G (R46). -/
def movePhase (g phase : Nat) (forward : Bool) : Nat :=
  if forward then (if g ≤ phase + 1 then 0 else phase + 1) else (if phase = 0 then g - 1 else phase - 1)

/-- Whether the move is a carry (R46). -/
def isCarry (g phase : Nat) (forward : Bool) : Bool := if forward then decide (g ≤ phase + 1) else decide (phase = 0)

/-- A perforation pulse with DIR as it reads (R20, R46, R48). A carry moves the frame count in the motion direction, which with the
motor off is that of this pulse (R63). -/
def State.perforation (s : State) (p : Proj) (forward : Bool) : State :=
  let g := s.perfs p
  let carry := !s.tr[p].motor && isCarry g s.tr[p].phase forward
  let s1 := s.updCh p (fun c => { c with still := 0 })
  let s2 := s1.updTr p (fun t =>
    { t with
      phase := movePhase g t.phase forward
      forward := forward
      interval := if t.motor then t.interval.map (satInc 15) else t.interval })
  if carry then (if s2.tr[p].direction then s2.frameUp p else s2.frameDown p) else s2

/-! ### Shutter edges (R48 to R56) -/

/-- The perforation check of an edge (R48 to R50): the first edge after a motor-on report only sets the counts. -/
def State.checkPerfs (s : State) (p : Proj) : State :=
  let g := s.perfs p
  match s.tr[p].interval with
  | none => s.updTr p (fun t => { t with phase := 0, interval := some 0 })
  | some n =>
    let s1 := s.updTr p (fun t =>
      { t with interval := some 0, empty := if n = 0 then satInc 3 t.empty else 0 })
    if n = g then s1
    else
      (s1.updTr p (fun t => { t with phase := 0, perfDefects := satInc Config.countMax t.perfDefects })).passUnlessQuiet p
        .perfDefect

/-- The offset of an edge in 1/64 of the nominal period, rounded down and at most 63 (R51). -/
def State.edgeOffset (s : State) : Nat :=
  min 63 ((s.now - s.tb.fieldStart) * 64 / s.tb.standard.period)

/-- The phase error of an offset (R51). -/
def phaseError (a : Nat) : Int := if a < 32 then a else (a : Int) - 64

/-- The nearest boundary of an offset in field n (R51). -/
def nearestBoundary (n : Field) (a : Nat) : Field := if a < 32 then n else n + 1

/-- An edge in SEARCH, measured (R53) and, when it brings the run to K, made a pending lock (R54). A pending lock that
stood is withdrawn by the edge, and a run at K or above counts as reaching K (DEDUCED, unsafe, assumption 19). -/
def Tracker.searchEdge (t : Tracker) (std : Standard) (n : Field) (a : Nat) : Tracker :=
  let e := phaseError a
  let b := nearestBoundary n a
  let t0 := { t with pendingLock := none }
  if (t.w : Int) < |e| then { t0 with run := 0, lastIn := none }
  else
    match t.lastIn with
    | none => { t0 with run := 1, lastIn := some b }
    | some l =>
      let d := fieldDiff b l
      if std.stepLength d then
        let t1 := { t0 with run := satInc 15 t.run, lastIn := some b }
        if t.k ≤ t1.run then
          let c : Step :=
            match std with
            | .s50 => .even
            | .s60 => if d = 3 then .short else .long
          { t1 with pendingLock := some ⟨if e < 0 then b else b + 1, t.frame, if e < 0 then 0 else 1, c⟩ }
        else t1
      else { t0 with run := 1, lastIn := some b }

/-- The frame that the cadence begins at the edge due, with its step, seen from the position of the field in progress
(R56). -/
def Pos.owed (q : Pos) (n due : Field) : Int × Step :=
  if 0 < fieldDiff due n then (q.f + 1, q.c.flip) else (q.f, q.c)

/-- How an edge in LOCKED is classed (R56, R57). -/
inductive EdgeClass where
  | inWindow
  | outWindow
  | slip
  | furtherOff
  deriving DecidableEq, Repr

/-- The class of an edge with nearest boundary b and phase error e (R56). DROP and REPEAT are both slips. -/
def Tracker.classify (t : Tracker) (due b : Field) (e : Int) : EdgeClass :=
  let d := fieldDiff b due
  if t.slipWait.isSome then .furtherOff
  else if d = 0 then (if |e| ≤ t.w then .inWindow else .outWindow)
  else if d = -1 ∨ d = 1 then .slip
  else .furtherOff

/-- An edge in LOCKED (R56 to R59). One that brings the out counter to M as a slip passes SLIP before LOCK_LOST (DESIGN CHOICE,
unsafe, assumption 34). -/
def State.lockedEdge (s : State) (p : Proj) (a : Nat) : State :=
  let n := s.field
  let t := s.tr[p]
  let e := phaseError a
  let b := nearestBoundary n a
  match t.pos, t.edgeDue with
  | some q, some due =>
    let g := q.owed n due
    match t.classify due b e with
    | .furtherOff => s.loseLock p
    | .inWindow => s.updTr p (fun t => { t with out := 0, edgeDue := some (due + BitVec.ofNat 32 g.2.len) })
    | .outWindow =>
      let s1 := s.updTr p (fun t => { t with out := satInc 7 t.out, edgeDue := some (due + BitVec.ofNat 32 g.2.len) })
      if t.m ≤ t.out + 1 then s1.loseLock p else s1
    | .slip =>
      let s1 := s.updTr p (fun t =>
        { t with
          out := satInc 7 t.out
          slips := satInc Config.countMax t.slips
          edgeDue := some (b + BitVec.ofNat 32 g.2.len)
          slipWait := some ⟨n + 1, g.1, if e < 0 then 0 else 1, g.2⟩ })
      let s2 := s1.passUnlessQuiet p .slip
      if t.m ≤ t.out + 1 then s2.loseLock p else s2
  | _, _ => s

/-- A shutter edge (R48): ignored with the motor off; in SEARCH it is a frame advance; it is checked for perforations,
may report FILM_BREAK (R50), and is then measured for search (R53) or for lock (R56). The order of these is a DESIGN CHOICE, unsafe, assumption 20;
so is PERF_DEFECT before COUNTER_LIMIT at the limit (assumption 34). -/
def State.edge (s : State) (p : Proj) : State :=
  if !s.tr[p].motor then s
  else
    let a := s.edgeOffset
    let before := s.ahead p
    let rises := s.tr[p].lock = .search && decide (s.tr[p].frame < Config.frameMax)
    let held := s.tr[p].lock = .search && !rises
    let s1 := if rises then s.updTr p (fun t => { t with frame := t.frame + 1 }) else s
    let s2 := (s1.checkPerfs p).passIf held (.proj p .counterLimit)
    let s3 := if rises then s2.frameAdvanced p before else s2
    let s4 := if s3.tr[p].motor && s3.tr[p].empty = 3 && s3.ch[p].running then s3.enterFault p [.filmBreak] else s3
    match s4.tr[p].lock with
    | .unlocked => s4
    | .search => s4.updTr p (fun t => t.searchEdge s4.tb.standard s4.field a)
    | .locked => s4.lockedEdge p a

/-! ### Boundaries (R54, R55, R57, R58) -/

/-- The cadence advance of a LOCKED tracker at a boundary, the frame count held at its limit (R47, R55). -/
def State.cadenceAdvance (s : State) (p : Proj) : State :=
  match s.tr[p].lock, s.tr[p].pos with
  | .locked, some q =>
    let q' := q.advance
    if q'.f = q.f then s.updTr p (fun t => { t with pos := some q' })
    else if s.tr[p].frame < Config.frameMax then
      let before := s.ahead p
      (s.updTr p (fun t => { t with pos := some q', frame := q'.f })).frameAdvanced p before
    else (s.updTr p (fun t => { t with pos := some { q' with f := q.f } })).pass (.proj p .counterLimit)
  | _, _ => s

/-- A slip correction at its boundary (R57). A rise of the frame count is a frame advance (R63). COUNTER_LIMIT comes before what the
advance causes (DESIGN CHOICE, unsafe, assumption 34). -/
def State.correctSlip (s : State) (p : Proj) : State :=
  match s.tr[p].lock, s.tr[p].slipWait with
  | .locked, some w =>
    if w.boundary = s.field then
      let before := s.ahead p
      let f := clampFrame w.g
      let rises := decide (s.tr[p].frame < f)
      let s1 := (s.updTr p (fun t => { t with pos := some ⟨f, w.i, w.c⟩, frame := f, slipWait := none })).passIf
        (!frameInRange w.g) (.proj p .counterLimit)
      if rises then s1.frameAdvanced p before else s1.tailoutOf p
    else s
  | _, _ => s

/-- A pending lock becomes LOCKED at its declaring boundary, and a channel in RUNUP enters RUN (R26, R54). -/
def State.declareLock (s : State) (p : Proj) : State :=
  match s.tr[p].lock, s.tr[p].pendingLock with
  | .search, some q =>
    if q.declare = s.field then
      let due := q.declare - BitVec.ofNat 32 q.i + BitVec.ofNat 32 q.c.len
      let s1 := s.updTr p (fun t =>
        { t with
          lock := .locked
          pos := some ⟨t.frame, q.i, q.c⟩
          edgeDue := some due
          slipWait := none
          pendingLock := none
          out := 0
          run := 0
          lastIn := none })
      if s1.ch[p].state = .runup then s1.updCh p (fun c => c.toRun s1.field s1.tr[p].frame) else s1
    else s
  | _, _ => s

/-- A missing edge at its boundary loses lock (R58). -/
def State.missEdge (s : State) (p : Proj) : State := if s.tr[p].edgeMissing s.field then s.loseLock p else s

end Sys2Proof.Machine
end

