-- ==== Sys2Proof/Machine/Changeover.lean ====
section
/-! DEFINITION. START (R25), and the changeover engine: arming (R130 to R136), the start (R137 to R140), the lock decision
(R146 to R149), the cuts (R152, R154), the entry to TAILOUT (R156) and aborting (R162). -/

namespace Sys2Proof.Machine

/-! ### START (R18, R25, R120) -/

/-- A START that a channel in READY takes (R25): RUNUP, the run-up record, the tracker's motor-on report, FRAMING when
the perf phase is not 0, and the skipping of cues behind the frame count with its watermark test. R25, R120 and R125 do not order
the FRAMING notice and the CUE notices of the skipped entries: FRAMING comes first (DESIGN CHOICE, unsafe, assumption 28). -/
def State.doStart (s : State) (p : Proj) : State :=
  let before := s.ahead p
  let n := s.field
  let frame := s.tr[p].frame
  let s1 := (s.updCh p (fun c => c.beginRunup n frame)).updTr p Tracker.motorOn
  let s2 := s1.passIf (decide (s.tr[p].phase ≠ 0)) (.proj p .framing)
  (s2.skipAtStart p).lowTest p before

/-- A START request (R18): the changeover check is made for the host's START alone. -/
def State.requestStart (s : State) (p : Proj) (fromHost : Bool) : State × Status :=
  if s.estop then (s, .estop)
  else if fromHost && (s.asIncoming p).isSome then (s, .inChangeover)
  else if s.ch[p].state ≠ .ready then (s, .busy)
  else (s.doStart p, .accepted)

/-- The engine gives the incoming projector its START (R137): the record becomes STARTING, or ends when the channel
refuses (R138). -/
def State.giveStart (s : State) (r : Rec) : State :=
  match s.eng.records[r] with
  | none => s
  | some rec =>
    match s.requestStart rec.b false with
    | (s1, .accepted) => s1.updRec r (fun rec => { rec with state := .starting, startField := some s.field })
    | _ => s.endRecord r .incomingFailed

/-! ### Arming (R130 to R136, R139) -/

/-- N_B, the frames that the incoming projector must run after its run-up (R131, R134). -/
def preRoll (q : Nat) (pB : Int) (d : Nat) : Int := (q : Int) - pB - d

/-- The lead (R134). -/
def leadOf (u : Nat) (nB : Nat) (stepP : Step) : Nat := u + cad nB (if nB % 2 = 0 then stepP else stepP.flip)

/-- The record that an arming fills (R127, R133). -/
def armRecord (a : Proj) (e : CueEntry) (part : ChangePart) (method : Method) (u d : Nat) (stepP : Step) (nB : Nat) :
    Record where
  state := .armed
  cue := e.number
  a := a
  b := part.incoming
  p := e.pos
  q := part.target
  tolerance := part.tolerance
  policy := part.policy
  margin := part.margin.toNat
  priority := part.priority
  tailOut := part.tailOut
  method := method
  uUsed := u
  dUsed := d
  stepP := stepP
  lead := leadOf u nB stepP
  startField := none
  e := none
  planned := none
  cutMade := none
  deferrals := 0
  flags := ⟨false, false, false, false⟩
  result := none

/-- The start test at the arming boundary (R139). R139 does not order the notices of the ending LATE: the CHANGE notice comes before
CHANGE_ABANDONED (DESIGN CHOICE, unsafe, assumption 34). -/
def State.armedStartTest (s : State) (r : Rec) (reach : Int) : State :=
  match s.eng.records[r] with
  | none => s
  | some rec =>
    if (rec.lead : Int) < reach then s
    else if reach = rec.lead then s.giveStart r
    else
      let s1 := s.updRec r (fun rec => { rec with flags := { rec.flags with lateStart := true } })
      match rec.policy with
      | .abandon => (s1.endRecord r .late).pass (.proj rec.a .changeAbandoned)
      | _ => s1.giveStart r

/-- The method that check 6 of R131 gives with the island to claim, absent when the check fails. The tally is the one for the
field, whichever block reacts first (R8). -/
def State.armMethod (s : State) (a b : Proj) : Option (Method × Option Isl) :=
  match s.route[b] with
  | none => none
  | some (ib, _) =>
    if (s.route[a]).any (fun x => x.1 = ib) then
      (if s.isl[ib].claim = none then some (.mirror, some ib) else none)
    else if s.tallyForField ib then none
    else some (.switch, none)

/-- The checks of R131 from the second on, for an entry within the horizon and a FREE record, and the arming (R132,
R133). The watermark test comes when the arming, its start test included, has been dealt with in full (R116; that the arming and not
the consumption alone is the event of R123 is DEDUCED, unsafe, assumption 27). The CUE_UNDERRUN of a NO_PREROLL consumption comes before
its CHANGE_MISSED (R116, R132; DESIGN CHOICE, unsafe, assumption 34). -/
def State.armEntry (s : State) (a : Proj) (q : Pos) (r : Rec) (e : CueEntry) (part : ChangePart) : State :=
  let b := part.incoming
  if s.inRecord a || s.route[b] = none || s.ch[b].state ≠ .ready || s.inRecord b then s
  else
    let u := s.ch[b].uEff
    let d := s.ch[b].dEff
    let nB := preRoll part.target s.tr[b].frame d
    let before := s.ahead a
    if nB < 0 then ((s.consume a e .noPreroll 0 true).pass (.proj a .changeMissed)).lowTest a before
    else
      match s.armMethod a b with
      | none => s
      | some (method, claim) =>
        let rec0 := armRecord a e part method u d (q.stepOf e.pos) nB.toNat
        let s1 := (s.setRec r (some rec0)).consume a e .armed r.val true
        let s2 :=
          match claim with
          | some i => s1.updIsl i (fun x => { x with claim := some r })
          | none => s1
        (s2.armedStartTest r (q.reach e.pos)).lowTest a before

/-- The engine's arming attempt on one projector at a boundary (R130, R131 check 1). -/
def State.armAttempt (s : State) (a : Proj) : State :=
  if s.ch[a].state = .run ∧ s.ch[a].mode = .auto then
    match s.fieldPos a with
    | none => s
    | some q =>
      match s.firstChange a q.f with
      | none => s
      | some (e, part) =>
        if (e.pos : Int) - q.f ≤ s.eng.horizon then
          match allRec.find? (fun r => s.eng.records[r] = none) with
          | none => s
          | some r => s.armEntry a q r e part
        else s
  else s

/-! ### The start (R137, R140) -/

/-- The start evaluation of a record in ARMED at a boundary (R137): none while A has no position for the field (R140). A correction
on A that a sample of the same boundary gives comes before it when the match is taken at once, and after it when the match is late
(R74; DESIGN CHOICE, safe, assumption 26). -/
def State.startEvaluation (s : State) (r : Rec) : State :=
  match s.eng.records[r] with
  | none => s
  | some rec =>
    if rec.state = .armed then
      match s.fieldPos rec.a with
      | none => s
      | some q => if q.reach rec.p ≤ rec.lead then s.giveStart r else s
    else s

/-! ### The lock decision (R146 to R149) -/

/-- The planned cut field and the result of a decision, absent for ABANDONED (R148). -/
def decideCut (n : Field) (e reachA reachB : Int) (tolerance : Nat) (policy : Policy) (margin : Nat) :
    Option (Field × Result) :=
  if -(tolerance : Int) ≤ e ∧ e ≤ tolerance then some (fieldAdd n reachA, .onTime)
  else if e < 0 then some (fieldAdd n reachA, .early)
  else
    match policy with
    | .cutOnTime => some (fieldAdd n reachA, .lateCut)
    | .hold =>
      if e ≤ margin then some (fieldAdd n reachB, .held) else some (fieldAdd n (reachA + margin), .heldShort)
    | .abandon => none

/-- Whether the lock decision of a record can be made at the present boundary (R146), with both positions. -/
def State.decisionPositions (s : State) (r : Rec) : Option (Record × Pos × Pos) :=
  match s.eng.records[r] with
  | none => none
  | some rec =>
    if rec.state = .starting ∧ s.tr[rec.a].lock = .locked ∧ s.tr[rec.b].lock = .locked then
      match s.fieldPos rec.a, s.fieldPos rec.b with
      | some qa, some qb => some (rec, qa, qb)
      | _, _ => none
    else none

/-- The lock decision (R146 to R149). The record becomes LOCKED and its cut test is to be made at the same boundary, or it
ends ABANDONED and B is given STOP. A correction that a sample of the same boundary gives comes before it when the match is taken at
once, and after it when the match is late (R75; DESIGN CHOICE, safe, assumption 26). -/
def State.decideLock (s : State) (r : Rec) : State :=
  match s.decisionPositions r with
  | none => s
  | some (rec, qa, qb) =>
    let reachA := qa.reach rec.p
    let reachB := qb.reach rec.q
    let e := reachB - reachA
    let broken := decide (qb.stepOf rec.q ≠ qa.stepOf rec.p)
    let s1 := s.updRec r (fun rec =>
      { rec with e := some e, flags := { rec.flags with cadenceBreak := rec.flags.cadenceBreak || broken } })
    match decideCut s.field e reachA reachB rec.tolerance rec.policy rec.margin with
    | none => ((s1.pass (.proj rec.a .changeAbandoned)).endRecord r .abandoned).giveStop rec.b
    | some (planned, result) =>
      (s1.updRec r (fun rec => { rec with state := .locked, planned := some planned, result := some result })).addDue
        (match rec.method with
        | .switch => .switchCut r
        | .mirror => .mirrorCut r)

/-! ### The cuts (R152, R154) -/

/-- The cut test of a SWITCH record in LOCKED (R152). -/
def State.switchCutTest (s : State) (r : Rec) : State :=
  match s.eng.records[r] with
  | none => s
  | some rec =>
    match rec.planned, s.route[rec.b] with
    | some planned, some (i, _) =>
      if rec.state = .locked ∧ rec.method = .switch ∧ fieldDiff planned s.field ≤ 1 then
        if s.ch[rec.b].running then
          (s.updTake (fun t =>
            { t with slots := t.slots.set r (some ⟨s.isl[i].source, rec.priority, s.field, planned, 0⟩) })).updRec r
            (fun rec => { rec with state := .cutting })
        else s.endRecord r .incomingFailed
      else s
    | _, _ => s

/-- The lateness of a mirror command, 0..255 (R154). -/
def commandLateness (n due : Field) : Nat := clampNat 0 255 (fieldDiff n due).toNat

/-- The cut test of a MIRROR record in LOCKED (R154). -/
def State.mirrorCutTest (s : State) (r : Rec) : State :=
  match s.eng.records[r] with
  | none => s
  | some rec =>
    match rec.planned, s.claimedBy r, s.route[rec.b] with
    | some planned, some i, some (_, port) =>
      let due := fieldAdd planned (-(s.isl[i].travel : Int))
      if rec.state = .locked ∧ rec.method = .mirror ∧ fieldReached due s.field then
        if s.ch[rec.b].running then
          (s.mirrorCommand i port).updRec r
            (fun rec => { rec with state := .cutting, deferrals := commandLateness s.field due })
        else s.endRecord r .incomingFailed
      else s
    | _, _, _ => s

/-! ### The cut made (R156) -/

/-- A record enters TAILOUT at the boundary at which its cut is made (R156). -/
def State.enterTailout (s : State) (r : Rec) : State :=
  match s.eng.records[r] with
  | none => s
  | some rec =>
    let unlocked := (s.fieldPos rec.b).isNone
    let s1 := (s.updRec r (fun rec =>
      { rec with
        state := .tailout
        cutMade := some s.field
        flags := { rec.flags with unlockedAtCut := rec.flags.unlockedAtCut || unlocked } })).releaseClaim r
    match rec.tailOut with
    | none => s1.endRecord r (rec.result.getD .onTime)
    | some _ => s1.tailoutTest r

/-! ### Aborting (R162) -/

/-- The record of lowest index that is not FREE and holds a cue number (R162). -/
def State.recOfCue (s : State) (cue : Nat) : Option Rec := s.findRec (fun rec => rec.cue = cue)

/-- An abort that reaches a record, with the reply status (R162). -/
def State.abort (s : State) (r : Rec) : State × Status :=
  match s.eng.records[r] with
  | none => (s, .unknown)
  | some rec =>
    match rec.state with
    | .armed => (s.endRecord r .aborted, .accepted)
    | .starting => ((s.endRecord r .aborted).giveStop rec.b, .accepted)
    | .locked => ((s.endRecord r .aborted).giveStop rec.b, .accepted)
    | .cutting => (s, .tooLate)
    | .tailout => (s.endRecord r .aborted, .accepted)

end Sys2Proof.Machine
end

