-- ==== Sys2Proof/Machine/Islands.lean ====
section
/-! DEFINITION. The island units at a boundary (R82 to R85, R88) and the take port's judgement of tallies (R97, R98). -/

namespace Sys2Proof.Machine

/-- The settled position that a reading gives after the previous reading (R82). -/
def settledBy (prev : Option (Fin 4)) (now : Fin 4) : Option Port :=
  if h : now.val < 3 then (if prev = some now then some ⟨now.val, h⟩ else none) else none

/-- Raise MIRROR_MISMATCH on an island (R85). R85 lists the alarm before the report to the claiming record and does not call that an
order: the ALARM notice comes before the CHANGE notice (DESIGN CHOICE, unsafe, assumption 34). -/
def State.raiseMismatch (s : State) (i : Isl) : State :=
  ((s.updIsl i (fun u => { u with mismatch := true })).pass (.isl i .mirrorMismatch)).engineMismatch i

/-- The take port judges a tally change read in the present field (R98), against the last take as it stands. A grant of this very
boundary is the last take when the order of the boundary has it before the islands, and an earlier take is when it has not: R97 lets
either come first and R98 does not say which take counts (DESIGN CHOICE, safe, assumption 9). -/
def State.judgeTally (s : State) (i : Isl) : State :=
  let ascribed := s.take.last.any (fun t => decide (1 ≤ fieldDiff s.field t.field) && decide (fieldDiff s.field t.field ≤ 4))
  if ascribed then s else s.pass (.isl i .tallyChange)

/-- The mirror half of an island's reaction to a boundary: the reading and the settled position (R82), a drift from the
commanded port (R85; when a command counts as pending is DEDUCED, unsafe, assumption 15; a mirror command of the same boundary
prevents the drift only when the order of the boundary names its step before the islands: DESIGN CHOICE, safe, assumption 9), the clearing of the mismatch condition (R85), and what waits: completion (R83) or the deadline (R84). -/
def State.readMirror (s : State) (i : Isl) : State :=
  let u := s.isl[i]
  let reading := s.pins.isl[i].mpos
  let settled := settledBy u.reading reading
  let home := settled = some u.commanded
  let drift := u.pending.isNone && !u.wasPending && decide (u.settled = some u.commanded) && !home
  let s1 := s.updIsl i (fun u =>
    { u with
      reading := some reading
      settled := settled
      wasPending := u.pending.isSome
      mismatch := u.mismatch && !home })
  let s2 := if drift then s1.raiseMismatch i else s1
  match u.pending with
  | none => s2
  | some cmd =>
    if settled = some cmd.port then s2.addDue (.mirrorComplete i)
    else s2.addDueIf (fieldReached cmd.deadline s.field) (.mirrorDeadline i)

/-- With a new field, each island's reading of the field just ended becomes the reading of the field before (R97). It does so as the
field begins, so that the previous set of a window is the same whichever of the islands' readings and the grant is taken first. -/
def State.ageTallies (s : State) : State :=
  { s with isl := map4 (fun u => { u with tallyBefore := u.tally.getD false }) s.isl }

/-- The tally half of an island's reaction to a boundary (R88). The first reading after power-on is not judged (R98). -/
def State.readTally (s : State) (i : Isl) : State :=
  let before := s.isl[i].tally
  let now := s.pins.isl[i].tly
  let s1 := s.updIsl i (fun u => { u with tally := some now })
  match before with
  | none => s1
  | some b => if b = now then s1 else s1.judgeTally i

/-- What the tallies of the present field show a window (R97). -/
def Window.observe (w : Window) (tallies : Vector Bool 4) : Window :=
  { w with
    seenOn := w.seenOn || w.target.any (fun i => tallies[i])
    seenOff := table4 (fun i => w.seenOff[i] || !tallies[i]) }

/-- The readings of the four tallies. -/
def State.tallies (s : State) : Vector Bool 4 := map4 (fun u => u.tally.getD false) s.isl

/-- The open window sees the tallies of its fields t + 1 to t + 4 (R97). -/
def State.observeWindow (s : State) : State :=
  s.updTake (fun t =>
    { t with
      window := t.window.map (fun w =>
        let d := fieldDiff s.field w.take
        if 1 ≤ d ∧ d ≤ 4 then w.observe s.tallies else w) })

/-- The islands' reaction to a boundary: mirrors, then tallies, then the take port's window. -/
def State.islandsReact (s : State) : State :=
  (allIsl.foldl (fun s i => (s.readMirror i).readTally i) s).observeWindow

/-- A pending command whose port is settled is complete (R83); the claiming record in CUTTING enters TAILOUT (R155). -/
def State.completeMirror (s : State) (i : Isl) : State :=
  match s.isl[i].pending with
  | none => s
  | some cmd =>
    if s.isl[i].settled = some cmd.port then
      let claim := s.isl[i].claim
      let s1 := s.updIsl i (fun u =>
        { u with pending := none, mismatch := u.mismatch && !decide (u.settled = some u.commanded) })
      match claim with
      | none => s1
      | some r => if (s1.eng.records[r]).any (fun rec => rec.state = .cutting) then s1.enterTailout r else s1
    else s

/-- A pending command not settled at its deadline fails (R84). -/
def State.failMirror (s : State) (i : Isl) : State :=
  match s.isl[i].pending with
  | none => s
  | some cmd =>
    if fieldReached cmd.deadline s.field ∧ s.isl[i].settled ≠ some cmd.port then
      (s.updIsl i (fun u => { u with pending := none })).raiseMismatch i
    else s

end Sys2Proof.Machine
end

