-- ==== Sys2Proof/Machine/Takes.lean ====
section
/-! DEFINITION. The take port's arbiter (R91 to R95) and confirmation windows (R97). -/

namespace Sys2Proof.Machine

/-- Whether a request is eligible at boundary n but for the timebase: posted in a field before n and due at or before n
(R91, R92). -/
def requestDue (posted due n : Field) : Bool := decide (fieldDiff posted n < 0) && fieldReached due n

/-- Whether a changeover request is due at the present boundary. -/
def State.slotDue (s : State) (r : Rec) : Bool :=
  (s.take.slots[r]).any (fun q => requestDue q.posted q.due s.field)

/-- Whether record r's request ranks before record x's: higher priority, then lower index (R92). -/
def ranksBefore (pr px : Fin 4) (r x : Rec) : Bool := decide (px < pr) || (decide (px = pr) && decide (r < x))

/-- The changeover request of highest rank among the due ones, with its record (R92). -/
def State.bestSlot (s : State) : Option (Rec × ChangeReq) :=
  allRec.foldl (fun best r =>
    match s.take.slots[r] with
    | none => best
    | some q =>
      if requestDue q.posted q.due s.field then
        match best with
        | none => some (r, q)
        | some (x, qx) => if ranksBefore q.priority qx.priority r x then some (r, q) else best
      else best) none

/-- What an arbitration grants. -/
structure Grant where
  origin : Origin
  source : Source
  deriving DecidableEq, Repr

/-- The winner of an arbitration (R92): the protective request, then, in SYNC, changeover requests by rank, then the host
request. The timebase state is the one in which the boundary was made. -/
def State.winner (s : State) : Option Grant :=
  match s.take.protective.filter (fun q => requestDue q.posted q.due s.field) with
  | some q => some ⟨.protective, q.source⟩
  | none =>
    if s.tb.madeInSync then
      match s.bestSlot with
      | some (r, q) => some ⟨.record r, q.source⟩
      | none => (s.take.host.filter (fun q => requestDue q.posted q.due s.field)).map (fun q => ⟨.host, q.source⟩)
    else none

/-- Count a deferral for every due changeover request that is not granted (R94). -/
def State.countDeferrals (s : State) (granted : Option Origin) : State :=
  allRec.foldl (fun s r =>
    if s.slotDue r && decide (granted ≠ some (.record r)) then
      s.updTake (fun t =>
        { t with slots := t.slots.set r (t.slots[r].map (fun q => { q with deferrals := satInc 255 q.deferrals })) })
    else s) s

/-- Judge the open window (R97): each island that fails passes TAKE_UNCONFIRMED, and the window becomes absent. R97 and R167 leave the
order of several islands open: I1 comes first and I4 last (DESIGN CHOICE, unsafe, assumption 34). -/
def State.judgeWindow (s : State) : State :=
  match s.take.window with
  | none => s
  | some w =>
    let failed (i : Isl) : Bool :=
      (decide (w.target = some i) && !w.seenOn) || (w.previous[i] && !w.seenOff[i])
    (allIsl.foldl (fun s i => s.passIf (failed i) (.isl i .takeUnconfirmed)) s).updTake
      (fun t => { t with window := none })

/-- The window that a take opens (R97): the target is the island whose source is taken, none for the safety source, and
the previous set is read from the field before the take. -/
def State.openWindow (s : State) (source : Source) : Window :=
  let target := if source = s.take.safety then none else s.islandOfSource source
  { take := s.field
    target := target
    previous := table4 (fun i => s.isl[i].tallyBefore && decide (target ≠ some i))
    seenOn := false
    seenOff := Vector.replicate 4 false }

/-- Take a granted request out of its slot (R92). -/
def TakePort.clearOrigin (t : TakePort) : Origin → TakePort
  | .record r => { t with slots := t.slots.set r none }
  | .protective => { t with protective := none }
  | .host => { t with host := none }

/-- The grant reaches a record in CUTTING (R95, R153). -/
def State.grantToRecord (s : State) (r : Rec) (deferrals : Nat) : State :=
  if (s.eng.records[r]).any (fun rec => rec.state = .cutting) then
    (s.updRec r (fun rec => { rec with deferrals := deferrals })).enterTailout r
  else s

/-- Drop the TAKE strobe (R93). -/
def State.dropStrobe (s : State) : State := s.updTake (fun t => { t with strobe := false })

/-- The arbitration at a boundary with its grant (R92 to R95). A window to be judged at this boundary is judged, and a
strobe to be dropped is dropped, before the grant opens its own (DESIGN CHOICE, safe, assumption 18). -/
def State.arbitrate (s : State) : State :=
  let s0 := if .windowJudged ∈ s.due then (s.judgeWindow).dropDue .windowJudged else s
  let s1 := if .strobeDrop ∈ s0.due then (s0.dropStrobe).dropDue .strobeDrop else s0
  match s1.winner with
  | none => s1.countDeferrals none
  | some g =>
    let handed :=
      match g.origin with
      | .record r => (s1.take.slots[r]).map (fun q => (r, q.deferrals))
      | _ => none
    let s2 := s1.countDeferrals (some g.origin)
    let s3 := s2.updTake (fun t =>
      { t.clearOrigin g.origin with
        tsrc := g.source
        strobe := true
        last := some ⟨s1.field, g.source, g.origin⟩
        window := some (s1.openWindow g.source) })
    match handed with
    | some (r, deferrals) => s3.grantToRecord r deferrals
    | none => s3

end Sys2Proof.Machine
end

