-- ==== Sys2Proof/Machine/Boundary.lean ====
section
/-! DEFINITION. The field boundary (R8): the blocks' reactions, the steps of the table that belong to a boundary and wait to
be taken, and the passing of time. -/

namespace Sys2Proof.Machine

/-! ### The channel at a boundary (R20, R21, R24, R31) -/

/-- A timer counts a boundary after the field in which it was started (R21, R25). -/
def Timer.tick (t : Timer) (n : Field) : Timer := if t.start = n then t else { t with count := satInc 1023 t.count }

/-- Whether a timer has reached its end. -/
def Timer.reached (t : Timer) : Bool := decide (t.limit ≤ t.count)

/-- The lamp-fail count after a boundary (R24). -/
def Channel.watchLamp (c : Channel) (lampok : Bool) : Nat :=
  if c.state = .ready ∨ c.running then (if lampok then 0 else satInc 2 c.lampFails) else 0

/-- A channel's counts at a boundary (R20, R21, R24, R28). -/
def Channel.count (c : Channel) (n : Field) (lampok : Bool) : Channel :=
  { c with
    still := satInc 63 c.still
    strike := c.strike.map (fun t => t.tick n)
    runup := c.runup.map (fun t => t.tick n)
    lampFails := c.watchLamp lampok }

/-- The run-up timer has run out in RUNUP (R28). -/
def Channel.runupOut (c : Channel) : Bool := c.state = .runup && c.runup.any Timer.reached

/-- The faults that LOOP and TAIL raise at a boundary (R31). A run that began at this very boundary meets them at
the next (DEDUCED, unsafe, assumption 10). -/
def Channel.inputFaults (c : Channel) (n : Field) (f : ProjFlags) : List ChanFault :=
  let fresh := c.record.any (fun r => r.startField = n)
  (if f.loop && c.running && !fresh then [.loopLoss] else [])
    ++ (if f.tail && (c.running || c.state = .inch) && !fresh then [.runout] else [])

/-- The lamp and run-up faults that have arisen on a channel at this boundary, in the order of R31. A change of state since
the count has set the lamp-fail count to 0, and the lamp has then not failed at this boundary (R24). -/
def Channel.countFaults (c : Channel) (lampDue runupDue : Bool) : List ChanFault :=
  (if lampDue && (c.state = .ready || c.running) && decide (c.lampFails = 2) then [.lampFail] else [])
    ++ (if runupDue && c.runupOut then [.lockFail] else [])

/-- A channel's reaction to a boundary: its counts, the loop and tail faults with any lamp or run-up fault that arises beside
them (R31), and the steps that wait. LOOP_LOSS and RUNOUT have no row of their own and are taken here: before every step of the
boundary that waits for its row, and after those that the order of the boundary names first (R158, R159; DESIGN CHOICE, safe,
assumption 29). -/
def State.channelReact (s : State) (p : Proj) : State :=
  let flags := s.alarm.flags[p]
  let s1 := s.updCh p (fun c => c.count s.field flags.lampok)
  let c := s1.ch[p]
  let lampDue := decide (c.lampFails = 2)
  let inputs := c.inputFaults s.field flags
  if inputs ≠ [] then s1.enterFault p (inputs ++ c.countFaults lampDue true)
  else
    let strikeDue := c.state = .strike && c.strike.any Timer.reached
    let coastDue := c.state = .coast && c.isStill
    (((s1.addDueIf strikeDue (.strikeEnd p)).addDueIf lampDue (.lampFail p)).addDueIf c.runupOut (.runupTimeout p)).addDueIf
      coastDue (.coastEnd p)

/-- The end of a strike (R22): a failure gives no protective action. -/
def State.endStrike (s : State) (p : Proj) : State :=
  if s.ch[p].state = .strike then
    if s.alarm.flags[p].lampok then
      s.updCh p (fun c => { c with state := .ready, strike := none, lampFails := 0 })
    else s.enterFault p [.lampFail]
  else s

/-! ### The tracker at a boundary -/

/-- A tracker's reaction to a boundary: the cadence advance, unless a slip correction or a lock belongs to it (R54, R55,
R57), and the steps that wait. -/
def State.trackerReact (s0 : State) (p : Proj) : State :=
  let s := { s0 with unmoved := s0.unmoved.filter (fun x => x ≠ p) }
  let n := s.field
  let slip := s.tr[p].lock = .locked && s.tr[p].slipWait.any (fun w => w.boundary = n)
  let lock := s.tr[p].lock = .search && s.tr[p].pendingLock.any (fun q => q.declare = n)
  let s1 := if slip then s.addDue (.slipCorrection p) else s.cadenceAdvance p
  (s1.addDueIf lock (.lockDeclared p)).addDueIf (!slip && s1.tr[p].edgeMissing n) (.missingEdge p)

/-! ### Steps of the table that wait at a boundary -/

/-- The second boundary without lamp current (R24): the fault arises, with a run-up that has run out beside it (R31). When another
step of this boundary has changed the channel's state first, the count began again at 0 with that change and this boundary's watch
follows it: the count is 1 and no fault arises. -/
def State.failLamp (s : State) (p : Proj) : State :=
  let c := s.ch[p]
  if (c.state = .ready ∨ c.running = true) ∧ c.lampFails ≠ 2 then s.updCh p (fun c => { c with lampFails := 1 })
  else (s.enterFault p (c.countFaults true (decide (.runupTimeout p ∈ s.due)))).dropDue (.runupTimeout p)

/-- The effect of a waiting step, with its own conditions on the state that it finds. -/
def State.effect (s : State) : Due → State
  | .strikeEnd p => s.endStrike p
  | .lampFail p => s.failLamp p
  | .runupTimeout p =>
    if s.ch[p].runupOut then
      (s.enterFault p (s.ch[p].countFaults (decide (.lampFail p ∈ s.due)) true)).dropDue (.lampFail p)
    else s
  | .coastEnd p => if s.ch[p].state = .coast then s.updCh p Channel.endCoast else s
  | .lockDeclared p => s.declareLock p
  | .slipCorrection p => s.correctSlip p
  | .missingEdge p => s.missEdge p
  | .mirrorComplete i => s.completeMirror i
  | .mirrorDeadline i => s.failMirror i
  | .takeGrant => s.arbitrate
  | .strobeDrop => s.dropStrobe
  | .windowJudged => s.judgeWindow
  | .changeoverStart r => s.startEvaluation r
  | .lockDecision r => s.decideLock r
  | .switchCut r => s.switchCutTest r
  | .mirrorCut r => s.mirrorCutTest r

/-- Whether a waiting step can be taken yet: a lock decision waits for both locks (R146). -/
def State.canTake (s : State) : Due → Bool
  | .lockDecision r => (s.decisionPositions r).isSome
  | _ => true

/-- Take a step that waits at this boundary. One that does not wait has not arisen and changes nothing
(DESIGN CHOICE, safe, assumption 7). -/
def State.takeDue (s : State) (d : Due) : State :=
  if d ∈ s.due ∧ s.canTake d = true then (s.dropDue d).effect d else s

/-- The steps of a tracker. -/
def trackerSteps (p : Proj) : List Due := [.lockDeclared p, .slipCorrection p, .missingEdge p]

/-- The steps of a tracker and its channel. -/
def projSteps (p : Proj) : List Due := trackerSteps p ++ [.strikeEnd p, .lampFail p, .runupTimeout p, .coastEnd p]

/-- Take steps, in the order of a list, as far as they wait. -/
def State.takeDues (s : State) (ds : List Due) : State := ds.foldl (fun s d => s.takeDue d) s

/-- The order in which steps that were not taken one by one are taken: positions and channels, mirrors, takes, changeovers. -/
def dueOrder : List Due :=
  allProj.flatMap projSteps
    ++ allIsl.flatMap (fun i => [.mirrorComplete i, .mirrorDeadline i])
    ++ [.windowJudged, .strobeDrop, .takeGrant]
    ++ allRec.flatMap (fun r => [.changeoverStart r, .lockDecision r, .switchCut r, .mirrorCut r])

/-- Take every step that still waits at this boundary: each belongs to its boundary, so none is left when time passes
(DESIGN CHOICE, safe, assumption 7). -/
def State.settle (s : State) : State :=
  if s.due = [] then s else { s.takeDues dueOrder with due := [] }

/-! ### Time -/

/-- Let time pass to a moment. -/
def State.passTo (s : State) (t : Nat) : State := if s.now < t then { s.settle with now := t } else s

/-- The input lines as they read now; a CUE input that is asserted sets its sensor latch (R67; at every event,
DEDUCED, unsafe, assumption 17). -/
def State.readPins (s : State) (pins : Pins) : State :=
  allProj.foldl (fun s p => if pins.proj[p].cue then s.updDet p (fun d => { d with latch := true }) else s)
    { s with pins := pins }

/-- The state that an event with the clock and the input lines given finds: what waited is taken, and the waiting matches that the
event does not name as late. -/
def State.arriveAt (s : State) (t : Nat) (pins : Pins) : State := ((s.passTo t).readPins pins).takeFound

/-- The state that an event from outside finds. -/
def State.arrive (s : State) (m : Moment) : State := s.arriveAt (s.now + m.elapsed) m.pins

/-! ### The boundary (R8) -/

/-- A step that waits from the state of a record at a boundary. -/
def dueOfRecord (r : Rec) (rec : Record) : List Due :=
  match rec.state with
  | .armed => [.changeoverStart r]
  | .starting => [.lockDecision r]
  | .locked => match rec.method with
    | .switch => [.switchCut r]
    | .mirror => [.mirrorCut r]
  | _ => []

/-- The field begins: what waited at the boundary before is taken, the counter advances (R8), the projector inputs are
sampled (R173), the tallies of the field before are fixed (R97), the engine's, the window's and the strobe's steps wait, and every
tracker has yet to react. -/
def State.beginField (s : State) (inSync : Bool) : State :=
  let s0 := s.settle
  let s1 := (s0.updTb (fun t =>
    { t with field := t.field + 1, fieldStart := s0.now, madeInSync := inSync })).sampleFlags.ageTallies
  let windowDue := s1.take.window.any (fun w => decide (5 ≤ fieldDiff s1.field w.take))
  let engine := allRec.flatMap (fun r => (s1.eng.records[r]).elim [] (dueOfRecord r))
  (({ s1 with due := engine, unmoved := allProj }).addDueIf windowDue .windowJudged).addDueIf s1.take.strobe .strobeDrop

/-- The take port's part of a boundary: an arbitration waits when some request is eligible; otherwise the deferrals are
counted at once (R92, R94). -/
def State.takesReact (s : State) : State :=
  if s.winner.isSome then s.addDue .takeGrant else s.countDeferrals none

/-- A list of all members, those named first in the order in which they are named. -/
def fullOrder {α : Type} [DecidableEq α] (first all : List α) : List α :=
  (first ++ all).foldl (fun acc x => if x ∈ acc then acc else acc ++ [x]) []

/-- Every reaction to a boundary, in the order of those that an order leaves out. -/
def allParts : List Part :=
  allProj.map .tracker ++ allProj.map .channel ++ [.islands] ++ allProj.map .arming ++ [.take]

/-- An arbitration that an order names makes its grant where it stands. Before the islands or after them, its window has the same
previous set (R97); a tally change that they read at this boundary is judged against this take when the grant comes first, and against
the take before it when the islands do (R98; DESIGN CHOICE, safe, assumption 9). -/
def Part.named : Part → List Part
  | .take => [.take, .step .takeGrant]
  | x => [x]

/-- The reactions to a boundary in their order. -/
def partOrder (o : BoundaryOrder) : List Part := fullOrder (o.parts.flatMap Part.named) allParts

/-- One reaction to a boundary. -/
def State.partReact (s : State) : Part → State
  | .tracker p => s.trackerReact p
  | .channel p => s.channelReact p
  | .islands => s.islandsReact
  | .arming p => s.armAttempt p
  | .take => s.takesReact
  | .step d => s.takeDue d

/-- The part reacts to the field that has begun, in the order of the event (R8). Where the order names no step, the engine's steps for
the records that stood at the boundary and the mirrors' and the take port's steps wait for their rows: so they come after the
trackers' frame advances with the STOP cues that these reach, after LOOP_LOSS and RUNOUT, after a drift (R85) and after the arming
attempts (R136). An order that names a step has it before the reactions that it names later or not at all, as R158 and R159 allow
(DESIGN CHOICE, safe, assumptions 9 and 29). Corrections come on either side of the engine's steps (R74, R75; assumption 26). -/
def State.react (s : State) (o : BoundaryOrder) : State := (partOrder o).foldl State.partReact s

/-- A field boundary (R8). -/
def State.boundary (s : State) (inSync : Bool) (o : BoundaryOrder) : State := (s.beginField inSync).react o

end Sys2Proof.Machine
end

