-- ==== Sys2Proof/Machine/Settings.lean ====
section
/-! DEFINITION. What an answered command comes to, and the setting commands of the line: SET_STANDARD (R14), SET_ROUTE (R79),
SET_ISLAND (R80), SET_PROJECTOR (R38), SET_SIGNATURE (R76), SET_SAFETY (R99), SET_HORIZON (R144), SET_MASK (R172), SET_REPORT
(R64), SET_GROUP (R182). -/

namespace Sys2Proof.Machine

/-- A command carried out: the state it leaves, the status of its reply and the reply's body (R180, R183). -/
structure Answer where
  state : State
  status : Status
  body : List Byte

/-- A command answered with no body. -/
def State.answer (s : State) (st : Status) : Answer := ⟨s, st, []⟩

/-- ACCEPTED, or ACCEPTED_CLAMPED when a value was clamped (R180). -/
def acceptedIf (clamped : Bool) : Status := if clamped then .acceptedClamped else .accepted

/-- SET_STANDARD is refused BUSY unless every projector is in DARK, STRIKE, READY or FAULT and every record is FREE (R14). -/
def State.standardBusy (s : State) : Bool :=
  allProj.any (fun p => s.ch[p].inMotion) || allRec.any (fun r => (s.eng.records[r]).isSome)

/-- The change of standard (R14). -/
def State.changeStandard (s : State) (std : Standard) : State :=
  { s with
    tb := { s.tb with
      standard := std
      state := .acquire
      runCount := 0
      lastPulse := none
      tick := some (s.now + std.period) }
    tr := map8 Tracker.unsetCadence s.tr }

/-- SET_STANDARD (R14). -/
def cmdSetStandard (code : Byte) (s : State) : Answer :=
  match standardOf code with
  | none => s.answer .badField
  | some std =>
    if std = s.tb.standard then s.answer .accepted
    else if s.standardBusy then s.answer .busy
    else (s.changeStandard std).answer .accepted

/-- The place that SET_ROUTE names: absent when a field is out of range, unassigned for island 0 (R79). -/
def placeOf (island port : Byte) : Option (Option (Isl × Port)) :=
  if island = 0 then some none
  else
    match islOf island, portOf port with
    | some i, some q => some (some (i, q))
    | _, _ => none

/-- SET_ROUTE (R79). -/
def cmdSetRoute (projector island port : Byte) (s : State) : Answer :=
  match projOf projector, placeOf island port with
  | some p, some place =>
    if s.inRecord p then s.answer .inChangeover
    else if s.ch[p].inMotion then s.answer .busy
    else if place ≠ none ∧ (allProj.any fun x => decide (x ≠ p) && decide (s.route[x] = place)) = true then s.answer .duplicate
    else { s with route := s.route.set p place }.answer .accepted
  | _, _ => s.answer .badField

/-- Whether a projector routed to an island belongs to a record that is not FREE (R80). -/
def State.islandInRecord (s : State) (i : Isl) : Bool :=
  allProj.any (fun p => (s.route[p]).any (fun x => x.1 = i) && s.inRecord p)

/-- SET_ISLAND (R80). -/
def cmdSetIsland (island source travel : Byte) (s : State) : Answer :=
  match islOf island, sourceOf source with
  | some i, some c =>
    if (allIsl.any fun x => decide (x ≠ i) && decide (s.isl[x].source = c)) || decide (s.take.safety = c) then
      s.answer .duplicate
    else if s.islandInRecord i then s.answer .inChangeover
    else
      let t := clampNat 1 15 travel.toNat
      (s.updIsl i (fun u => { u with source := c, travel := t })).answer (acceptedIf (decide (t ≠ travel.toNat)))
  | _, _ => s.answer .badField

/-- The configuration that a SET_PROJECTOR body holds after clamping (R38). -/
def configOf (b : ProjectorBody) (g : Gauge) : ChanConfig where
  gauge := g
  strikeFields := clampNat 10 1023 b.strikeFields.toNat
  runupLimit := clampNat 1 1023 b.runupLimit.toNat
  stillness := clampNat 2 63 b.stillness.toNat
  progU := clampNat 0 1023 b.progU.toNat
  progD := clampNat 0 255 b.progD.toNat
  adaptDepth := b.adaptDepth.toNat

/-- Whether SET_PROJECTOR clamps a value (R38, R52). -/
def bodyClamps (b : ProjectorBody) (g : Gauge) : Bool :=
  let c := configOf b g
  decide (c.strikeFields ≠ b.strikeFields.toNat) || decide (c.runupLimit ≠ b.runupLimit.toNat)
    || decide (c.stillness ≠ b.stillness.toNat) || decide (c.progU ≠ b.progU.toNat) || decide (c.progD ≠ b.progD.toNat)
    || decide (clampNat 1 16 b.w.toNat ≠ b.w.toNat) || decide (clampNat 2 15 b.k.toNat ≠ b.k.toNat)
    || decide (clampNat 1 7 b.m.toNat ≠ b.m.toNat)

/-- A channel takes a configuration; a change of gauge, U or D empties the run-up history (R38). -/
def Channel.configure (c : Channel) (cfg : ChanConfig) : Channel :=
  { c with
    config := cfg
    history :=
      if cfg.gauge = c.config.gauge ∧ cfg.progU = c.config.progU ∧ cfg.progD = c.config.progD then c.history else [] }

/-- A tracker takes its lock parameters; a change of gauge sets the perf phase to 0 (R52). -/
def Tracker.configure (t : Tracker) (w k m : Nat) (gaugeChanged : Bool) : Tracker :=
  { t with w := w, k := k, m := m, phase := if gaugeChanged then 0 else t.phase }

/-- SET_PROJECTOR (R38, R52). -/
def cmdSetProjector (b : ProjectorBody) (s : State) : Answer :=
  match projOf b.projector, gaugeOf b.gauge with
  | some p, some g =>
    if ¬(b.adaptDepth.toNat ∈ [0, 2, 4, 8]) then s.answer .badField
    else if s.inRecord p then s.answer .inChangeover
    else if s.ch[p].inMotion then s.answer .busy
    else
      let changed := decide (g ≠ s.ch[p].config.gauge)
      ((s.updCh p (fun c => c.configure (configOf b g))).updTr p (fun t =>
        t.configure (clampNat 1 16 b.w.toNat) (clampNat 2 15 b.k.toNat) (clampNat 1 7 b.m.toNat) changed)).answer
        (acceptedIf (bodyClamps b g))
  | _, _ => s.answer .badField

/-- The samples of a pattern byte, oldest in bit 7 (R183). -/
def patternSamples (b : Byte) : List Bool := [7, 6, 5, 4, 3, 2, 1, 0].map (fun k => b.getLsbD k)

/-- SET_SIGNATURE (R76). -/
def cmdSetSignature (projector length pattern : Byte) (s : State) : Answer :=
  match projOf projector with
  | none => s.answer .badField
  | some p =>
    let l := length.toNat
    let pat := (patternSamples pattern).take l
    if l < 5 ∨ 8 < l then s.answer .badField
    else if pat.all (fun x => !x) then s.answer .badField
    else if s.ch[p].inMotion then s.answer .busy
    else (s.updDet p (fun d => { d with sigLen := l, sigPat := pat, history := [] })).answer .accepted

/-- SET_SAFETY (R99). -/
def cmdSetSafety (source flags : Byte) (s : State) : Answer :=
  match sourceOf source with
  | none => s.answer .badField
  | some c =>
    if flags.getLsbD 7 then s.answer .badField
    else if (s.islandOfSource c).isSome then s.answer .duplicate
    else (s.updTake (fun t => { t with safety := c, protectSet := BitVec.ofNat 7 flags.toNat })).answer .accepted

/-- SET_HORIZON (R144). -/
def cmdSetHorizon (horizon : BitVec 16) (s : State) : Answer :=
  let h := clampNat 24 9999 horizon.toNat
  { s with eng := { s.eng with horizon := h } }.answer (acceptedIf (decide (h ≠ horizon.toNat)))

/-- SET_MASK (R172). -/
def cmdSetMask (unit : Byte) (kinds : BitVec 32) (setting : Byte) (s : State) : Answer :=
  match alarmTargets unit kinds with
  | none => s.answer .badField
  | some targets =>
    if setting = 0 then (s.maskLatches targets false).answer .accepted
    else if setting = 1 then (s.maskLatches targets true).answer .accepted
    else s.answer .badField

/-- The report period that a value gives: 0 turns reports off, others are clamped to 16..4096 (R64). -/
def reportPeriod (v : Nat) : Nat := if v = 0 then 0 else clampNat 16 4096 v

/-- SET_REPORT (R64). -/
def cmdSetReport (projector : Byte) (period : BitVec 16) (s : State) : Answer :=
  match projOf projector with
  | none => s.answer .badField
  | some p =>
    let v := reportPeriod period.toNat
    (s.updTr p (fun t => { t with period := v })).answer (acceptedIf (decide (v ≠ period.toNat)))

/-- SET_GROUP (R182). -/
def cmdSetGroup (mask : Byte) (s : State) : Answer :=
  if 63 < mask.toNat then s.answer .badField
  else (s.updLine (fun l => { l with mask := BitVec.ofNat 6 mask.toNat })).answer .accepted

end Sys2Proof.Machine
end

