-- ==== Sys2Proof/Machine/Control.lean ====
section
/-! DEFINITION. The operating commands of the line: LAMP (R21, R23), START (R25), STOP (R29), INCH (R30), CLEAR (R32), SET_MODE
(R36), PRESET (R37), TAKE (R96), MIRROR (R87), ABORT_CHANGE (R162), RESTART (R189), the cue edits LOAD_CUES (R111), DELETE_CUE
(R113) and CLEAR_CUES (R114), ACK_ALARMS (R170) and POLL (R185). -/

namespace Sys2Proof.Machine

/-! ### Requests to one channel (R18) -/

/-- LAMP on (R21). -/
def State.requestLampOn (s : State) (p : Proj) : State × Status :=
  if s.estop then (s, .estop)
  else
    match s.ch[p].state with
    | .dark => (s.updCh p (fun c => c.strikeLamp s.field), .accepted)
    | .strike | .ready | .runup | .run => (s, .accepted)
    | .coast | .inch => if s.ch[p].lamp then (s, .accepted) else (s, .busy)
    | .fault => (s, .busy)

/-- LAMP off (R23). -/
def State.requestLampOff (s : State) (p : Proj) : State × Status :=
  if s.estop then (s, .estop)
  else if (s.asIncoming p).isSome then (s, .inChangeover)
  else
    match s.ch[p].state with
    | .dark => (s, .accepted)
    | .strike | .ready => (s.updCh p Channel.darken, .accepted)
    | .runup | .run => (s, .busy)
    | .coast | .inch | .fault => (s.updCh p (fun c => { c with lamp := false }), .accepted)

/-- LAMP with its code (R18 check 1, R21, R23). -/
def State.requestLamp (lamp : Byte) (s : State) (p : Proj) : State × Status :=
  if lamp = 1 then s.requestLampOn p else if lamp = 0 then s.requestLampOff p else (s, .badField)

/-- INCH forward or reverse (R30). -/
def State.requestInch (s : State) (p : Proj) (forward : Bool) : State × Status :=
  if s.estop then (s, .estop)
  else if (s.asIncoming p).isSome then (s, .inChangeover)
  else if s.ch[p].state = .dark ∨ s.ch[p].state = .ready then (s.updCh p (fun c => c.toInch forward), .accepted)
  else (s, .busy)

/-- INCH stop (R30). -/
def State.requestInchStop (s : State) (p : Proj) : State × Status :=
  if s.estop then (s, .estop)
  else if (s.asIncoming p).isSome then (s, .inChangeover)
  else if s.ch[p].state = .inch then (s.updCh p Channel.toCoast, .accepted)
  else (s, .busy)

/-- CLEAR (R32), with TAIL, LOOP and LAMPOK as they stand. -/
def State.requestClear (s : State) (p : Proj) : State × Status :=
  if s.estop then (s, .estop)
  else if s.ch[p].state ≠ .fault then (s, .busy)
  else if !s.ch[p].isStill then (s, .notStill)
  else if s.pins.proj[p].tail || s.pins.proj[p].loop then (s, .busy)
  else (s.updCh p (fun c => c.clearFault s.pins.proj[p].lampok), .accepted)

/-! ### Projector number 0 (R19) -/

/-- A request taken to a list of projectors, each on its own. -/
def State.requestEach (req : State → Proj → State × Status) (s : State) : List Proj → State × List Status
  | [] => (s, [])
  | p :: ps =>
    let (s1, st) := req s p
    let (s2, sts) := s1.requestEach req ps
    (s2, st :: sts)

/-- Whether a status says that the request was taken. -/
def Status.taken (st : Status) : Bool := st = .accepted || st = .acceptedClamped

/-- A START, STOP or LAMP: projector 0 reaches all eight channels, P1 first, and the reply carries the status of the lowest
that refused with all eight statuses in its body (R19, R180). -/
def forProjectors (req : State → Proj → State × Status) (projector : Byte) (s : State) : Answer :=
  if projector = 0 then
    let (s1, sts) := s.requestEach req allProj
    ⟨s1, (sts.find? (fun st => !st.taken)).getD .accepted, sts.map Status.code⟩
  else
    match projOf projector with
    | none => s.answer .badField
    | some p => let (s1, st) := req s p; s1.answer st

/-- A command that reaches one projector and refuses number 0 (R19). -/
def forProjector (req : State → Proj → State × Status) (projector : Byte) (s : State) : Answer :=
  match projOf projector with
  | none => s.answer .badField
  | some p => let (s1, st) := req s p; s1.answer st

/-- LAMP (R18, R19, R21, R23). -/
def cmdLamp (projector lamp : Byte) (s : State) : Answer := forProjectors (State.requestLamp lamp) projector s

/-- START from the host (R25). -/
def cmdStart (projector : Byte) (s : State) : Answer := forProjectors (fun s p => s.requestStart p true) projector s

/-- STOP from the host (R29). -/
def cmdStop (projector : Byte) (s : State) : Answer := forProjectors State.requestStop projector s

/-- INCH with its direction code (R30). -/
def cmdInch (projector direction : Byte) (s : State) : Answer :=
  if direction = 0 then forProjector State.requestInchStop projector s
  else if direction = 1 then forProjector (fun s p => s.requestInch p true) projector s
  else if direction = 2 then forProjector (fun s p => s.requestInch p false) projector s
  else s.answer .badField

/-- CLEAR (R32). -/
def cmdClear (projector : Byte) (s : State) : Answer := forProjector State.requestClear projector s

/-- SET_MODE (R36). -/
def cmdSetMode (projector mode : Byte) (s : State) : Answer :=
  match projOf projector, modeOf mode with
  | some p, some md =>
    if s.estop then s.answer .estop else (s.updCh p (fun c => { c with mode := md })).answer .accepted
  | _, _ => s.answer .badField

/-- PRESET taken: the frame count and the perf phase (R37), the detector (R68), the watermark test (R123). -/
def State.doPreset (s : State) (p : Proj) (frame : Int) : State :=
  let before := s.ahead p
  ((s.updTr p (fun t => { t with frame := frame, phase := 0 })).updDet p Detector.cleared).lowTest p before

/-- PRESET (R37). -/
def cmdPreset (projector : Byte) (frame : BitVec 24) (s : State) : Answer :=
  match projOf projector with
  | none => s.answer .badField
  | some p =>
    let st := s.ch[p].state
    if !frameInRange frame.toInt then s.answer .badField
    else if s.estop then s.answer .estop
    else if (s.asIncoming p).isSome then s.answer .inChangeover
    else if ¬(st = .dark ∨ st = .ready ∨ st = .fault) ∨ s.ch[p].isStill = false then s.answer .busy
    else (s.doPreset p frame.toInt).answer .accepted

/-! ### Cue edits -/

/-- The watermark setting of LOAD_CUES: absent when it is neither 0..15 nor KEEP, which changes nothing (R111, R183). -/
def watermarkOf (b : Byte) : Option (Option Nat) :=
  if b = 0xFF then some none else if b.toNat ≤ 15 then some (some b.toNat) else none

/-- Apply a watermark setting (R111, R122). -/
def State.setWatermark (s : State) (p : Proj) (w : Option Nat) : State :=
  match w with
  | none => s
  | some n => { s with cues := { s.cues with low := s.cues.low.set p n } }

/-- LOAD_CUES (R111, R112). -/
def cmdLoadCues (header watermark : Byte) (body : List Byte) (s : State) : Answer :=
  match projOf (BitVec.ofNat 8 (header.toNat % 16)), watermarkOf watermark with
  | some p, some w =>
    let count := header.toNat / 16
    if count < 1 ∨ 4 < count then s.answer .badField
    else
      match scanEntries count body with
      | .refused st => s.answer st
      | .entries es =>
        let before := s.ahead p
        let (s1, rs) := (s.setWatermark p w).loadEntries p es
        ⟨s1.lowTest p before, .accepted, rs.map EntryResult.code⟩
  | _, _ => s.answer .badField

/-- DELETE_CUE (R113). -/
def cmdDeleteCue (cue : BitVec 16) (s : State) : Answer :=
  match (if cue = 0 then none else s.cueOwner cue.toNat) with
  | none => s.answer .unknown
  | some p =>
    let before := s.ahead p
    ((s.removeCue p cue.toNat).lowTest p before).answer .accepted

/-- CLEAR_CUES (R114). -/
def cmdClearCues (projector : Byte) (s : State) : Answer :=
  match projOf projector with
  | none => s.answer .badField
  | some p =>
    let before := s.ahead p
    let n := s.cues.lists[p].length
    ⟨(s.setCues p [] (s.cues.free + n)).lowTest p before, .accepted, b2 n⟩

/-! ### Changeover, take and mirror -/

/-- ABORT_CHANGE (R162). -/
def cmdAbortChange (cue : BitVec 16) (s : State) : Answer :=
  match (if cue = 0 then none else s.recOfCue cue.toNat) with
  | none => s.answer .unknown
  | some r => let (s1, st) := s.abort r; ⟨s1, st, b1 r.val⟩

/-- TAKE (R96). -/
def cmdTake (source : Byte) (s : State) : Answer :=
  match sourceOf source with
  | none => s.answer .badField
  | some c =>
    if s.take.host.isSome then s.answer .busy
    else (s.updTake (fun t => { t with host := some ⟨c, s.field, fieldAdd s.field 1⟩ })).answer .accepted

/-- MIRROR (R87). -/
def cmdMirror (island port : Byte) (s : State) : Answer :=
  match islOf island, portOf port with
  | some i, some q =>
    if s.isl[i].claim.isSome then s.answer .claimed else (s.mirrorCommand i q).answer .accepted
  | _, _ => s.answer .badField

/-! ### Restart -/

/-- A tracker under RESTART (R42, R44). -/
def State.restartProjector (s : State) (p : Proj) : State :=
  ((s.updCh p Channel.restart).updTr p Tracker.motorOff).updDet p Detector.cleared

/-- RESTART (R189): channels (R42), trackers and detectors (R44, R66), take port (R105), records (R163), claims (R86). -/
def cmdRestart (s : State) : Answer :=
  let s1 := allProj.foldl (fun s p => s.restartProjector p) s
  let s2 := s1.updTake (fun t => { t with slots := Vector.replicate 4 none, host := none })
  (s2.endAllRecords .restart).answer .accepted

/-! ### Alarms and notices -/

/-- What ACK_ALARMS reports for a unit: enabled latches of class MAJOR and MINOR left (R170, R183). -/
def State.unitLeft (s : State) (u : AlarmUnitId) : List Byte :=
  bFlags [u.ids.any (fun a => a.isMajor && s.alarm.lit a), u.ids.any (fun a => !a.isMajor && s.alarm.lit a)]

/-- ACK_ALARMS (R170). With unit ALL the reply has one byte per unit in the order P1 to P8, I1 to I4, DEVICE: R170 and R183 give none,
and the model takes the order in which R174 has QUERY_ALARMS report the units (DESIGN CHOICE, unsafe, assumption 37). -/
def cmdAckAlarms (unit : Byte) (kinds : BitVec 32) (s : State) : Answer :=
  match alarmTargets unit kinds with
  | none => s.answer .badField
  | some targets =>
    let s1 := s.ackLatches targets
    ⟨s1, .accepted, ((unitsOf unit).getD []).flatMap s1.unitLeft⟩

/-- The presence byte of a CHANGE notice (R186). -/
def ChangeNotice.presence (n : ChangeNotice) : List Byte :=
  bFlags [n.e.isSome, n.planned.isSome, n.cutMade.isSome, n.startField.isSome]

/-- The bytes of a notice (R186). -/
def Notice.bytes : Notice → List Byte
  | .alarm a field frame =>
    b1 1 ++ b1 a.unitCode ++ b1 a.kindCode ++ b1 (if a.isMajor then 1 else 0) ++ bField field ++ bFrameOpt frame
  | .cue n =>
    b1 2 ++ b1 (projNo n.projector) ++ b2 n.cue ++ b1 n.kind.code ++ b3 n.pos ++ b1 n.outcome.code
      ++ [BitVec.ofInt 8 n.value] ++ bField n.field ++ s3 n.frame
  | .change n =>
    b1 3 ++ b1 n.index.val ++ b2 n.cue ++ b1 (projNo n.a) ++ b1 (projNo n.b) ++ b3 n.p ++ b3 n.q ++ b1 n.method.code
      ++ b1 n.result.code ++ n.presence ++ s4 (n.e.getD 0) ++ bFieldOpt n.planned ++ bFieldOpt n.cutMade ++ b1 n.deferrals
      ++ n.flags.byte ++ bFieldOpt n.startField ++ bField n.ended
  | .position n =>
    b1 4 ++ b1 (projNo n.projector) ++ s3 n.frame ++ b1 n.phase ++ b1 n.lock.code ++ bField n.field

/-- POLL (R185). -/
def cmdPoll (s : State) : Answer :=
  match s.line.queue with
  | [] => s.answer .accepted
  | n :: rest => ⟨s.updLine (fun l => { l with queue := rest }), .accepted, n.bytes⟩

end Sys2Proof.Machine
end

