-- ==== Sys2Proof/Machine/Queries.lean ====
section
/-! DEFINITION. The query commands and the layouts of their replies: QUERY_CUES (R115), QUERY_CHANGES (R145, R187),
QUERY_PROJECTOR (R43, R62, R187), QUERY_ISLAND (R89, R187), QUERY_DEVICE (R188), QUERY_ALARMS (R174, R187). -/

namespace Sys2Proof.Machine

/-- QUERY_CUES (R115). -/
def cmdQueryCues (projector start : Byte) (s : State) : Answer :=
  match projOf projector with
  | none => s.answer .badField
  | some p =>
    let list := s.cues.lists[p]
    let es := (list.drop start.toNat).take 4
    ⟨s, .accepted, b2 list.length ++ b1 es.length ++ es.flatMap CueEntry.bytes⟩

/-! ### QUERY_CHANGES -/

/-- The presence byte of a record (R187). -/
def Record.presence (rec : Record) : List Byte :=
  bFlags [rec.startField.isSome, rec.e.isSome, rec.planned.isSome, rec.cutMade.isSome, rec.result.isSome]

/-- The 43 bytes of a record that is not FREE (R187). -/
def Record.bytes (rec : Record) : List Byte :=
  b2 rec.cue ++ b1 (projNo rec.a) ++ b1 (projNo rec.b) ++ b3 rec.p ++ b3 rec.q ++ b1 rec.tolerance
    ++ b1 (rec.policy.code + 16 * rec.priority.val) ++ b1 rec.margin ++ b2 (tailOutWord rec.tailOut) ++ b1 rec.method.code
    ++ b2 rec.uUsed ++ b1 rec.dUsed ++ b1 rec.stepP.code ++ b3 rec.lead ++ rec.presence ++ bFieldOpt rec.startField
    ++ s4 (rec.e.getD 0) ++ bFieldOpt rec.planned ++ bFieldOpt rec.cutMade ++ b1 rec.deferrals ++ rec.flags.byte
    ++ b1 (rec.result.elim 0 Result.code)

/-- QUERY_CHANGES (R145, R187). -/
def cmdQueryChanges (s : State) : Answer :=
  ⟨s, .accepted, b2 s.eng.horizon ++ allRec.flatMap (fun r =>
    match s.eng.records[r] with
    | none => b1 0
    | some rec => b1 rec.state.code ++ rec.bytes)⟩

/-! ### QUERY_PROJECTOR -/

/-- Bytes of samples with the oldest in bit 7 (R187, signature pattern). R187 does not say what the bits beyond the samples read: they
are sent as 0 (DESIGN CHOICE, unsafe, assumption 38). -/
def samplesHigh (xs : List Bool) : List Byte := bFlags ((List.replicate (8 - xs.length) false) ++ xs.reverse)

/-- Bytes of samples with the newest in bit 0 (R187, samples held). The bits beyond the samples held are sent as 0, which R187 leaves
open (DESIGN CHOICE, unsafe, assumption 38). -/
def samplesLow (xs : List Bool) : List Byte := bFlags xs.reverse

/-- The record role of a projector: 0 none, 0x10 + index as outgoing, 0x20 + index as incoming (R187). -/
def State.role (s : State) (p : Proj) : Nat :=
  match s.asOutgoing p with
  | some r => 16 + r.val
  | none =>
    match s.asIncoming p with
    | some r => 32 + r.val
    | none => 0

/-- A timer's count, 0xFFFF when idle (R187). -/
def timerWord (t : Option Timer) : List Byte := b2 (t.elim 65535 Timer.count)

/-- The run-up history in the reply: the pairs held, then eight pairs, unused ones 0 (R187). -/
def historyBytes (h : List (Nat × Nat)) : List Byte :=
  b1 h.length ++ (h ++ List.replicate (8 - h.length) ((0, 0) : Nat × Nat)).flatMap (fun (x : Nat × Nat) => b2 x.1 ++ b1 x.2)

/-- The channel's part of the projector status (R43, R187). -/
def State.channelStatus (s : State) (p : Proj) : List Byte :=
  let c := s.ch[p]
  let t := s.tr[p]
  let pins := s.pins.proj[p]
  b1 c.state.code ++ b1 c.cause.code ++ b1 c.mode.code
    ++ bFlags [c.motor, c.lamp, c.douse, c.inchF, c.inchR]
    ++ bFlags [pins.lampok, pins.loop, pins.tail, c.isStill, s.det[p].latch]
    ++ timerWord c.strike ++ timerWord c.runup
    ++ bFlags [c.record.isSome, t.pos.isSome, t.pendingLock.isSome, t.quiet.isSome]
    ++ bFieldOpt (c.record.map RunRecord.startField) ++ s3 (c.record.elim 0 RunRecord.startFrame)
    ++ b1 c.config.gauge.code ++ b2 c.config.strikeFields ++ b2 c.config.runupLimit ++ b1 c.config.stillness
    ++ b2 c.config.progU ++ b1 c.config.progD ++ b1 c.config.adaptDepth
    ++ b1 t.w ++ b1 t.k ++ b1 t.m ++ b2 c.uEff ++ b1 c.dEff ++ historyBytes c.history ++ b1 (s.role p)

/-- The tracker's part of the projector status (R62, R187). The feet are rounded down and the frames are the remainder, 0 or
more (Conventions, Frame counts). -/
def State.trackerStatus (s : State) (p : Proj) : List Byte :=
  let t := s.tr[p]
  let perFoot := s.ch[p].config.gauge.framesPerFoot
  let q := t.pos.getD ⟨0, 0, .even⟩
  let quiet := t.quiet.getD (0, 0)
  s3 t.frame ++ s3 (t.frame / perFoot) ++ b1 (t.frame % perFoot).toNat ++ b1 t.phase ++ b1 t.lock.code
    ++ s3 q.f ++ b1 q.i ++ b1 q.c.code ++ bFieldOpt t.edgeDue
    ++ b1 t.run ++ bFieldOpt (t.pendingLock.map PendingLock.declare) ++ b1 t.out
    ++ b2 t.slips ++ b2 t.perfDefects ++ b2 t.strayMarks ++ b2 t.corrections ++ s3 quiet.1 ++ s3 quiet.2 ++ b2 t.period

/-- The detector's and the cue store's part of the projector status (R66, R106, R187). -/
def State.cueStatus (s : State) (p : Proj) : List Byte :=
  let d := s.det[p]
  b1 d.sigLen ++ samplesHigh d.sigPat ++ b1 d.history.length ++ samplesLow d.history
    ++ b2 s.cues.lists[p].length ++ b2 (s.ahead p) ++ b1 s.cues.low[p]

/-- The projector status (R187), 108 bytes. R78 says that QUERY_PROJECTOR reads the routing map, but R43 and the layout of R187 give
its reply no item of the map: the layout is followed (DESIGN CHOICE, safe, assumption 31). -/
def State.projectorStatus (s : State) (p : Proj) : List Byte :=
  s.channelStatus p ++ s.trackerStatus p ++ s.cueStatus p

/-- The four counters of a tracker set to 0 (R62). -/
def Tracker.clearCounters (t : Tracker) : Tracker :=
  { t with slips := 0, perfDefects := 0, strayMarks := 0, corrections := 0 }

/-- QUERY_PROJECTOR (R43, R62): the reply carries the counters as held, and a set clear flag then clears them. -/
def cmdQueryProjector (projector clearFlag : Byte) (s : State) : Answer :=
  match projOf projector, clearFlagOf clearFlag with
  | some p, some c =>
    ⟨if c then s.updTr p Tracker.clearCounters else s, .accepted, s.projectorStatus p⟩
  | _, _ => s.answer .badField

/-! ### QUERY_ISLAND -/

/-- A place of the routing map: island × 16 + port, 0 for unassigned (R187). -/
def placeByte (x : Option (Isl × Port)) : List Byte := b1 (x.elim 0 (fun q => islNo q.1 * 16 + q.2.val))

/-- The island status (R89, R187), 26 bytes. Before the first boundary no tally has been read (R77): it is sent as 0
(DESIGN CHOICE, unsafe, assumption 32). -/
def State.islandStatus (s : State) (i : Isl) : List Byte :=
  let u := s.isl[i]
  b1 u.source.val ++ b1 u.travel ++ b1 u.commanded.val
    ++ bFlags [u.pending.isSome, u.claim.isSome, u.reading.isSome]
    ++ b1 (u.pending.elim 0 (fun c => c.port.val)) ++ bFieldOpt (u.pending.map MirrorCmd.deadline)
    ++ b1 (u.reading.elim 0 Fin.val) ++ b1 (u.settled.elim 3 Fin.val) ++ bFlags [u.mismatch]
    ++ b1 (u.claim.elim 0 Fin.val) ++ bFlags [u.tally.getD false]
    ++ b1 (projNoOpt (s.projAt i 0)) ++ b1 (projNoOpt (s.projAt i 1)) ++ b1 (projNoOpt (s.projAt i 2))
    ++ b1 (projNoOpt (s.onAirAt i)) ++ allProj.flatMap (fun p => placeByte s.route[p])

/-- QUERY_ISLAND (R89). -/
def cmdQueryIsland (island : Byte) (s : State) : Answer :=
  match islOf island with
  | none => s.answer .badField
  | some i => ⟨s, .accepted, s.islandStatus i⟩

/-! ### QUERY_DEVICE -/

/-- A changeover slot (R188), 11 bytes. -/
def slotBytes (x : Option ChangeReq) : List Byte :=
  match x with
  | none => List.replicate 11 0
  | some q => b1 q.source.val ++ b1 q.priority.val ++ bField q.posted ++ bField q.due ++ b1 q.deferrals

/-- The take port's part of the device status (R188). -/
def TakePort.status (t : TakePort) : List Byte :=
  let last := t.last.getD ⟨0, 0, .record 0⟩
  b1 t.safety.val ++ b1 t.protectSet.toNat ++ b1 t.tsrc.val
    ++ bFlags ([t.last.isSome, t.window.isSome] ++ allRec.map (fun r => (t.slots[r]).isSome)
        ++ [t.protective.isSome, t.host.isSome])
    ++ bField last.field ++ b1 last.source.val ++ b1 (t.last.elim 0 (fun l => l.origin.code))
    ++ b1 (t.window.elim 0 (fun w => w.target.elim 0 islNo))
    ++ bFlags (allIsl.map (fun i => t.window.any (fun w => w.previous[i])))
    ++ bFieldOpt (t.window.map Window.take)
    ++ allRec.flatMap (fun r => slotBytes t.slots[r])
    ++ (match t.protective with
        | none => List.replicate 10 0
        | some q => b1 q.source.val ++ b1 (projNoOpt q.target) ++ bField q.posted ++ bField q.due)
    ++ (match t.host with
        | none => List.replicate 9 0
        | some q => b1 q.source.val ++ bField q.posted ++ bField q.due)

/-- The device status (R188), 101 bytes. -/
def State.deviceStatus (s : State) : List Byte :=
  b1 s.tb.standard.code ++ b1 s.tb.state.code ++ b1 s.tb.runCount ++ bField s.tb.field
    ++ bFlags [s.syncFlag, s.estop, s.take.strobe]
    ++ b1 s.line.own.toNat ++ b1 s.line.rate.toNat ++ b1 s.line.mask.toNat
    ++ b2 s.line.taken ++ b2 s.line.faults ++ b2 s.line.overruns ++ b2 s.line.discarded
    ++ b1 s.line.queue.length ++ b2 s.cues.free ++ s.take.status

/-- The four line counters set to 0 (R176, R188). -/
def Line.clearCounters (l : Line) : Line := { l with taken := 0, faults := 0, overruns := 0, discarded := 0 }

/-- QUERY_DEVICE (R188). -/
def cmdQueryDevice (clearFlag : Byte) (s : State) : Answer :=
  match clearFlagOf clearFlag with
  | none => s.answer .badField
  | some c => ⟨if c then s.updLine Line.clearCounters else s, .accepted, s.deviceStatus⟩

/-! ### QUERY_ALARMS -/

/-- The summary of a unit (R174). -/
def State.unitSummary (s : State) (u : AlarmUnitId) : List Byte :=
  bFlags [u.ids.any (fun a => a.isMajor && s.alarm.lit a), u.ids.any (fun a => !a.isMajor && s.alarm.lit a),
    u.ids.any (fun a => (s.alarm.get a).set)]

/-- The condition flags of a unit (R173, R174). -/
def State.unitFlags (s : State) : AlarmUnitId → List Byte
  | .proj p => bFlags [s.alarm.flags[p].lampok, s.alarm.flags[p].loop, s.alarm.flags[p].tail]
  | .isl i => bFlags [s.mismatchFlag i, s.tallyFlag i]
  | .device => bFlags [s.syncFlag, s.estopFlag]

/-- The alarm status (R174, R187). -/
def State.alarmStatus (s : State) (u : AlarmUnitId) : List Byte :=
  bFlags [s.alarm.major, s.alarm.minor] ++ allUnits.flatMap s.unitSummary
    ++ u.ids.flatMap (fun a => bFlags [(s.alarm.get a).set, (s.alarm.get a).enabled] ++ b1 (s.alarm.get a).count)
    ++ s.unitFlags u

/-- QUERY_ALARMS (R174). -/
def cmdQueryAlarms (unit : Byte) (s : State) : Answer :=
  match unitOf unit with
  | none => s.answer .badField
  | some u => ⟨s, .accepted, s.alarmStatus u⟩

end Sys2Proof.Machine
end

