-- ==== Sys2Proof/Machine/Timebase.lean ====
section
/-! DEFINITION. The timebase's events (R2 to R8) and the station inputs RESET and ESTOP (R8, R34, R35, R176), with the
meanings of their rows. -/

namespace Sys2Proof.Machine

/-- An event that the part takes: none while the RESET input is asserted (R164, R175, R176), but for the ESTOP line, which acts on the
outputs at all times (R33). -/
def State.event (s : State) (f : State → State) : Host.Outcome State Fault Refusal :=
  .next (if s.resetHeld then s else f s)

/-! ### FLD_PULSE (R2, R4 to R7) -/

/-- The run count after a pulse in ACQUIRE or LOST (R2). -/
def Timebase.runAfter (t : Timebase) (now : Nat) : Nat :=
  match t.lastPulse with
  | none => 1
  | some l => if t.standard.goodSpacing (now - l) then min 16 (t.runCount + 1) else 1

/-- Whether the completing pulse is merged with the most recent internal boundary: less than half a nominal period has
passed since it (R5). -/
def Timebase.merges (t : Timebase) (now : Nat) : Bool :=
  t.lastTick.any (fun l => decide (2 * (now - l) < t.standard.period))

/-- The completing pulse brings the timebase into SYNC: the tick stops, SYNC_RESTORED is passed on a change from LOST, and
the pulse is merged or is a boundary (R4, R5, R7). The event carries the number of the field that begins (DESIGN CHOICE, unsafe,
assumption 21). -/
def State.enterSync (s : State) (o : BoundaryOrder) : State :=
  let restored := s.tb.state = .lost
  let merged := s.tb.merges s.now
  let s1 := s.updTb (fun t => { t with state := .sync, runCount := 16, tick := none, lastPulse := some s.now })
  if merged then s1.passIf restored (.dev .syncRestored)
  else ((s1.beginField true).passIf restored (.dev .syncRestored)).react o

/-- A station field pulse (R2, R6): a boundary in SYNC, a step of the run count otherwise. -/
def State.pulse (s : State) (o : BoundaryOrder) : State :=
  if s.tb.state = .sync then (s.updTb (fun t => { t with lastPulse := some s.now })).boundary true o
  else
    let run := s.tb.runAfter s.now
    if run = 16 then s.enterSync o
    else s.updTb (fun t => { t with runCount := run, lastPulse := some s.now })

/-- FLD_PULSE (R2). -/
def execFldPulse (m : Moment) (o : BoundaryOrder) (s : State) : Host.Outcome State Fault Refusal :=
  s.event (fun s => (s.arrive m).pulse o)

/-! ### INTERNAL_TICK (R3) -/

/-- The internal tick's boundary at the time at which it is due (R3). It is made while the tick runs, in ACQUIRE and LOST, at the
time that R3 gives or at once when that has passed (DESIGN CHOICE, safe, assumption 6). -/
def State.internalBoundary (s : State) (pins : Pins) (o : BoundaryOrder) : State :=
  match s.tb.tick with
  | none => s
  | some t =>
    let s1 := s.arriveAt t pins
    (s1.updTb (fun b => { b with tick := some (s1.now + b.standard.period), lastTick := some s1.now })).boundary false o

/-- INTERNAL_TICK (R3). -/
def execInternalTick (pins : Pins) (o : BoundaryOrder) (s : State) : Host.Outcome State Fault Refusal :=
  s.event (fun s => s.internalBoundary pins o)

/-! ### SYNC_LOST (R6) -/

/-- Three nominal periods with no pulse in SYNC: LOST, the tick restarted with a boundary, SYNC_LOST latched (R3, R6). -/
def State.loseSync (s : State) (pins : Pins) (o : BoundaryOrder) : State :=
  if s.tb.state = .sync then
    let due := s.tb.lastPulse.elim s.now (fun l => l + 3 * s.tb.standard.period)
    let s1 := s.arriveAt due pins
    let s2 := s1.updTb (fun b =>
      { b with state := .lost, runCount := 0, tick := some (s1.now + b.standard.period), lastTick := some s1.now })
    ((s2.beginField false).pass (.dev .syncLost)).react o
  else s

/-- SYNC_LOST (R6). -/
def execSyncLost (pins : Pins) (o : BoundaryOrder) (s : State) : Host.Outcome State Fault Refusal :=
  s.event (fun s => s.loseSync pins o)

/-! ### RESET and ESTOP -/

/-- RESET (R8, R34, R176): release of the input sets every block to its power-on values with the straps as they read; an
ESTOP line already asserted is taken as an assertion at that moment. The queue of commands is the sender's and is kept
(DESIGN CHOICE, safe, assumption 23). -/
def execReset (straps : Straps) (pins : Pins) (s : State) : Host.Outcome State Fault Refusal :=
  let s0 := { State.powerOn straps.addr straps.rate pins with pending := s.pending }
  let s1 := s0.readPins pins
  .next (if straps.estop then s1.assertEstop else s1)

/-- What the assertion of RESET brings about: the lines drop, the receiver stops and the return pair is released (R164,
R176). With the ESTOP line not asserted the outputs of the channels keep their levels until the release, and so do the MCMD, TSRC and
TAKE lines with or without it (R77, R105; DESIGN CHOICE, unsafe, assumption 35). -/
def State.holdReset (s : State) : State :=
  { s with
    resetHeld := true
    due := []
    alarm := { s.alarm with major := false, minor := false }
    line := { s.line with rx := .idle, buffer := [], reply := none }
    tb := { s.tb with tick := none } }

/-- RESET_ASSERTED (R176). -/
def execResetAsserted (m : Moment) (s : State) : Host.Outcome State Fault Refusal :=
  s.event (fun s => (s.arrive m).holdReset)

/-- ESTOP_ASSERTED (R33, R34). A line that is asserted already is not asserted again (DESIGN CHOICE, safe, assumption 23). While RESET
is asserted the line acts at once on every block but the alarm unit and the line controller (R33, R164, R175). -/
def execEstopAsserted (m : Moment) (s : State) : Host.Outcome State Fault Refusal :=
  if s.resetHeld then .next (if s.estop then s else s.assertEstopInReset)
  else s.event (fun s => let s1 := s.arrive m; if s1.estop then s1 else s1.assertEstop)

/-- ESTOP_RELEASED (R35). While RESET is asserted the release latches nothing (R164, R175) and the channels stay in FAULT. -/
def execEstopReleased (m : Moment) (s : State) : Host.Outcome State Fault Refusal :=
  if s.resetHeld then .next { s with estop := false }
  else s.event (fun s => let s1 := s.arrive m; if s1.estop then { s1 with estop := false }.pass (.dev .estopReleased) else s1)

/-! ### Projector inputs -/

/-- PERF_PULSE (R46). -/
def execPerfPulse (m : Moment) (p : Proj) (s : State) : Host.Outcome State Fault Refusal :=
  s.event (fun s => (s.arrive m).perforation p m.pins.proj[p].forward)

/-- SHUTTER_EDGE (R48). An edge that comes with a boundary already made comes after the lock, the slip correction and the missing
edge of that boundary (R54, R57, R58). -/
def execShutterEdge (m : Moment) (p : Proj) (s : State) : Host.Outcome State Fault Refusal :=
  s.event (fun s => ((s.arrive m).takeDues (trackerSteps p)).edge p)

/-- CUE_INPUT_ASSERTED (R67). -/
def execCueInputAsserted (m : Moment) (p : Proj) (s : State) : Host.Outcome State Fault Refusal :=
  s.event (fun s =>
    let s1 := s.arrive m
    { s1 with pins := { s1.pins with proj := s1.pins.proj.set p { s1.pins.proj[p] with cue := true } } }.updDet p
      (fun d => { d with latch := true }))

/-! ### Steps that belong to a boundary -/

/-- STRIKE_END (R22). -/
def execStrikeEnd (p : Proj) (s : State) : Host.Outcome State Fault Refusal := s.event (fun s => s.takeDue (.strikeEnd p))

/-- LAMP_FAIL (R24). -/
def execLampFail (p : Proj) (s : State) : Host.Outcome State Fault Refusal := s.event (fun s => s.takeDue (.lampFail p))

/-- RUNUP_TIMEOUT (R28). -/
def execRunupTimeout (p : Proj) (s : State) : Host.Outcome State Fault Refusal :=
  s.event (fun s => s.takeDue (.runupTimeout p))

/-- COAST_END (R29). -/
def execCoastEnd (p : Proj) (s : State) : Host.Outcome State Fault Refusal := s.event (fun s => s.takeDue (.coastEnd p))

/-- LOCK_DECLARED (R54). -/
def execLockDeclared (p : Proj) (s : State) : Host.Outcome State Fault Refusal :=
  s.event (fun s => s.takeDue (.lockDeclared p))

/-- SLIP_CORRECTION (R57). -/
def execSlipCorrection (p : Proj) (s : State) : Host.Outcome State Fault Refusal :=
  s.event (fun s => s.takeDue (.slipCorrection p))

/-- MISSING_EDGE (R58). -/
def execMissingEdge (p : Proj) (s : State) : Host.Outcome State Fault Refusal :=
  s.event (fun s => s.takeDue (.missingEdge p))

/-- MIRROR_COMPLETE (R83). -/
def execMirrorComplete (i : Isl) (s : State) : Host.Outcome State Fault Refusal :=
  s.event (fun s => s.takeDue (.mirrorComplete i))

/-- MIRROR_DEADLINE (R84). -/
def execMirrorDeadline (i : Isl) (s : State) : Host.Outcome State Fault Refusal :=
  s.event (fun s => s.takeDue (.mirrorDeadline i))

/-- TAKE_GRANT (R93). -/
def execTakeGrant (s : State) : Host.Outcome State Fault Refusal := s.event (fun s => s.takeDue .takeGrant)

/-- TAKE_STROBE_DROP (R93). -/
def execTakeStrobeDrop (s : State) : Host.Outcome State Fault Refusal := s.event (fun s => s.takeDue .strobeDrop)

/-- TAKE_WINDOW_JUDGED (R97). -/
def execTakeWindowJudged (s : State) : Host.Outcome State Fault Refusal := s.event (fun s => s.takeDue .windowJudged)

/-- CHANGEOVER_START (R137). -/
def execChangeoverStart (r : Rec) (s : State) : Host.Outcome State Fault Refusal :=
  s.event (fun s => s.takeDue (.changeoverStart r))

/-- LOCK_DECISION (R146). -/
def execLockDecision (r : Rec) (s : State) : Host.Outcome State Fault Refusal :=
  s.event (fun s => s.takeDue (.lockDecision r))

/-- SWITCH_CUT_POST (R152). -/
def execSwitchCutPost (r : Rec) (s : State) : Host.Outcome State Fault Refusal :=
  s.event (fun s => s.takeDue (.switchCut r))

/-- MIRROR_CUT (R154). -/
def execMirrorCut (r : Rec) (s : State) : Host.Outcome State Fault Refusal := s.event (fun s => s.takeDue (.mirrorCut r))

end Sys2Proof.Machine
end

