-- ==== Sys2Proof/Machine/Line.lean ====
section
/-! DEFINITION. The line controller: taking commands and their replies (R180 to R182), the message catalogue (R183), the
receiver (R177 to R179), and the meanings of the line's events. -/

namespace Sys2Proof.Machine

/-! ### Replies (R181, R183) -/

/-- The bytes of a reply frame (R183). The code byte of the refusal of an unknown code of 0x80 to 0xFF, whose sum with 0x80 is no byte,
is the sum modulo 256 (DESIGN CHOICE, unsafe, assumption 36). -/
def replyBytes (own : BitVec 6) (code : Byte) (st : Status) (body : List Byte) : List Byte :=
  [0x01, BitVec.ofNat 8 own.toNat, BitVec.ofNat 8 (body.length + 2), code + 0x80, st.code] ++ body

/-- The bits of a reply character as sent: start bit, data least significant first, odd parity, stop bit (R177). -/
def charBits (b : Byte) : List Bool :=
  let data := [0, 1, 2, 3, 4, 5, 6, 7].map (fun k => b.getLsbD k)
  [false] ++ data ++ [decide (data.count true % 2 = 0)] ++ [true]

/-- Whether a received character has a parity error: its ones are not odd in number, or its stop bit reads low (R177). -/
def charBad (c : LineChar) : Bool :=
  let ones := ([0, 1, 2, 3, 4, 5, 6, 7].map (fun k => c.data.getLsbD k)).count true + (if c.parity then 1 else 0)
  decide (ones % 2 = 0) || !c.stop

/-- One character time of the line (R177). -/
def Line.char (l : Line) : Nat := charTime l.rate

/-- The time by which a pending reply has ended at the latest: begun no later than four character times after its frame, its
characters back to back (R181). -/
def Line.replyEnd (l : Line) (r : Reply) : Nat :=
  r.started.getD (r.frameEnd + 4 * l.char) + r.bytes.length * l.char

/-- A reply whose latest end has passed is over: its flag is clear (R181; DESIGN CHOICE, safe, assumption 12). -/
def State.expireReply (s : State) : State :=
  if s.line.reply.any (fun r => decide (s.line.replyEnd r < s.now)) then s.updLine (fun l => { l with reply := none }) else s

/-- Whether the reply pending flag is set when an event of this moment finds it (R181). -/
def State.replyPending (s : State) : Bool := s.expireReply.line.reply.isSome

/-- An individual frame that completes while a reply is pending (R181). -/
def State.overrun (s : State) : State :=
  (s.updLine (fun l => { l with overruns := satInc Config.countMax l.overruns })).pass (.dev .lineOverrun)

/-- Count a frame that is taken, before its command is carried out (R176). -/
def State.countTaken (s : State) : State := s.updLine (fun l => { l with taken := satInc Config.countMax l.taken })

/-- Put the reply of a taken individual frame (R181). -/
def State.putReply (s : State) (code : Byte) (st : Status) (body : List Byte) : State :=
  s.updLine (fun l => { l with reply := some ⟨replyBytes l.own code st body, s.now, none⟩ })

/-- An individual frame completes: it is an overrun while a reply is pending (R181), and otherwise it is taken, its command
carried out and its reply made (R180). -/
def State.takeIndividual (s : State) (code : Byte) (cmd : State → Answer) : State :=
  let s0 := s.expireReply
  if s0.line.reply.isSome then s0.overrun
  else
    let a := cmd s0.countTaken
    a.state.putReply code a.status a.body

/-- A group frame with one of the five codes is taken: its command is carried out without a reply (R182). -/
def State.takeGroup (s : State) (cmd : State → Answer) : State := (cmd s.countTaken).state

/-- A command that arrives by either kind of frame. -/
def State.takeVia (s : State) (via : Via) (code : Byte) (cmd : State → Answer) : State :=
  match via with
  | .individual => s.takeIndividual code cmd
  | .group => s.takeGroup cmd

/-- The meaning of a row that is a message: its frame completes at a moment (DESIGN CHOICE, safe, assumption 12). -/
def State.message (s : State) (m : Moment) (via : Via) (code : Byte) (cmd : State → Answer) :
    Host.Outcome State Fault Refusal :=
  s.event (fun s => (s.arrive m).takeVia via code cmd)

/-! ### The message catalogue (R183) -/

/-- The command that a code and a body spell: BAD_CODE for a code outside the catalogue, BAD_LENGTH for a body of another
length than the catalogue gives (R180, R183). -/
def catalogue (code : Byte) (body : List Byte) : Except Status (State → Answer) :=
  match code.toNat, body with
  | 0x10, [a] => .ok (cmdSetStandard a)
  | 0x11, [a, b, c] => .ok (cmdSetRoute a b c)
  | 0x12, [a, b, c] => .ok (cmdSetIsland a b c)
  | 0x13, [p, g, s1, s0, r1, r0, st, u1, u0, d1, d0, ad, w, k, m] =>
    .ok (cmdSetProjector ⟨p, g, w16 s1 s0, w16 r1 r0, st, w16 u1 u0, w16 d1 d0, ad, w, k, m⟩)
  | 0x14, [a, b, c] => .ok (cmdSetSignature a b c)
  | 0x15, [a, b] => .ok (cmdSetSafety a b)
  | 0x16, [h, l] => .ok (cmdSetHorizon (w16 h l))
  | 0x17, [u, k3, k2, k1, k0, x] => .ok (cmdSetMask u (w32 k3 k2 k1 k0) x)
  | 0x18, [p, h, l] => .ok (cmdSetReport p (w16 h l))
  | 0x19, [a] => .ok (cmdSetGroup a)
  | 0x20, [a, b] => .ok (cmdLamp a b)
  | 0x21, [a] => .ok (cmdStart a)
  | 0x22, [a] => .ok (cmdStop a)
  | 0x23, [a, b] => .ok (cmdInch a b)
  | 0x24, [a] => .ok (cmdClear a)
  | 0x25, [a, b] => .ok (cmdSetMode a b)
  | 0x26, [p, f2, f1, f0] => .ok (cmdPreset p (w24 f2 f1 f0))
  | 0x30, h :: w :: rest => .ok (cmdLoadCues h w rest)
  | 0x31, [h, l] => .ok (cmdDeleteCue (w16 h l))
  | 0x32, [a] => .ok (cmdClearCues a)
  | 0x33, [a, b] => .ok (cmdQueryCues a b)
  | 0x40, [h, l] => .ok (cmdAbortChange (w16 h l))
  | 0x41, [] => .ok cmdQueryChanges
  | 0x50, [a] => .ok (cmdTake a)
  | 0x51, [a, b] => .ok (cmdMirror a b)
  | 0x60, [a, b] => .ok (cmdQueryProjector a b)
  | 0x61, [a] => .ok (cmdQueryIsland a)
  | 0x62, [a] => .ok (cmdQueryDevice a)
  | 0x63, [a] => .ok (cmdQueryAlarms a)
  | 0x64, [u, k3, k2, k1, k0] => .ok (cmdAckAlarms u (w32 k3 k2 k1 k0))
  | 0x65, [] => .ok cmdPoll
  | 0x66, [] => .ok cmdRestart
  | c, _ =>
    if c ∈ [0x10, 0x11, 0x12, 0x13, 0x14, 0x15, 0x16, 0x17, 0x18, 0x19, 0x20, 0x21, 0x22, 0x23, 0x24, 0x25, 0x26, 0x30,
        0x31, 0x32, 0x33, 0x40, 0x41, 0x50, 0x51, 0x60, 0x61, 0x62, 0x63, 0x64, 0x65, 0x66] then .error .badLength
    else .error .badCode

/-- The codes that a group frame may carry: LAMP, START, STOP, SET_MODE, RESTART (R182). -/
def groupCode (code : Byte) : Bool := decide (code.toNat ∈ [0x20, 0x21, 0x22, 0x25, 0x66])

/-- A frame fault or a dropped group frame is counted and passes LINE_ERROR (R179, R182). -/
def State.lineFault (s : State) : State :=
  (s.updLine (fun l => { l with faults := satInc Config.countMax l.faults })).pass (.dev .lineError)

/-- A frame for the part completes (R180, R182). -/
def State.frameComplete (s : State) (via : Via) (code : Byte) (body : List Byte) : State :=
  match via with
  | .individual =>
    s.takeIndividual code (fun s =>
      match catalogue code body with
      | .ok cmd => cmd s
      | .error st => s.answer st)
  | .group =>
    if groupCode code then
      match catalogue code body with
      | .ok cmd => s.takeGroup cmd
      | .error _ => s.lineFault
    else s.lineFault

/-! ### The receiver (R178, R179) -/

/-- How a frame is addressed, absent for a foreign one (R178). -/
def Line.addressed (l : Line) (addr : Byte) : Option Via :=
  let own : Byte := BitVec.ofNat 8 l.own.toNat
  let mask : Byte := BitVec.ofNat 8 l.mask.toNat
  if addr = own then some .individual
  else if l.mask ≠ 0 ∧ (addr ^^^ own) &&& ~~~mask = 0 then some .group
  else none

/-- Put the receiver into a state with an empty buffer. -/
def State.setRx (s : State) (rx : RxState) : State := s.updLine (fun l => { l with rx := rx, buffer := [] })

/-- A frame fault (R179): the buffer is emptied, the fault counted and passed; the receiver goes where the fault says. -/
def State.frameFault (s : State) (rx : RxState) : State := (s.setRx rx).lineFault

/-- A silence of more than three character times (R178, R179). -/
def State.silence (s : State) : State :=
  match s.line.rx with
  | .idle => s
  | .receive _ => s.frameFault .idle
  | .foreign _ => s.setRx .idle
  | .discard => s.setRx .idle

/-- Whether the silence before a character that ends now was longer than three character times (R179): the character itself
takes a fourth (DEDUCED, unsafe, assumption 13). -/
def State.gapBefore (s : State) : Bool := decide (s.line.lastByte + 4 * s.line.char < s.now)

/-- A byte read in RECEIVE after the address byte: the length byte, then the bytes of the frame (R178). -/
def State.receiveByte (s : State) (via : Via) (b : Byte) : State :=
  match s.line.buffer with
  | [_] =>
    if 1 ≤ b.toNat ∧ b.toNat ≤ 64 then s.updLine (fun l => { l with buffer := l.buffer ++ [b] }) else s.frameFault .discard
  | _ :: n :: rest =>
    let got := rest ++ [b]
    if got.length = n.toNat then
      match got with
      | code :: body => (s.setRx .idle).frameComplete via code body
      | [] => s.setRx .idle
    else s.updLine (fun l => { l with buffer := l.buffer ++ [b] })
  | [] => s

/-- A character read by the receiver (R178, R179). -/
def State.readChar (s : State) (c : LineChar) : State :=
  let bad := charBad c
  let b := c.data
  match s.line.rx with
  | .idle => if b = 0x01 ∧ bad = false then s.setRx (.receive none) else s
  | .receive none =>
    if bad then s.frameFault .discard
    else
      match s.line.addressed b with
      | some via => s.updLine (fun l => { l with rx := .receive (some via), buffer := [b] })
      | none => s.setRx (.foreign none)
  | .receive (some via) => if bad then s.frameFault .discard else s.receiveByte via b
  | .foreign none =>
    if bad = false ∧ 1 ≤ b.toNat ∧ b.toNat ≤ 64 then s.setRx (.foreign (some b.toNat)) else s.setRx .discard
  | .foreign (some k) => if k ≤ 1 then s.setRx .idle else s.setRx (.foreign (some (k - 1)))
  | .discard => s

/-- A character ends: a gap before it is taken first when no LINE_SILENCE_TIMEOUT was (R179), and the silence is timed
afresh from it. -/
def State.takeChar (s : State) (c : LineChar) : State :=
  let s1 := if s.gapBefore then s.silence else s
  (s1.updLine (fun l => { l with lastByte := s1.now })).readChar c

/-- LINE_BYTE (R178). -/
def execLineByte (m : Moment) (c : LineChar) (s : State) : Host.Outcome State Fault Refusal :=
  s.event (fun s => (s.arrive m).takeChar c)

/-- LINE_SILENCE_TIMEOUT (R179), at the moment at which the silence has lasted three character times. -/
def execLineSilenceTimeout (s : State) : Host.Outcome State Fault Refusal :=
  s.event (fun s => if s.line.rx = .idle then s else (s.passTo (s.line.lastByte + 3 * s.line.char)).silence)

/-! ### The reply's beginning and end (R181) -/

/-- The part begins its reply, no sooner than one and no later than four character times after the frame; a wait outside that
range is taken to its nearer end (DESIGN CHOICE, safe, assumption 12). A row that comes when that time has passed begins the reply at
the present time, and the reply is pending again if it had counted as over (DESIGN CHOICE, unsafe, assumption 30). -/
def State.beginReply (s : State) (wait : Nat) : State :=
  match s.line.reply with
  | none => s
  | some r =>
    if r.started.isSome then s
    else
      let s1 := s.passTo (r.frameEnd + clampNat s.line.char (4 * s.line.char) wait)
      s1.updLine (fun l => { l with reply := some { r with started := some s1.now } })

/-- REPLY_START (R181). -/
def execReplyStart (wait : Nat) (s : State) : Host.Outcome State Fault Refusal := s.event (fun s => s.beginReply wait)

/-- The stop bit of the last reply byte ends the reply and clears the flag. -/
def State.endReply (s : State) : State :=
  match s.line.reply with
  | none => s
  | some r =>
    match r.started with
    | none => s
    | some t => (s.passTo (t + r.bytes.length * s.line.char)).updLine (fun l => { l with reply := none })

/-- REPLY_COMPLETE (R181). -/
def execReplyComplete (s : State) : Host.Outcome State Fault Refusal := s.event State.endReply

/-- Whether the part drives its return pair (R176, R181): from the start bit of the first reply byte to the stop bit of the last, and
not while RESET is asserted. -/
def State.drivesReturn (s : State) : Bool := !s.resetHeld && s.expireReply.line.reply.any (fun r => r.started.isSome)

end Sys2Proof.Machine
end

