-- ==== Sys2Proof/Machine/Messages.lean ====
section
/-! DEFINITION. The meanings of the rows that are messages: the frame of each completes, and the command that the catalogue
names with its code (R183) is carried out and answered (R180 to R182). -/

namespace Sys2Proof.Machine

/-- SET_STANDARD (R14). -/
def execSetStandard (m : Moment) (standard : Byte) (s : State) : Host.Outcome State Fault Refusal :=
  s.message m .individual 0x10 (cmdSetStandard standard)

/-- SET_ROUTE (R79). -/
def execSetRoute (m : Moment) (projector island port : Byte) (s : State) : Host.Outcome State Fault Refusal :=
  s.message m .individual 0x11 (cmdSetRoute projector island port)

/-- SET_ISLAND (R80). -/
def execSetIsland (m : Moment) (island source travel : Byte) (s : State) : Host.Outcome State Fault Refusal :=
  s.message m .individual 0x12 (cmdSetIsland island source travel)

/-- SET_PROJECTOR (R38, R52). -/
def execSetProjector (m : Moment) (body : ProjectorBody) (s : State) : Host.Outcome State Fault Refusal :=
  s.message m .individual 0x13 (cmdSetProjector body)

/-- SET_SIGNATURE (R76). -/
def execSetSignature (m : Moment) (projector length pattern : Byte) (s : State) : Host.Outcome State Fault Refusal :=
  s.message m .individual 0x14 (cmdSetSignature projector length pattern)

/-- SET_SAFETY (R99). -/
def execSetSafety (m : Moment) (source flags : Byte) (s : State) : Host.Outcome State Fault Refusal :=
  s.message m .individual 0x15 (cmdSetSafety source flags)

/-- SET_HORIZON (R144). -/
def execSetHorizon (m : Moment) (horizon : BitVec 16) (s : State) : Host.Outcome State Fault Refusal :=
  s.message m .individual 0x16 (cmdSetHorizon horizon)

/-- SET_MASK (R172). -/
def execSetMask (m : Moment) (unit : Byte) (kinds : BitVec 32) (setting : Byte) (s : State) : Host.Outcome State Fault Refusal :=
  s.message m .individual 0x17 (cmdSetMask unit kinds setting)

/-- SET_REPORT (R64). -/
def execSetReport (m : Moment) (projector : Byte) (period : BitVec 16) (s : State) : Host.Outcome State Fault Refusal :=
  s.message m .individual 0x18 (cmdSetReport projector period)

/-- SET_GROUP (R182). -/
def execSetGroup (m : Moment) (mask : Byte) (s : State) : Host.Outcome State Fault Refusal :=
  s.message m .individual 0x19 (cmdSetGroup mask)

/-- LAMP with code 1, on (R21); a group frame may carry it (R182). -/
def execLampOn (m : Moment) (via : Via) (projector : Byte) (s : State) : Host.Outcome State Fault Refusal :=
  s.message m via 0x20 (cmdLamp projector 1)

/-- LAMP with code 0, off (R23); a group frame may carry it (R182). -/
def execLampOff (m : Moment) (via : Via) (projector : Byte) (s : State) : Host.Outcome State Fault Refusal :=
  s.message m via 0x20 (cmdLamp projector 0)

/-- START (R25); a group frame may carry it (R182). -/
def execStart (m : Moment) (via : Via) (projector : Byte) (s : State) : Host.Outcome State Fault Refusal :=
  s.message m via 0x21 (cmdStart projector)

/-- STOP (R29); a group frame may carry it (R182). -/
def execStop (m : Moment) (via : Via) (projector : Byte) (s : State) : Host.Outcome State Fault Refusal :=
  s.message m via 0x22 (cmdStop projector)

/-- INCH with code 1, forward (R30). -/
def execInchForward (m : Moment) (projector : Byte) (s : State) : Host.Outcome State Fault Refusal :=
  s.message m .individual 0x23 (cmdInch projector 1)

/-- INCH with code 2, reverse (R30). -/
def execInchReverse (m : Moment) (projector : Byte) (s : State) : Host.Outcome State Fault Refusal :=
  s.message m .individual 0x23 (cmdInch projector 2)

/-- INCH with code 0, stop (R30). -/
def execInchStop (m : Moment) (projector : Byte) (s : State) : Host.Outcome State Fault Refusal :=
  s.message m .individual 0x23 (cmdInch projector 0)

/-- CLEAR (R32). -/
def execClear (m : Moment) (projector : Byte) (s : State) : Host.Outcome State Fault Refusal :=
  s.message m .individual 0x24 (cmdClear projector)

/-- SET_MODE (R36); a group frame may carry it (R182). -/
def execSetMode (m : Moment) (via : Via) (projector mode : Byte) (s : State) : Host.Outcome State Fault Refusal :=
  s.message m via 0x25 (cmdSetMode projector mode)

/-- PRESET (R37). -/
def execPreset (m : Moment) (projector : Byte) (frame : BitVec 24) (s : State) : Host.Outcome State Fault Refusal :=
  s.message m .individual 0x26 (cmdPreset projector frame)

/-- LOAD_CUES (R111, R112). -/
def execLoadCues (m : Moment) (header watermark : Byte) (entries : List Byte) (s : State) : Host.Outcome State Fault Refusal :=
  s.message m .individual 0x30 (cmdLoadCues header watermark entries)

/-- DELETE_CUE (R113). -/
def execDeleteCue (m : Moment) (cue : BitVec 16) (s : State) : Host.Outcome State Fault Refusal :=
  s.message m .individual 0x31 (cmdDeleteCue cue)

/-- CLEAR_CUES (R114). -/
def execClearCues (m : Moment) (projector : Byte) (s : State) : Host.Outcome State Fault Refusal :=
  s.message m .individual 0x32 (cmdClearCues projector)

/-- QUERY_CUES (R115). -/
def execQueryCues (m : Moment) (projector start : Byte) (s : State) : Host.Outcome State Fault Refusal :=
  s.message m .individual 0x33 (cmdQueryCues projector start)

/-- ABORT_CHANGE (R162). -/
def execAbortChange (m : Moment) (cue : BitVec 16) (s : State) : Host.Outcome State Fault Refusal :=
  s.message m .individual 0x40 (cmdAbortChange cue)

/-- QUERY_CHANGES (R145). -/
def execQueryChanges (m : Moment) (s : State) : Host.Outcome State Fault Refusal :=
  s.message m .individual 0x41 cmdQueryChanges

/-- TAKE (R96). -/
def execTake (m : Moment) (source : Byte) (s : State) : Host.Outcome State Fault Refusal :=
  s.message m .individual 0x50 (cmdTake source)

/-- MIRROR (R87). -/
def execMirror (m : Moment) (island port : Byte) (s : State) : Host.Outcome State Fault Refusal :=
  s.message m .individual 0x51 (cmdMirror island port)

/-- QUERY_PROJECTOR (R43, R62). -/
def execQueryProjector (m : Moment) (projector clearFlag : Byte) (s : State) : Host.Outcome State Fault Refusal :=
  s.message m .individual 0x60 (cmdQueryProjector projector clearFlag)

/-- QUERY_ISLAND (R89). -/
def execQueryIsland (m : Moment) (island : Byte) (s : State) : Host.Outcome State Fault Refusal :=
  s.message m .individual 0x61 (cmdQueryIsland island)

/-- QUERY_DEVICE (R188). -/
def execQueryDevice (m : Moment) (clearFlag : Byte) (s : State) : Host.Outcome State Fault Refusal :=
  s.message m .individual 0x62 (cmdQueryDevice clearFlag)

/-- QUERY_ALARMS (R174). -/
def execQueryAlarms (m : Moment) (unit : Byte) (s : State) : Host.Outcome State Fault Refusal :=
  s.message m .individual 0x63 (cmdQueryAlarms unit)

/-- ACK_ALARMS (R170). -/
def execAckAlarms (m : Moment) (unit : Byte) (kinds : BitVec 32) (s : State) : Host.Outcome State Fault Refusal :=
  s.message m .individual 0x64 (cmdAckAlarms unit kinds)

/-- POLL (R185). -/
def execPoll (m : Moment) (s : State) : Host.Outcome State Fault Refusal :=
  s.message m .individual 0x65 cmdPoll

/-- RESTART (R189); a group frame may carry it (R182). -/
def execRestart (m : Moment) (via : Via) (s : State) : Host.Outcome State Fault Refusal :=
  s.message m via 0x66 cmdRestart

end Sys2Proof.Machine
end

