-- ==== Sys2Proof/Machine/Dispatch.lean ====
section
/-! DEFINITION. The dispatch of a command to its meaning, one arm per row of the opcode table. -/

namespace Sys2Proof.Machine

def exec (i : Instr) (s : State) : Host.Outcome State Fault Refusal :=
  match i with
  | .reset straps pins => Sys2Proof.Machine.execReset straps pins s
  | .fldPulse m o => Sys2Proof.Machine.execFldPulse m o s
  | .internalTick pins o => Sys2Proof.Machine.execInternalTick pins o s
  | .syncLost pins o => Sys2Proof.Machine.execSyncLost pins o s
  | .perfPulse m p => Sys2Proof.Machine.execPerfPulse m p s
  | .shutterEdge m p => Sys2Proof.Machine.execShutterEdge m p s
  | .cueInputAsserted m p => Sys2Proof.Machine.execCueInputAsserted m p s
  | .estopAsserted m => Sys2Proof.Machine.execEstopAsserted m s
  | .estopReleased m => Sys2Proof.Machine.execEstopReleased m s
  | .lineByte m c => Sys2Proof.Machine.execLineByte m c s
  | .lineSilenceTimeout => Sys2Proof.Machine.execLineSilenceTimeout s
  | .replyComplete => Sys2Proof.Machine.execReplyComplete s
  | .strikeEnd p => Sys2Proof.Machine.execStrikeEnd p s
  | .lampFail p => Sys2Proof.Machine.execLampFail p s
  | .runupTimeout p => Sys2Proof.Machine.execRunupTimeout p s
  | .coastEnd p => Sys2Proof.Machine.execCoastEnd p s
  | .lockDeclared p => Sys2Proof.Machine.execLockDeclared p s
  | .slipCorrection p => Sys2Proof.Machine.execSlipCorrection p s
  | .missingEdge p => Sys2Proof.Machine.execMissingEdge p s
  | .mirrorComplete isl => Sys2Proof.Machine.execMirrorComplete isl s
  | .mirrorDeadline isl => Sys2Proof.Machine.execMirrorDeadline isl s
  | .takeGrant => Sys2Proof.Machine.execTakeGrant s
  | .takeStrobeDrop => Sys2Proof.Machine.execTakeStrobeDrop s
  | .takeWindowJudged => Sys2Proof.Machine.execTakeWindowJudged s
  | .changeoverStart r => Sys2Proof.Machine.execChangeoverStart r s
  | .lockDecision r => Sys2Proof.Machine.execLockDecision r s
  | .switchCutPost r => Sys2Proof.Machine.execSwitchCutPost r s
  | .mirrorCut r => Sys2Proof.Machine.execMirrorCut r s
  | .setStandard m standard => Sys2Proof.Machine.execSetStandard m standard s
  | .setRoute m projector island port => Sys2Proof.Machine.execSetRoute m projector island port s
  | .setIsland m island source travel => Sys2Proof.Machine.execSetIsland m island source travel s
  | .setProjector m body => Sys2Proof.Machine.execSetProjector m body s
  | .setSignature m projector length pattern => Sys2Proof.Machine.execSetSignature m projector length pattern s
  | .setSafety m source flags => Sys2Proof.Machine.execSetSafety m source flags s
  | .setHorizon m horizon => Sys2Proof.Machine.execSetHorizon m horizon s
  | .setMask m unit kinds setting => Sys2Proof.Machine.execSetMask m unit kinds setting s
  | .setReport m projector period => Sys2Proof.Machine.execSetReport m projector period s
  | .setGroup m mask => Sys2Proof.Machine.execSetGroup m mask s
  | .lampOn m via projector => Sys2Proof.Machine.execLampOn m via projector s
  | .lampOff m via projector => Sys2Proof.Machine.execLampOff m via projector s
  | .start m via projector => Sys2Proof.Machine.execStart m via projector s
  | .stop m via projector => Sys2Proof.Machine.execStop m via projector s
  | .inchForward m projector => Sys2Proof.Machine.execInchForward m projector s
  | .inchReverse m projector => Sys2Proof.Machine.execInchReverse m projector s
  | .inchStop m projector => Sys2Proof.Machine.execInchStop m projector s
  | .clear m projector => Sys2Proof.Machine.execClear m projector s
  | .setMode m via projector mode => Sys2Proof.Machine.execSetMode m via projector mode s
  | .preset m projector frame => Sys2Proof.Machine.execPreset m projector frame s
  | .loadCues m header watermark entries => Sys2Proof.Machine.execLoadCues m header watermark entries s
  | .deleteCue m cue => Sys2Proof.Machine.execDeleteCue m cue s
  | .clearCues m projector => Sys2Proof.Machine.execClearCues m projector s
  | .queryCues m projector start => Sys2Proof.Machine.execQueryCues m projector start s
  | .abortChange m cue => Sys2Proof.Machine.execAbortChange m cue s
  | .queryChanges m => Sys2Proof.Machine.execQueryChanges m s
  | .take m source => Sys2Proof.Machine.execTake m source s
  | .mirror m island port => Sys2Proof.Machine.execMirror m island port s
  | .queryProjector m projector clearFlag => Sys2Proof.Machine.execQueryProjector m projector clearFlag s
  | .queryIsland m island => Sys2Proof.Machine.execQueryIsland m island s
  | .queryDevice m clearFlag => Sys2Proof.Machine.execQueryDevice m clearFlag s
  | .queryAlarms m unit => Sys2Proof.Machine.execQueryAlarms m unit s
  | .ackAlarms m unit kinds => Sys2Proof.Machine.execAckAlarms m unit kinds s
  | .poll m => Sys2Proof.Machine.execPoll m s
  | .restart m via => Sys2Proof.Machine.execRestart m via s
  | .resetAsserted m => Sys2Proof.Machine.execResetAsserted m s
  | .replyStart wait => Sys2Proof.Machine.execReplyStart wait s

end Sys2Proof.Machine
end

