-- ==== Sys2Proof/Safety.lean ====
section
/-! DEFINITION. What the reference says is so of the part at all times: the invariants that the claims name. -/

namespace Sys2Proof.Machine

/-! ### Channels (R15, R17, R33) -/

/-- The outputs, the timers and the run-up record that a channel's state and cause give (R15, R17). -/
structure Channel.Follows (c : Channel) : Prop where
  motor : c.motor = c.running
  douse : c.douse = true ↔ c.state = .run ∨ (c.state = .runup ∧ c.douseHeld = true)
  inch : (c.inchF = true ∨ c.inchR = true) ↔ c.state = .inch
  oneInch : ¬(c.inchF = true ∧ c.inchR = true)
  lampOff : c.state = .dark ∨ c.cause = .lampFail ∨ c.cause = .estop → c.lamp = false
  lampOn : c.state = .strike ∨ c.state = .ready ∨ c.state = .runup ∨ c.state = .run → c.lamp = true
  cause : c.cause = .none ↔ c.state ≠ .fault
  strikeTimer : c.strike.isSome = true ↔ c.state = .strike
  runupTimer : c.runup.isSome = true ↔ c.state = .runup
  record : c.record.isSome = true ↔ c.state = .runup ∨ c.state = .run

/-- Every channel's outputs follow its state (R17). -/
def OutputsFollowState (s : State) : Prop := ∀ p : Proj, s.ch[p].Follows

/-- While the ESTOP line is asserted every channel is in FAULT with cause ESTOP and all its outputs are off (R33, R35). -/
def EstopHoldsOutputs (s : State) : Prop :=
  s.estop = true → ∀ p : Proj,
    s.ch[p].state = .fault ∧ s.ch[p].cause = .estop
      ∧ s.ch[p].motor = false ∧ s.ch[p].lamp = false ∧ s.ch[p].douse = false
      ∧ s.ch[p].inchF = false ∧ s.ch[p].inchR = false

/-! ### Trackers (R1, R44, R45, R47, R54 to R57) -/

/-- A step is one of a standard's (R1). -/
def Standard.uses : Standard → Step → Prop
  | .s50, c => c = .even
  | .s60, c => c = .long ∨ c = .short

/-- What a tracker's items say of one another and of its channel's state (R44, R45, R54, R57, R130). -/
structure TrackerFits (std : Standard) (g : Nat) (state : ProjState) (t : Tracker) : Prop where
  motor : t.motor = true ↔ state = .runup ∨ state = .run
  unlocked : t.lock = .unlocked ↔ ¬(state = .runup ∨ state = .run)
  search : t.lock = .search ↔ state = .runup
  locked : t.lock = .locked ↔ state = .run
  hasPos : t.pos.isSome = true ↔ t.lock = .locked
  hasDue : t.edgeDue.isSome = true ↔ t.lock = .locked
  pendingInSearch : t.pendingLock.isSome = true → t.lock = .search
  slipInLock : t.slipWait.isSome = true → t.lock = .locked
  pos : ∀ q ∈ t.pos, q.f = t.frame ∧ q.i < q.c.len ∧ std.uses q.c
  pending : ∀ q ∈ t.pendingLock, q.i ≤ 1 ∧ std.uses q.c
  slip : ∀ w ∈ t.slipWait, w.i ≤ 1 ∧ std.uses w.c
  low : Config.frameMin ≤ t.frame
  high : t.frame ≤ Config.frameMax
  phase : t.phase < g

/-- Every tracker fits its channel and the standard. -/
def TrackersFit (s : State) : Prop :=
  ∀ p : Proj, TrackerFits s.tb.standard s.ch[p].config.gauge.perfs s.ch[p].state s.tr[p]

/-! ### The alarm lines (R169) -/

/-- Some unit has an enabled, latched alarm of a class (R169). -/
def AlarmUnit.shows (u : AlarmUnit) (major : Bool) : Prop :=
  ∃ a : AlarmId, a.isMajor = major ∧ (u.get a).set = true ∧ (u.get a).enabled = true

/-- The alarm lines show the enabled latches (R169), and are not asserted while RESET is (R164). -/
def LinesFollowLatches (s : State) : Prop :=
  if s.resetHeld then s.alarm.major = false ∧ s.alarm.minor = false
  else (s.alarm.major = true ↔ s.alarm.shows true) ∧ (s.alarm.minor = true ↔ s.alarm.shows false)

/-! ### The cue store (R107 to R110) -/

/-- The fields of an entry lie in their ranges (R109, R110). -/
def CueEntry.inRange (e : CueEntry) : Prop :=
  1 ≤ e.number ∧ e.number ≤ 65535 ∧ e.pos ≤ 999999
    ∧ match e.kind with
      | .change part => part.target ≤ 999999 ∧ part.tolerance ≤ 15 ∧ ∀ t ∈ part.tailOut, t ≤ 4095
      | .mark t => t ≤ 15
      | .quiet l => 1 ≤ l ∧ l ≤ 65535
      | _ => True

/-- The entries of all eight lists together. -/
def CueStore.total (c : CueStore) : Nat := (allProj.map (fun p => c.lists[p].length)).sum

/-- The pool holds 256 entries, positions ascend within a list, no two entries of the part carry one number, and entries
are in range (R107, R108, R109). -/
structure CueStore.Whole (c : CueStore) : Prop where
  pool : c.free + c.total = 256
  ascend : ∀ p : Proj, c.lists[p].Pairwise (fun x y => x.pos < y.pos)
  numbers : ∀ p q : Proj, ∀ x ∈ c.lists[p], ∀ y ∈ c.lists[q], x.number = y.number → p = q ∧ x = y
  range : ∀ p : Proj, ∀ x ∈ c.lists[p], x.inRange
  low : ∀ p : Proj, c.low[p] ≤ 15

/-- The cue store is whole. -/
def CuesWhole (s : State) : Prop := s.cues.Whole

/-! ### The notice queue (R185) -/

/-- At most 16 notices wait, and at most one POSITION notice for each projector (R185). -/
def QueueBounded (s : State) : Prop :=
  s.line.queue.length ≤ 16 ∧ ∀ p : Proj, s.line.queue.countP (Notice.isPositionOf p) ≤ 1

/-! ### Places, claims and records (R78, R80, R86, R129) -/

/-- No two projectors share a place, and no two islands, and no island and the safety source, share a source code
(R78, R80). -/
def PlacesDistinct (s : State) : Prop :=
  (∀ p q : Proj, s.route[p] = s.route[q] → s.route[p] ≠ none → p = q)
    ∧ (∀ i j : Isl, s.isl[i].source = s.isl[j].source → i = j)
    ∧ ∀ i : Isl, s.isl[i].source ≠ s.take.safety

/-- A claim is held by a MIRROR record before TAILOUT, both of whose projectors stand at the island (R79, R86). -/
def ClaimsFitRecords (s : State) : Prop :=
  ∀ (i : Isl) (r : Rec), s.isl[i].claim = some r →
    ∃ rec, s.eng.records[r] = some rec ∧ rec.method = .mirror ∧ rec.state ≠ .tailout
      ∧ (s.route[rec.a]).map Prod.fst = some i ∧ (s.route[rec.b]).map Prod.fst = some i

/-- A changeover request waits for a record in CUTTING by SWITCH alone: it is posted with the entry to CUTTING and withdrawn or granted
with its end (R91, R95, R150, R152). -/
def SlotsFitRecords (s : State) : Prop :=
  ∀ (r : Rec) (q : ChangeReq), s.take.slots[r] = some q →
    ∃ rec, s.eng.records[r] = some rec ∧ rec.state = .cutting ∧ rec.method = .switch

/-- No projector belongs to two records that are not FREE, and none is both outgoing and incoming in one (R129). -/
def RecordsDisjoint (s : State) : Prop :=
  ∀ (r x : Rec) (rec rec' : Record), s.eng.records[r] = some rec → s.eng.records[x] = some rec' →
    rec.a ≠ rec.b ∧ (r ≠ x → rec.a ≠ rec'.a ∧ rec.a ≠ rec'.b ∧ rec.b ≠ rec'.a ∧ rec.b ≠ rec'.b)

/-! ### Settings -/

/-- What only a setting command of the line, or a reset, may change: every configuration item of the blocks (R1, R16, R52, R64,
R66, R78, R80, R99, R122, R144, R164, R176). -/
structure SameSettings (s t : State) : Prop where
  standard : t.tb.standard = s.tb.standard
  config : ∀ p : Proj, t.ch[p].config = s.ch[p].config
  lockParams : ∀ p : Proj, t.tr[p].w = s.tr[p].w ∧ t.tr[p].k = s.tr[p].k ∧ t.tr[p].m = s.tr[p].m
  period : ∀ p : Proj, t.tr[p].period = s.tr[p].period
  signature : ∀ p : Proj, t.det[p].sigLen = s.det[p].sigLen ∧ t.det[p].sigPat = s.det[p].sigPat
  route : t.route = s.route
  source : ∀ i : Isl, t.isl[i].source = s.isl[i].source ∧ t.isl[i].travel = s.isl[i].travel
  safety : t.take.safety = s.take.safety ∧ t.take.protectSet = s.take.protectSet
  low : t.cues.low = s.cues.low
  horizon : t.eng.horizon = s.eng.horizon
  enables : ∀ a : AlarmId, (t.alarm.get a).enabled = (s.alarm.get a).enabled
  line : t.line.own = s.line.own ∧ t.line.rate = s.line.rate ∧ t.line.mask = s.line.mask

end Sys2Proof.Machine
end

