-- ==== Sys2Proof/Certificates/Slice0/Obligations.lean ====
section
/-! DEFINITION. The statements for the provers, and the words in which they are put. Each statement speaks of `u`, the state
that an event from outside finds (`State.arrive`): what waited at the boundary has been taken, the clock and the input lines are
those of the moment. A statement that gives the next state as `u` with some fields replaced says in the same breath what the
command leaves unchanged. -/

namespace Sys2Proof.Claims
open Sys2Proof.Machine

/-! ### Messages: who is heard, and what an answer is (R180 to R183) -/

/-- A frame of the given kind is heard: RESET is not asserted and, for an individual frame, no reply is pending (R176, R181). -/
def Hears (s : State) (m : Moment) (via : Via) : Prop :=
  s.resetHeld = false ∧ (via = .individual → (s.arrive m).replyPending = false)

/-- The reply to a command of a code with a status code and a body (R183), waiting from the end of the command's frame (R181). -/
def replyTo (u : State) (code st : Byte) (body : List Byte) : Reply :=
  ⟨0x01 :: BitVec.ofNat 8 u.line.own.toNat :: BitVec.ofNat 8 (body.length + 2) :: (code + 0x80) :: st :: body, u.now, none⟩

/-- The state after a command found `u` and changed it to `v` by its own effect: one more frame is taken (R176), and an
individual frame has its reply (R181). -/
def Answered (via : Via) (u : State) (code st : Byte) (body : List Byte) (v : State) : State :=
  { v with
    line := { v.line with
      taken := min 65535 (u.line.taken + 1)
      reply := if via = .individual then some (replyTo u code st body) else v.line.reply } }

/-- The byte that names a projector in messages (R183). -/
def projByte (p : Proj) : Byte := BitVec.ofNat 8 (p.val + 1)

/-- The byte that names an island in messages (R183). -/
def islByte (i : Isl) : Byte := BitVec.ofNat 8 (i.val + 1)

/-- A projector belongs to no record that is not FREE (R129). -/
def InNoRecord (u : State) (p : Proj) : Prop :=
  ∀ (r : Rec) (rec : Record), u.eng.records[r] = some rec → rec.a ≠ p ∧ rec.b ≠ p

/-- A projector is the incoming one of no record that is not FREE (R18). -/
def NotIncoming (u : State) (p : Proj) : Prop :=
  ∀ (r : Rec) (rec : Record), u.eng.records[r] = some rec → rec.b ≠ p

/-- A channel is in DARK, STRIKE, READY or FAULT. -/
def AtRest (c : Channel) : Prop := c.state = .dark ∨ c.state = .strike ∨ c.state = .ready ∨ c.state = .fault

/-- A latch is set. -/
def Latched (t : State) (a : AlarmId) : Prop := (t.alarm.get a).set = true

/-- A change of the frame count from its present value gives no fall of the entries ahead below the watermark (R123). -/
def NoFall (u : State) (p : Proj) (listAfter : List CueEntry) (frameAfter : Int) : Prop :=
  u.cues.low[p] = 0 ∨ u.ahead p < u.cues.low[p] ∨ u.cues.low[p] ≤ aheadOf listAfter frameAfter

/-! ### Channels -/

/-- The outputs off and the douser closed, with the timers idle and the run-up record absent, as a STOP leaves a run or an
inch (R29). -/
def coasting (c : Channel) : Channel :=
  { c with
    state := .coast
    motor := false
    douse := false
    inchF := false
    inchR := false
    runup := none
    douseHeld := false
    record := none
    lampFails := 0 }

/-- A channel in FAULT with a cause, its lamp as given (R31, R34). -/
def faulted (c : Channel) (cause : Cause) (lamp : Bool) : Channel :=
  { c with
    state := .fault
    cause := cause
    motor := false
    lamp := lamp
    douse := false
    inchF := false
    inchR := false
    strike := none
    runup := none
    douseHeld := false
    lampFails := 0
    record := none }

/-- A channel after START in field n with a frame count (R25). -/
def started (c : Channel) (n : Field) (frame : Int) : Channel :=
  { c with
    state := .runup
    motor := true
    douse := false
    douseHeld := false
    runup := some ⟨n, 0, c.config.runupLimit⟩
    record := some ⟨n, frame, true⟩
    lampFails := 0 }

/-- A tracker after the motor-on report (R45). -/
def searching (t : Tracker) : Tracker :=
  { t with
    motor := true, lock := .search, interval := none, empty := 0, run := 0, lastIn := none, pendingLock := none,
    pos := none, edgeDue := none, slipWait := none, out := 0 }

/-- A tracker after the motor-off report (R45). -/
def stopped (t : Tracker) : Tracker :=
  { t with
    motor := false, lock := .unlocked, interval := none, empty := 0, run := 0, lastIn := none, pendingLock := none,
    pos := none, edgeDue := none, slipWait := none, out := 0 }

/-- A tracker after a loss of lock (R59). -/
def lostLock (t : Tracker) : Tracker :=
  { t with
    lock := .search, pos := none, edgeDue := none, slipWait := none, out := 0, run := 0, lastIn := none, pendingLock := none }

/-- What LAMP on makes of a channel in field n, with the status code (R21). -/
def lampOnTable (c : Channel) (n : Field) : Channel × Byte :=
  match c.state with
  | .dark => ({ c with state := .strike, lamp := true, strike := some ⟨n, 0, c.config.strikeFields⟩, lampFails := 0 }, 0x00)
  | .strike | .ready | .runup | .run => (c, 0x00)
  | .coast | .inch => (c, if c.lamp then 0x00 else 0x13)
  | .fault => (c, 0x13)

/-- What LAMP off makes of a channel that is the incoming one of no record, with the status code (R23). -/
def lampOffTable (c : Channel) : Channel × Byte :=
  match c.state with
  | .dark => (c, 0x00)
  | .strike | .ready => ({ c with state := .dark, lamp := false, strike := none, lampFails := 0 }, 0x00)
  | .runup | .run => (c, 0x13)
  | .coast | .inch | .fault => ({ c with lamp := false }, 0x00)

/-- What STOP makes of a channel (R29). -/
def stopTable (c : Channel) : Channel :=
  match c.state with
  | .runup | .run | .inch => coasting c
  | _ => c

/-- The status of a command that reached all eight projectors: that of the lowest-numbered one that refused, else ACCEPTED
(R19). -/
def overall (sts : List Byte) : Byte := (sts.find? (fun st => st ≠ 0x00)).getD 0x00

/-! ### Records -/

/-- The CHANGE notice of a record's ending (R151). -/
def changeNotice (r : Rec) (rec : Record) (res : Result) (n : Field) : Notice :=
  .change ⟨r, rec.cue, rec.a, rec.b, rec.p, rec.q, rec.method, res, rec.e, rec.planned, rec.cutMade, rec.deferrals, rec.flags,
    rec.startField, n⟩

/-- What the ending of a record with a result leaves of the tables (R150), for a queue with room: the record is FREE, its request
is withdrawn, its claim released, its CHANGE notice is the newest of the queue, and no other item of the engine, the take port,
the islands, the alarm table, the lists and the map has changed. -/
structure Ended (u t : State) (r : Rec) (rec : Record) (res : Result) : Prop where
  records : t.eng = { u.eng with records := u.eng.records.set r none }
  request : t.take = { u.take with slots := u.take.slots.set r none }
  claims : ∀ i : Isl, t.isl[i] = { u.isl[i] with claim := if u.isl[i].claim = some r then none else u.isl[i].claim }
  notice : t.line.queue = u.line.queue ++ [changeNotice r rec res u.field]
  rest : t.alarm = u.alarm ∧ t.cues = u.cues ∧ t.route = u.route ∧ t.tb = u.tb ∧ t.det = u.det

/-- The run count after a pulse in ACQUIRE or LOST (R2): the count rises when the spacing differs from the nominal period by no
more than 1/16 of it, and starts again from 1 otherwise. -/
def runCountAfter (b : Timebase) (now : Nat) : Nat :=
  match b.lastPulse with
  | none => 1
  | some l =>
    let period := match b.standard with | .s50 => 38400000 / 50 | .s60 => 38400000 / 60
    if 16 * ((now - l : Nat) : Int) ≤ 17 * (period : Int) ∧ 15 * (period : Int) ≤ 16 * ((now - l : Nat) : Int)
    then min 16 (b.runCount + 1) else 1

/-! ### Frames of the line (R183) -/

/-- The bytes of a number, most significant first. -/
def bytesOf (k n : Nat) : List Byte := (List.range k).map (fun j => BitVec.ofNat 8 (n / 256 ^ (k - 1 - j)))

/-- The frame of a command row: the moment at which it completes, how it is addressed, and its code and body (R183). Absent for
the rows that are no messages. -/
def frameOf : Instr → Option (Moment × Via × Byte × List Byte)
  | .setStandard m a => some (m, .individual, 0x10, [a])
  | .setRoute m a b c => some (m, .individual, 0x11, [a, b, c])
  | .setIsland m a b c => some (m, .individual, 0x12, [a, b, c])
  | .setProjector m b => some (m, .individual, 0x13,
      [b.projector, b.gauge] ++ bytesOf 2 b.strikeFields.toNat ++ bytesOf 2 b.runupLimit.toNat ++ [b.stillness]
        ++ bytesOf 2 b.progU.toNat ++ bytesOf 2 b.progD.toNat ++ [b.adaptDepth, b.w, b.k, b.m])
  | .setSignature m a b c => some (m, .individual, 0x14, [a, b, c])
  | .setSafety m a b => some (m, .individual, 0x15, [a, b])
  | .setHorizon m h => some (m, .individual, 0x16, bytesOf 2 h.toNat)
  | .setMask m a k x => some (m, .individual, 0x17, [a] ++ bytesOf 4 k.toNat ++ [x])
  | .setReport m a v => some (m, .individual, 0x18, [a] ++ bytesOf 2 v.toNat)
  | .setGroup m a => some (m, .individual, 0x19, [a])
  | .lampOn m via a => some (m, via, 0x20, [a, 1])
  | .lampOff m via a => some (m, via, 0x20, [a, 0])
  | .start m via a => some (m, via, 0x21, [a])
  | .stop m via a => some (m, via, 0x22, [a])
  | .inchStop m a => some (m, .individual, 0x23, [a, 0])
  | .inchForward m a => some (m, .individual, 0x23, [a, 1])
  | .inchReverse m a => some (m, .individual, 0x23, [a, 2])
  | .clear m a => some (m, .individual, 0x24, [a])
  | .setMode m via a x => some (m, via, 0x25, [a, x])
  | .preset m a f => some (m, .individual, 0x26, [a] ++ bytesOf 3 f.toNat)
  | .loadCues m h w es => some (m, .individual, 0x30, [h, w] ++ es)
  | .deleteCue m c => some (m, .individual, 0x31, bytesOf 2 c.toNat)
  | .clearCues m a => some (m, .individual, 0x32, [a])
  | .queryCues m a b => some (m, .individual, 0x33, [a, b])
  | .abortChange m c => some (m, .individual, 0x40, bytesOf 2 c.toNat)
  | .queryChanges m => some (m, .individual, 0x41, [])
  | .take m a => some (m, .individual, 0x50, [a])
  | .mirror m a b => some (m, .individual, 0x51, [a, b])
  | .queryProjector m a b => some (m, .individual, 0x60, [a, b])
  | .queryIsland m a => some (m, .individual, 0x61, [a])
  | .queryDevice m a => some (m, .individual, 0x62, [a])
  | .queryAlarms m a => some (m, .individual, 0x63, [a])
  | .ackAlarms m a k => some (m, .individual, 0x64, [a] ++ bytesOf 4 k.toNat)
  | .poll m => some (m, .individual, 0x65, [])
  | .restart m via => some (m, via, 0x66, [])
  | .reset _ _ => none
  | .resetAsserted _ => none
  | .fldPulse _ _ => none
  | .internalTick _ _ => none
  | .syncLost _ _ => none
  | .perfPulse _ _ => none
  | .shutterEdge _ _ => none
  | .cueInputAsserted _ _ => none
  | .estopAsserted _ => none
  | .estopReleased _ => none
  | .lineByte _ _ => none
  | .lineSilenceTimeout => none
  | .replyStart _ => none
  | .replyComplete => none
  | .strikeEnd _ => none
  | .lampFail _ => none
  | .runupTimeout _ => none
  | .coastEnd _ => none
  | .lockDeclared _ => none
  | .slipCorrection _ => none
  | .missingEdge _ => none
  | .mirrorComplete _ => none
  | .mirrorDeadline _ => none
  | .takeGrant => none
  | .takeStrobeDrop => none
  | .takeWindowJudged => none
  | .changeoverStart _ => none
  | .lockDecision _ => none
  | .switchCutPost _ => none
  | .mirrorCut _ => none

/-- A character received without error: odd parity and a high stop bit (R177). -/
def goodChar (b : Byte) : LineChar :=
  ⟨b, (List.range 8).countP (fun k => b.getLsbD k) % 2 = 0, true⟩

/-- A command that carries projector number 0 to all eight channels (R19). -/
def reachesAll : Instr → Prop
  | .lampOn _ _ a => a = 0
  | .lampOff _ _ a => a = 0
  | .start _ _ a => a = 0
  | .stop _ _ a => a = 0
  | _ => False

/-- The rows that may change a setting: the setting messages, LOAD_CUES with its watermark, RESET, and a character of the line,
which may complete the frame of any of them. -/
def maySet : Instr → Prop
  | .setStandard _ _ | .setRoute _ _ _ _ | .setIsland _ _ _ _ | .setProjector _ _ | .setSignature _ _ _ _ | .setSafety _ _ _
  | .setHorizon _ _ | .setMask _ _ _ _ | .setReport _ _ _ | .setGroup _ _ | .loadCues _ _ _ _ | .reset _ _ | .lineByte _ _ => True
  | _ => False

/-- What a boundary leaves alone: the settings, the map, the line controller but for its queue and the count of notices
discarded, the station inputs, the clock and the commands that wait. -/
def BoundaryKeeps (u t : State) : Prop :=
  SameSettings u t ∧ t.resetHeld = u.resetHeld ∧ t.estop = u.estop ∧ t.pins = u.pins ∧ t.pending = u.pending
    ∧ t.now = u.now ∧ ({ t.line with queue := u.line.queue, discarded := u.line.discarded } : Line) = u.line

/-! ### Bytes of replies (R186, R187) -/

/-- A byte of flags, bit 0 first. -/
def flagByte (bs : List Bool) : Byte := BitVec.ofNat 8 (bs.zipIdx.map (fun x => if x.1 then 2 ^ x.2 else 0)).sum

/-- A signed number in four bytes, 0 for an absent one. -/
def signed4 (x : Option Int) : List Byte := bytesOf 4 (BitVec.ofInt 32 (x.getD 0)).toNat

/-- A field number in four bytes, 0 for an absent one. -/
def field4 (x : Option Field) : List Byte := bytesOf 4 (x.elim 0 BitVec.toNat)

/-- The flags of a record. -/
def recordFlags (f : RecFlags) : Byte := flagByte [f.corrected, f.cadenceBreak, f.unlockedAtCut, f.lateStart]

/-- The 44 bytes of a record that is not FREE: its state and the items of R187. -/
def recordBytes (rec : Record) : List Byte :=
  [BitVec.ofNat 8 rec.state.code] ++ bytesOf 2 rec.cue ++ [projByte rec.a, projByte rec.b] ++ bytesOf 3 rec.p ++ bytesOf 3 rec.q
    ++ [BitVec.ofNat 8 rec.tolerance, BitVec.ofNat 8 (rec.policy.code + 16 * rec.priority.val), BitVec.ofNat 8 rec.margin]
    ++ bytesOf 2 (rec.tailOut.getD 0xFFFF) ++ [BitVec.ofNat 8 rec.method.code] ++ bytesOf 2 rec.uUsed
    ++ [BitVec.ofNat 8 rec.dUsed, BitVec.ofNat 8 rec.stepP.code] ++ bytesOf 3 rec.lead
    ++ [flagByte [rec.startField.isSome, rec.e.isSome, rec.planned.isSome, rec.cutMade.isSome, rec.result.isSome]]
    ++ field4 rec.startField ++ signed4 rec.e ++ field4 rec.planned ++ field4 rec.cutMade
    ++ [BitVec.ofNat 8 rec.deferrals, recordFlags rec.flags, BitVec.ofNat 8 (rec.result.elim 0 Result.code)]

/-- The 26 bytes of an island's status (R187); its tally reads 0 before the first boundary (assumption 32). -/
def islandBytes (u : State) (i : Isl) : List Byte :=
  let x := u.isl[i]
  let number (p : Option Proj) : Byte := p.elim 0 projByte
  [BitVec.ofNat 8 x.source.val, BitVec.ofNat 8 x.travel, BitVec.ofNat 8 x.commanded.val,
      flagByte [x.pending.isSome, x.claim.isSome, x.reading.isSome], BitVec.ofNat 8 (x.pending.elim 0 (fun c => c.port.val))]
    ++ field4 (x.pending.map MirrorCmd.deadline)
    ++ [BitVec.ofNat 8 (x.reading.elim 0 Fin.val), BitVec.ofNat 8 (x.settled.elim 3 Fin.val), flagByte [x.mismatch],
      BitVec.ofNat 8 (x.claim.elim 0 Fin.val), flagByte [decide (x.tally = some true)],
      number (u.projAt i 0), number (u.projAt i 1), number (u.projAt i 2), number (u.onAirAt i)]
    ++ allProj.map (fun p => BitVec.ofNat 8 (u.route[p].elim 0 (fun y => (y.1.val + 1) * 16 + y.2.val)))

/-- The 17 bytes of a CUE notice (R186). -/
def cueNoticeBytes (y : CueNotice) : List Byte :=
  [2, projByte y.projector] ++ bytesOf 2 y.cue ++ [BitVec.ofNat 8 y.kind.code] ++ bytesOf 3 y.pos
    ++ [BitVec.ofNat 8 y.outcome.code, BitVec.ofInt 8 y.value] ++ bytesOf 4 y.field.toNat
    ++ bytesOf 3 (BitVec.ofInt 24 y.frame).toNat

/-- The 37 bytes of a CHANGE notice (R186). -/
def changeNoticeBytes (y : ChangeNotice) : List Byte :=
  [3, BitVec.ofNat 8 y.index.val] ++ bytesOf 2 y.cue ++ [projByte y.a, projByte y.b] ++ bytesOf 3 y.p ++ bytesOf 3 y.q
    ++ [BitVec.ofNat 8 y.method.code, BitVec.ofNat 8 y.result.code,
      flagByte [y.e.isSome, y.planned.isSome, y.cutMade.isSome, y.startField.isSome]]
    ++ signed4 y.e ++ field4 y.planned ++ field4 y.cutMade ++ [BitVec.ofNat 8 y.deferrals, recordFlags y.flags]
    ++ field4 y.startField ++ bytesOf 4 y.ended.toNat

/-! ### What a boundary makes of the blocks

`z` is the state that the boundary finds, with nothing waiting, and `n` the field that begins. -/

/-- A timer after the boundary that begins field n (R21, R25). -/
def ticked (x : Timer) (n : Field) : Timer := if x.start = n then x else { x with count := min 1023 (x.count + 1) }

/-- Nothing stops a projector's film at a boundary: its list is empty and LOOP and TAIL are not asserted. -/
def Undisturbed (z : State) (p : Proj) : Prop :=
  z.cues.lists[p] = [] ∧ z.pins.proj[p].loop = false ∧ z.pins.proj[p].tail = false

/-- The mirror reads the commanded port at this boundary as at the one before: it is settled there (R82). -/
def AtHome (z : State) (i : Isl) : Prop :=
  z.isl[i].reading = some z.pins.isl[i].mpos ∧ z.pins.isl[i].mpos.val = z.isl[i].commanded.val

/-- The mirror leaves the commanded port with no command pending (R85). -/
def Drifts (z : State) (i : Isl) : Prop :=
  z.isl[i].pending = none ∧ z.isl[i].wasPending = false ∧ z.isl[i].settled = some z.isl[i].commanded ∧ ¬AtHome z i

/-- A record that is in a state before its cut, whose projectors are undisturbed and whose claim no drift reaches. -/
def Undisturbed.Record (z : State) (r : Rec) (rec : Sys2Proof.Machine.Record) : Prop :=
  Undisturbed z rec.a ∧ Undisturbed z rec.b ∧ ∀ i : Isl, z.isl[i].claim = some r → ¬Drifts z i

/-- A request is due for arbitration in field n but for the timebase: posted before and due by then (R91, R92). -/
def requestReady (posted due n : Field) : Prop := fieldDiff posted n < 0 ∧ fieldDiff due n ≤ 0

/-- Some request is eligible at the boundary that begins field n: the protective request, and in SYNC a changeover or host request
(R91, R92). -/
def Eligible (z : State) (n : Field) (inSync : Bool) : Prop :=
  (∃ q, z.take.protective = some q ∧ requestReady q.posted q.due n)
  ∨ (inSync = true ∧ ((∃ (r : Rec) (q : ChangeReq), z.take.slots[r] = some q ∧ requestReady q.posted q.due n)
      ∨ ∃ q, z.take.host = some q ∧ requestReady q.posted q.due n))

/-- An order that moves trackers, channels and islands alone: the arming attempts, the arbitration and the steps come after them. -/
def MovesBlocksAlone (o : BoundaryOrder) : Prop :=
  ∀ x ∈ o.parts, (∃ p, x = .tracker p) ∨ (∃ p, x = .channel p) ∨ x = .islands

/-- What a boundary makes of the alarm unit's condition flags, the still counts and the islands' readings (R20, R82, R88, R173), and of
a change of tally: TALLY_CHANGE is passed unless a take of the last four fields accounts for it (R98). A grant of this very boundary
that the order has before the islands is the last take by then, and accounts for no change of its own field (R97, R98; which comes
first is the operand of assumption 9). Every tracker has reacted. -/
def BoundaryReads (z t : State) (n : Field) (inSync : Bool) (o : BoundaryOrder) : Prop :=
  t.unmoved = []
  ∧ (∀ p : Proj, t.alarm.flags[p] = ⟨z.pins.proj[p].lampok, z.pins.proj[p].loop, z.pins.proj[p].tail⟩
    ∧ t.ch[p].still = min 63 (z.ch[p].still + 1))
  ∧ ∀ i : Isl,
      let mpos := z.pins.isl[i].mpos
      let tly := z.pins.isl[i].tly
      t.isl[i].reading = some mpos ∧ t.isl[i].tally = some tly ∧ t.isl[i].tallyBefore = decide (z.isl[i].tally = some true)
        ∧ (∀ q : Port, t.isl[i].settled = some q ↔ z.isl[i].reading = some mpos ∧ mpos.val = q.val)
        ∧ (z.isl[i].tally = some (!tly) → (∀ l, z.take.last = some l → ¬(1 ≤ fieldDiff n l.field ∧ fieldDiff n l.field ≤ 4)) →
            Latched t (.isl i .tallyChange))
        ∧ (z.isl[i].tally ≠ some (!tly) → t.alarm.get (.isl i .tallyChange) = z.alarm.get (.isl i .tallyChange))
        ∧ ((∃ l, z.take.last = some l ∧ 1 ≤ fieldDiff n l.field ∧ fieldDiff n l.field ≤ 4) → .take ∉ o.parts →
            t.alarm.get (.isl i .tallyChange) = z.alarm.get (.isl i .tallyChange))
        ∧ (z.isl[i].tally = some (!tly) → o.parts.head? = some .take → Eligible z n inSync → Latched t (.isl i .tallyChange))

/-- What a boundary shows an open confirmation window: the tallies of its fields t + 1 to t + 4 (R97). -/
def BoundaryShows (z t : State) (n : Field) : Prop :=
  (z.take.window = none → t.take.window = none)
  ∧ ∀ w, z.take.window = some w →
      let inside : Prop := 1 ≤ fieldDiff n w.take ∧ fieldDiff n w.take ≤ 4
      ∃ w', t.take.window = some w' ∧ w'.take = w.take ∧ w'.target = w.target ∧ w'.previous = w.previous
        ∧ (w'.seenOn = true ↔ w.seenOn = true ∨ (inside ∧ ∃ i, w.target = some i ∧ z.pins.isl[i].tly = true))
        ∧ ∀ i : Isl, w'.seenOff[i] = true ↔ w.seenOff[i] = true ∨ (inside ∧ z.pins.isl[i].tly = false)

/-- What a boundary makes of an island's mirror while no LOCKED MIRROR record may command it: a drift sets the mismatch condition and
passes MIRROR_MISMATCH, a mirror at home clears it (R85), and a pending command comes to wait for its completion (R83) or, at its
deadline, for its failure (R84). -/
def BoundaryMirrors (z t : State) (n : Field) : Prop :=
  (∀ (r : Rec) (rec : Record), z.eng.records[r] = some rec → ¬(rec.method = .mirror ∧ rec.state = .locked)) →
  ∀ i : Isl,
    (Drifts z i → t.isl[i].mismatch = true ∧ Latched t (.isl i .mirrorMismatch))
    ∧ (¬Drifts z i → (t.isl[i].mismatch = true ↔ z.isl[i].mismatch = true ∧ ¬AtHome z i))
    ∧ (z.isl[i].pending = none → .mirrorComplete i ∉ t.due ∧ .mirrorDeadline i ∉ t.due)
    ∧ ∀ cmd, z.isl[i].pending = some cmd →
        let settled : Prop := z.isl[i].reading = some z.pins.isl[i].mpos ∧ z.pins.isl[i].mpos.val = cmd.port.val
        (.mirrorComplete i ∈ t.due ↔ settled)
        ∧ (.mirrorDeadline i ∈ t.due ↔ ¬settled ∧ fieldDiff cmd.deadline n ≤ 0)

/-- What a boundary makes of a channel: its timers count (R21, R25), the lamp is watched (R24), LOOP and TAIL raise their faults (R31),
and the ends of a strike, of a run-up, of COAST and of the lamp come to wait (R22, R24, R28, R29). -/
def BoundaryChannels (z t : State) (n : Field) : Prop :=
  ∀ p : Proj,
    let c := z.ch[p]
    let pins := z.pins.proj[p]
    let still := min 63 (c.still + 1)
    let fails := if pins.lampok then 0 else min 2 (c.lampFails + 1)
    (c.state = .strike →
      t.ch[p] = { c with
        still := still, strike := c.strike.map (fun x => ticked x n), runup := c.runup.map (fun x => ticked x n), lampFails := 0 }
      ∧ (.strikeEnd p ∈ t.due ↔ ∃ x, c.strike = some x ∧ x.limit ≤ (ticked x n).count))
    ∧ (c.state = .coast → t.ch[p].state = .coast ∧ (.coastEnd p ∈ t.due ↔ c.config.stillness ≤ still))
    ∧ (c.state = .ready → (.lampFail p ∈ t.due ↔ fails = 2))
    ∧ (c.state = .runup ∨ c.state = .run → Undisturbed z p → InNoRecord z p →
        t.ch[p] = { c with
          still := still, strike := c.strike.map (fun x => ticked x n), runup := c.runup.map (fun x => ticked x n)
          lampFails := fails }
        ∧ (.lampFail p ∈ t.due ↔ fails = 2)
        ∧ (.runupTimeout p ∈ t.due ↔ c.state = .runup ∧ ∃ x, c.runup = some x ∧ x.limit ≤ (ticked x n).count))
    ∧ (z.cues.lists[p] = [] → InNoRecord z p → (∀ x ∈ c.record, x.startField ≠ n) →
        let loop : Prop := pins.loop = true ∧ (c.state = .runup ∨ c.state = .run)
        let tail : Prop := pins.tail = true ∧ (c.state = .runup ∨ c.state = .run ∨ c.state = .inch)
        loop ∨ tail →
          t.ch[p].state = .fault ∧ t.ch[p].motor = false ∧ t.ch[p].douse = false ∧ t.tr[p].motor = false ∧ t.tr[p].lock = .unlocked
          ∧ (loop → t.ch[p].cause = .loopLoss ∧ Latched t (.proj p .loopLoss))
          ∧ (¬loop → t.ch[p].cause = .runout)
          ∧ (tail → Latched t (.proj p .runout))
          ∧ (c.state = .runup ∨ c.state = .run → fails = 2 → t.ch[p].lamp = false ∧ Latched t (.proj p .lampFail))
          ∧ (c.state = .inch ∨ fails ≠ 2 → t.ch[p].lamp = c.lamp))

/-- What a boundary makes of a tracker whose film nothing stops: a LOCKED one advances its position by the cadence, with a frame advance
when the frame ends (R55, R63), and a pending lock, a slip correction and a missing edge come to wait at their boundary (R54, R57,
R58). -/
def BoundaryTrackers (z t : State) (n : Field) : Prop :=
  ∀ p : Proj, Undisturbed z p → InNoRecord z p →
    let x := z.tr[p]
    let slip : Prop := x.lock = .locked ∧ ∃ w, x.slipWait = some w ∧ w.boundary = n
    (.slipCorrection p ∈ t.due ↔ slip)
    ∧ (.lockDeclared p ∈ t.due ↔ x.lock = .search ∧ ∃ q, x.pendingLock = some q ∧ q.declare = n)
    ∧ (.missingEdge p ∈ t.due ↔ ¬slip ∧ x.lock = .locked ∧ ∃ d, x.edgeDue = some d ∧ n = d + 2)
    ∧ ∀ q, x.lock = .locked → x.pos = some q → ¬slip → z.ch[p].state ≠ .ready →
        let q' : Pos := if q.i + 1 < q.c.len then { q with i := q.i + 1 } else ⟨q.f + 1, 0, q.c.flip⟩
        (q'.f = q.f → t.tr[p] = { x with pos := some q' })
        ∧ (q'.f ≠ q.f → x.frame < 999999 → t.tr[p].pos = some q' ∧ t.tr[p].frame = q'.f
            ∧ (z.ch[p].sampling = true → z.det[p].history.length < 8 → z.det[p].history.length + 1 < z.det[p].sigLen →
                t.det[p].history = z.det[p].history ++ [z.det[p].latch] ∧ t.det[p].latch = z.pins.proj[p].cue))
        ∧ (q'.f ≠ q.f → 999999 ≤ x.frame → t.tr[p].pos = some { q' with f := q.f } ∧ t.tr[p].frame = x.frame
            ∧ Latched t (.proj p .counterLimit))

/-- What a boundary makes of the take port and the changeover records: the strobe's drop and the window's judgement come to wait (R93,
R97), each record's own step comes to wait (R137, R146, R152, R154), no two records sharing a projector (R129, kept by every step), and
an arbitration does when a request is eligible, or else the due changeover requests count a deferral (R92, R94). -/
def BoundaryTakes (z t : State) (n : Field) (inSync : Bool) : Prop :=
  (.strobeDrop ∈ t.due ↔ z.take.strobe = true)
  ∧ (.windowJudged ∈ t.due ↔ ∃ w, z.take.window = some w ∧ 5 ≤ fieldDiff n w.take)
  ∧ (∀ r : Rec,
      (.changeoverStart r ∈ t.due → ∃ rec, z.eng.records[r] = some rec ∧ rec.state = .armed)
      ∧ (.lockDecision r ∈ t.due → ∃ rec, z.eng.records[r] = some rec ∧ rec.state = .starting)
      ∧ (.switchCut r ∈ t.due → ∃ rec, z.eng.records[r] = some rec ∧ rec.state = .locked ∧ rec.method = .switch)
      ∧ (.mirrorCut r ∈ t.due → ∃ rec, z.eng.records[r] = some rec ∧ rec.state = .locked ∧ rec.method = .mirror)
      ∧ ∀ rec, z.eng.records[r] = some rec → RecordsDisjoint z → Undisturbed.Record z r rec →
          (rec.state = .armed → .changeoverStart r ∈ t.due) ∧ (rec.state = .starting → .lockDecision r ∈ t.due)
          ∧ (rec.state = .locked → rec.method = .switch → .switchCut r ∈ t.due)
          ∧ (rec.state = .locked → rec.method = .mirror → .mirrorCut r ∈ t.due))
  ∧ ((∀ p : Proj, Undisturbed z p) → (∀ i : Isl, ¬Drifts z i) →
      (∀ (r : Rec) (rec : Record), z.eng.records[r] = some rec → rec.state ≠ .tailout) →
      let eligible : Prop := Eligible z n inSync
      (.takeGrant ∈ t.due ↔ eligible)
      ∧ (eligible → t.take = { z.take with window := t.take.window })
      ∧ (¬eligible → ∀ r : Rec,
          (z.take.slots[r] = none → t.take.slots[r] = none)
          ∧ ∀ q, z.take.slots[r] = some q →
              (requestReady q.posted q.due n → t.take.slots[r] = some { q with deferrals := min 255 (q.deferrals + 1) })
              ∧ (¬requestReady q.posted q.due n → t.take.slots[r] = some q)))

/-! ### Film -/

/-- A sample appended to a history of at most 8 (R66). -/
def sampled (h : List Bool) (x : Bool) : List Bool := if h.length < 8 then h ++ [x] else h.tail ++ [x]

/-- The newest samples equal the signature (R69). -/
def Completes (d : Detector) (h : List Bool) : Prop := d.sigLen ≤ h.length ∧ h.drop (h.length - d.sigLen) = d.sigPat

/-- A MARK entry whose window X - T to X + T contains a frame (R70). -/
def OpenAt (e : CueEntry) (frame : Int) : Prop :=
  ∃ x, e.kind = .mark x ∧ (e.pos : Int) - x ≤ frame ∧ frame ≤ (e.pos : Int) + x

/-- Whether the frame count has passed a MARK entry's window (R71). -/
def passedMark (e : CueEntry) (frame : Int) : Bool :=
  match e.kind with
  | .mark x => decide ((e.pos : Int) + x < frame)
  | _ => false

/-- What a frame advance to a frame count makes of the entries of a projector in RUNUP or RUN (R71, R117 to R119), found in z: those
taken and the MARK entries passed leave the list. In AUTO a STOP stops the projector and ends its record before the cut, or as
outgoing at any time (no other list arming a record anew), a CHANGE latches CHANGE_MISSED and a QUIET sets the window. With no STOP
actioned the channel of a projector in no record keeps its state. -/
def CuesReached (z t : State) (p : Proj) (frame : Int) : Prop :=
  let list := z.cues.lists[p]
  let taken (e : CueEntry) : Bool := decide (e.kind.tag ≠ .mark) && decide ((e.pos : Int) ≤ frame)
  let auto : Prop := z.ch[p].mode = .auto
  let stops : Prop := auto ∧ z.estop = false ∧ ∃ e ∈ list, taken e = true ∧ e.kind = .stop
  t.cues.lists[p] = list.filter (fun e => !taken e && !passedMark e frame)
  ∧ (stops → t.ch[p].state = .coast ∧ t.ch[p].motor = false ∧ t.ch[p].douse = false ∧ t.tr[p].motor = false
      ∧ t.tr[p].lock = .unlocked
      ∧ (RecordsDisjoint z → (∀ x : Proj, x ≠ p → ∀ e ∈ z.cues.lists[x], e.kind.tag ≠ .change) →
          ∀ (r : Rec) (rec : Record), z.eng.records[r] = some rec → rec.a = p ∨ (rec.b = p ∧ rec.state ≠ .tailout) →
            t.eng.records[r] = none))
  ∧ (¬stops → InNoRecord z p → t.ch[p].state = z.ch[p].state)
  ∧ (auto → ∀ e ∈ list, taken e = true → e.kind.tag = .change → Latched t (.proj p .changeMissed))
  ∧ (auto → ∀ (e : CueEntry) (l : Nat), list = [e] → taken e = true → e.kind = .quiet l →
      t.tr[p].quiet = some ((e.pos : Int), (e.pos : Int) + l))
  ∧ ((∃ e ∈ list, passedMark e frame = true) → Latched t (.proj p .markMissing))

/-! ### What the frame advances of a boundary cause -/

/-- A LOCKED tracker makes its frame advance at the boundary that begins field n, from the position q (R55, R63). -/
def Advances (z : State) (p : Proj) (n : Field) (q : Pos) : Prop :=
  z.tr[p].lock = .locked ∧ z.tr[p].pos = some q ∧ q.c.len ≤ q.i + 1 ∧ q.f = z.tr[p].frame ∧ z.tr[p].frame < 999999
    ∧ (∀ w ∈ z.tr[p].slipWait, w.boundary ≠ n)
    ∧ (z.ch[p].state = .runup ∨ z.ch[p].state = .run)

/-- The frame advance of a boundary reaches the entries of a projector without LOOP and TAIL, no match beside it and no CHANGE entry
left ahead for an arming attempt (R117 to R119). -/
def BoundaryReaches (z t : State) (n : Field) : Prop :=
  ∀ (p : Proj) (q : Pos), z.cues.Whole → Advances z p n q → z.pins.proj[p].loop = false → z.pins.proj[p].tail = false →
    z.det[p].found = none → ¬Completes z.det[p] (sampled z.det[p].history z.det[p].latch) →
    (∀ e ∈ z.cues.lists[p], e.kind.tag = .change → (e.pos : Int) ≤ q.f + 1) →
    t.tr[p].frame = q.f + 1 ∧ CuesReached z t p (q.f + 1)

/-- The frame advance of a boundary brings a record in TAILOUT to its stop point, P plus the tail-out: the record ends with the result of
its lock decision and its outgoing projector is given STOP; short of the stop point both go on (R157). The lists are empty, so that
no attempt arms the record anew. -/
def BoundaryStops (z t : State) (n : Field) : Prop :=
  ∀ (r : Rec) (rec : Record) (x : Nat) (q : Pos), RecordsDisjoint z → z.estop = false → (∀ p : Proj, z.cues.lists[p] = []) →
    z.eng.records[r] = some rec → rec.state = .tailout → rec.tailOut = some x →
    let a := rec.a
    Undisturbed z a → Advances z a n q →
      t.tr[a].frame = q.f + 1
      ∧ (q.f + 1 < (rec.p : Int) + x →
          t.eng.records[r] = some rec ∧ t.ch[a].state = z.ch[a].state ∧ t.tr[a].lock = .locked)
      ∧ ((rec.p : Int) + x ≤ q.f + 1 →
          t.eng.records[r] = none ∧ t.take.slots[r] = none
            ∧ t.ch[a].state = .coast ∧ t.ch[a].motor = false ∧ t.ch[a].douse = false
            ∧ t.tr[a].motor = false ∧ t.tr[a].lock = .unlocked
            ∧ ∀ res, rec.result = some res → z.line.queue.length ≤ 12 → (∀ p : Proj, Undisturbed z p) →
                (∀ p : Proj, p ≠ a → z.tr[p].lock ≠ .locked) → (∀ i : Isl, ¬Drifts z i) →
                (∀ i : Isl, z.isl[i].tally ≠ some (!z.pins.isl[i].tly)) →
                changeNotice r rec res n ∈ t.line.queue)

/-- What the boundary that begins field n makes of the blocks, found in a state z with nothing waiting. What every order of its reactions
leaves, BoundaryReads says. The order may have the arming attempts, the arbitration or a step come before some block (assumption 9):
the tallies are shown to a window that no grant opens and no judgement closes first, and the clauses on channels, trackers, mirrors, takes
and frame advances speak of the orders that move the blocks alone. -/
def BoundaryMakes (z t : State) (n : Field) (inSync : Bool) (o : BoundaryOrder) : Prop :=
  BoundaryReads z t n inSync o
  ∧ (.take ∉ o.parts → .step .windowJudged ∉ o.parts → BoundaryShows z t n)
  ∧ (MovesBlocksAlone o →
      BoundaryMirrors z t n ∧ BoundaryChannels z t n ∧ BoundaryTrackers z t n ∧ BoundaryTakes z t n inSync
      ∧ BoundaryReaches z t n ∧ BoundaryStops z t n)

/-- A tracker after the perforation check of an edge (R48, R49, R50): the first edge sets the phase and the interval count to 0; a later
one counts a defect, and sets the phase to 0, when its interval is not one frame long. -/
def checkedEdge (g : Nat) (x : Tracker) : Tracker :=
  match x.interval with
  | none => { x with phase := 0, interval := some 0 }
  | some k =>
    let y : Tracker := { x with interval := some 0, empty := if k = 0 then min 3 (x.empty + 1) else 0 }
    if k = g then y else { y with phase := 0, perfDefects := min 65535 (x.perfDefects + 1) }

/-! ### Protective requests (R103, R104) -/

/-- The protective request after a post: a new one, due at the next boundary, or the replacement of the one pending (R104). -/
def posted (old : Option ProtectReq) (source : Source) (target : Option Proj) (n : Field) : Option ProtectReq :=
  match old with
  | none => some ⟨source, target, n, n + 1⟩
  | some q => some (if q.source = source then q else { q with source := source, target := target })

/-- The protective request after a kind of the protect set has struck a projector: one that aimed at it is turned to the safety source
(R104). -/
def turned (u : State) (p : Proj) : Option ProtectReq :=
  u.take.protective.map (fun q => if q.target = some p then { q with source := u.take.safety, target := none } else q)

/-! ### Arming -/

/-- The record that an arming fills (R127, R133), with the lead of R134. -/
def armedRecord (s : State) (a : Proj) (q : Pos) (e : CueEntry) (part : ChangePart) (method : Method) : Record :=
  let b := part.incoming
  let nB : Int := part.target - s.tr[b].frame - s.ch[b].dEff
  let stepP := q.stepOf e.pos
  { state := .armed, cue := e.number, a := a, b := b, p := e.pos, q := part.target, tolerance := part.tolerance
    policy := part.policy, margin := part.margin.toNat, priority := part.priority, tailOut := part.tailOut
    method := method, uUsed := s.ch[b].uEff, dUsed := s.ch[b].dEff, stepP := stepP
    lead := s.ch[b].uEff + cad nB.toNat (if nB % 2 = 0 then stepP else stepP.flip)
    startField := none, e := none, planned := none, cutMade := none, deferrals := 0
    flags := ⟨false, false, false, false⟩, result := none }

/-- The method that check 6 of R131 gives, or none: MIRROR at one island without a claim, SWITCH at two with the tally of the incoming
one, as the field has it, not asserted. -/
def MethodFor (s : State) (a : Proj) (i : Isl) (method : Method) : Prop :=
  (method = .mirror ∧ (∃ x, s.route[a] = some x ∧ x.1 = i) ∧ s.isl[i].claim = none)
  ∨ (method = .switch ∧ (∀ x, s.route[a] = some x → x.1 ≠ i) ∧ s.pins.isl[i].tly = false)

/-! ### Cues -/

/-- An entry that the bytes of R184 can spell: each field fits its bytes. -/
def spells (e : CueEntry) : Prop :=
  e.number < 65536 ∧ e.pos < 16777216
    ∧ match e.kind with
      | .change part => part.target < 16777216 ∧ part.tolerance < 256 ∧ ∀ x ∈ part.tailOut, x < 65535
      | .mark t => t < 256
      | .quiet l => l < 65536
      | _ => True

/-- Whether some field of an entry is out of its range (R109, R110, R112 check 4). -/
def outOfRange (e : CueEntry) : Bool :=
  decide (e.number = 0) || decide (999999 < e.pos)
    || match e.kind with
      | .change part => decide (999999 < part.target) || decide (15 < part.tolerance) || part.tailOut.any (fun x => decide (4096 ≤ x))
      | .mark t => decide (15 < t)
      | .quiet l => decide (l = 0)
      | _ => false

/-- What one entry of a LOAD_CUES for a projector comes to: the result code of the first check that fails, or 0x00 with the
entry in its place (R108, R112). -/
def loadOne (u : State) (p : Proj) (c : CueStore) (e : CueEntry) : CueStore × Byte :=
  if c.free = 0 then (c, 0x20)
  else if (∃ q : Proj, ∃ x ∈ c.lists[q], x.number = e.number) ∨ ∃ x ∈ c.lists[p], x.pos = e.pos then (c, 0x1A)
  else if u.ch[p].running = true ∧ (e.pos : Int) ≤ u.tr[p].frame then (c, 0x21)
  else if outOfRange e = true then (c, 0x12)
  else if (match e.kind with
      | .change part => decide (part.incoming = p) || (u.route[part.incoming]).isNone
      | _ => false) = true then (c, 0x22)
  else ({ c with free := c.free - 1, lists := c.lists.set p (insertCue e c.lists[p]) }, 0x00)

/-- The entries of a LOAD_CUES one after another (R111). -/
def loadAll (u : State) (p : Proj) : CueStore → List CueEntry → CueStore × List Byte
  | c, [] => (c, [])
  | c, e :: es => ((loadAll u p (loadOne u p c e).1 es).1, (loadOne u p c e).2 :: (loadAll u p (loadOne u p c e).1 es).2)

end Sys2Proof.Claims

section
open Sys2Proof Sys2Proof.Machine Sys2Proof.Claims

/-! ### The step, and the state that an event finds -/

/-- A step carries out the command at the front of the queue on the state with the rest of the queue; with no command waiting it
changes nothing (the idling is the model's choice, assumption 4). -/
def Obligations.StepRunsFrontCommand : Prop :=
  (∀ (c : Instr) (rest : List Instr) (s : State),
      step { s with pending := c :: rest } = exec c { s with pending := rest })
    ∧ ∀ s : State, s.pending = [] → step s = .next s

/-- With no step of a boundary waiting, an event finds the state as it was but for the clock, the input lines and the sensor
latches, which an asserted CUE input sets (R67), and for a match that waits for the cue store: it is taken first, unless the event names
its projector as late (R70). The form in which an event finds the state is the model's choice (assumptions 5, 7, 17 and 26). -/
def Obligations.ArriveReadsInputs : Prop :=
  ∀ (s : State) (m : Moment), s.due = [] →
    ∃ w : State, (∃ det, w = { s with now := s.now + m.elapsed, pins := m.pins, det := det })
      ∧ (∀ p : Proj, w.det[p] = { s.det[p] with latch := s.det[p].latch || m.pins.proj[p].cue })
      ∧ ((∀ p : Proj, s.det[p].found = none ∨ p ∈ m.pins.late) → s.arrive m = w)
      ∧ ∀ (p : Proj) (detected : Int), s.det[p].found = some detected → p ∉ m.pins.late →
          (∀ x : Proj, x ≠ p → s.det[x].found = none ∨ x ∈ m.pins.late) →
          s.arrive m = { w with det := w.det.set p { w.det[p] with found := none } }.takeMatch p detected

/-! ### RESET and ESTOP -/

/-- The release of RESET with the ESTOP line not asserted gives every item its power-on value of the state tables (R1 to R8, R15,
R16, R44, R66, R77, R90, R106, R126, R164, R173, R176); the straps are read. With the ESTOP line asserted every channel is in FAULT
with cause ESTOP and ESTOP is latched on DEVICE (R34). The queue of commands is kept (the model's own field). The direction
of travel and the reading of the CUE input at the release are the model's choices (assumptions 3 and 17). -/
def Obligations.ResetGivesPowerOnValues : Prop :=
  ∀ (straps : Straps) (pins : Pins) (s : State), ∃ t, exec (.reset straps pins) s = .next t
    ∧ t.pending = s.pending ∧ t.resetHeld = false ∧ t.estop = straps.estop ∧ t.pins = pins ∧ t.due = [] ∧ t.unmoved = []
    ∧ t.tb = ⟨.s50, .acquire, 0, 0, some (38400000 / 50), none, none, 0, false⟩
    ∧ t.cues = ⟨256, Vector.replicate 8 [], Vector.replicate 8 2⟩
    ∧ t.eng = ⟨Vector.replicate 4 none, 480⟩
    ∧ t.route = #v[some (0, 0), some (0, 1), some (1, 0), some (1, 1), some (2, 0), some (2, 1), some (3, 0), some (3, 1)]
    ∧ (∀ i : Isl, t.isl[i] = ⟨⟨i.val + 1, by omega⟩, 6, 0, some ⟨0, 14⟩, false, none, none, false, none, none, false⟩)
    ∧ t.take = ⟨Vector.replicate 4 none, none, none, 0, 0b0111111, 0, false, none, none⟩
    ∧ (∀ p : Proj, t.det[p] = ⟨5, [false, true, true, true, false], [], pins.proj[p].cue, none⟩)
    ∧ (∀ p : Proj, t.tr[p] =
        { frame := 0, phase := 0, motor := false, lock := .unlocked, interval := none, empty := 0, run := 0, lastIn := none,
          pendingLock := none, pos := none, edgeDue := none, slipWait := none, out := 0, w := 6, k := 4, m := 3, slips := 0,
          perfDefects := 0, strayMarks := 0, corrections := 0, quiet := none, period := 0, forward := true })
    ∧ (∀ p : Proj, t.alarm.flags[p] = ⟨false, false, false⟩)
    ∧ (∀ a : AlarmId, (t.alarm.get a).enabled = true
        ∧ ((t.alarm.get a).set = true ↔ straps.estop = true ∧ a = .dev .estop)
        ∧ (t.alarm.get a).count = if (t.alarm.get a).set then 1 else 0)
    ∧ t.alarm.major = straps.estop ∧ t.alarm.minor = false
    ∧ ({ t.line with queue := [] } : Line) = ⟨straps.addr, straps.rate, 0, .idle, [], 0, none, [], 0, 0, 0, 0⟩
    ∧ t.line.queue = (if straps.estop then [.alarm (.dev .estop) 0 none] else [])
    ∧ ∀ p : Proj,
        let c : Channel :=
          { state := .dark, cause := .none, mode := .manual, motor := false, lamp := false, douse := false, inchF := false,
            inchR := false, strike := none, runup := none, douseHeld := false, still := 63, lampFails := 0, record := none,
            history := [], config := ⟨.g35, 100, 300, 10, 60, 8, 0⟩ }
        t.ch[p] = if straps.estop then { c with state := .fault, cause := .estop } else c

/-- The assertion of RESET drops both alarm lines, puts the receiver in IDLE, releases the return pair and stops the tick, so that no
boundary is made while it lasts (R3, R164, R176). While it lasts no command and no event but its release and the ESTOP line changes
anything. An assertion of the ESTOP line puts every channel in FAULT with cause ESTOP and its outputs off (R33, R34), tells the trackers,
drops the requests and ends the records (R34, R105, R163), and latches nothing; a release latches nothing (R164, R175). That the waiting
steps of the boundary fall with RESET, and that no notice is queued, is the model's choice (assumptions 7 and 35). -/
def Obligations.ResetAssertedDropsLines : Prop :=
  (∀ (s : State) (m : Moment), s.resetHeld = false →
    let u := s.arrive m
    exec (.resetAsserted m) s = .next
      { u with
        resetHeld := true
        due := []
        alarm := { u.alarm with major := false, minor := false }
        line := { u.line with rx := .idle, buffer := [], reply := none }
        tb := { u.tb with tick := none } })
    ∧ (∀ (c : Instr) (s : State), s.resetHeld = true → (∀ straps pins, c ≠ .reset straps pins) → (∀ m, c ≠ .estopAsserted m) →
        (∀ m, c ≠ .estopReleased m) → exec c s = .next s)
    ∧ ∀ (s : State) (m : Moment), s.resetHeld = true →
        exec (.estopReleased m) s = .next { s with estop := false }
        ∧ (s.estop = true → exec (.estopAsserted m) s = .next s)
        ∧ (s.estop = false → ∃ t, exec (.estopAsserted m) s = .next t
            ∧ t.estop = true
            ∧ (∀ p : Proj, t.ch[p] = faulted s.ch[p] .estop false ∧ t.tr[p] = stopped s.tr[p])
            ∧ t.take.slots = Vector.replicate 4 none ∧ t.take.host = none
            ∧ (∀ r : Rec, t.eng.records[r] = none) ∧ (∀ (i : Isl) (r : Rec), t.isl[i].claim = some r → s.eng.records[r] = none)
            ∧ t.alarm = s.alarm ∧ t.line = s.line
            ∧ t.det = s.det ∧ t.cues = s.cues ∧ t.route = s.route ∧ t.tb = s.tb ∧ t.resetHeld = true ∧ t.pins = s.pins
            ∧ t.now = s.now ∧ t.pending = s.pending ∧ SameSettings s t)

/-- The assertion of the ESTOP line puts every channel in FAULT with cause ESTOP and all its outputs off, tells every tracker that
the motor is off, latches ESTOP on DEVICE, drops the changeover requests and the host request, ends every record, and keeps the
map, the lists, the timebase, the detectors and the settings (R34, R105, R163, R175). A line asserted already is not asserted again. That it is not is the
model's choice (assumption 23). -/
def Obligations.EstopAssertedStopsAll : Prop :=
  ∀ (s : State) (m : Moment), s.resetHeld = false →
    let u := s.arrive m
    (u.estop = true → exec (.estopAsserted m) s = .next u)
    ∧ (u.estop = false → ∃ t, exec (.estopAsserted m) s = .next t
        ∧ t.estop = true
        ∧ (∀ p : Proj, t.ch[p] = faulted u.ch[p] .estop false ∧ t.tr[p] = stopped u.tr[p])
        ∧ Latched t (.dev .estop)
        ∧ t.take.slots = Vector.replicate 4 none ∧ t.take.host = none
        ∧ (∀ r : Rec, t.eng.records[r] = none) ∧ (∀ (i : Isl) (r : Rec), t.isl[i].claim = some r → u.eng.records[r] = none)
        ∧ t.det = u.det ∧ t.cues = u.cues ∧ t.route = u.route ∧ t.tb = u.tb ∧ t.resetHeld = false ∧ t.pins = u.pins
        ∧ SameSettings u t)

/-- The release of the ESTOP line latches ESTOP_RELEASED on DEVICE, or counts it when it is latched already, and changes nothing
else: no channel, tracker, list, record, island, request or setting, and of the alarm unit no other pair but NOTICE_LOST, which a notice
discarded from a full queue may pass (R35, R166, R167, R185); the lines follow the latches (R169). The release of a line that is not
asserted changes nothing (the model's choice, assumption 23). -/
def Obligations.EstopReleasedOnlyLatches : Prop :=
  ∀ (s : State) (m : Moment), s.resetHeld = false →
    let u := s.arrive m
    let mine := u.alarm.get (.dev .estopReleased)
    (u.estop = false → exec (.estopReleased m) s = .next u)
    ∧ (u.estop = true → ∃ alarm line,
        exec (.estopReleased m) s = .next { u with estop := false, alarm := alarm, line := line }
          ∧ alarm.get (.dev .estopReleased) =
              (if mine.set then { mine with count := min 255 (mine.count + 1) } else { mine with set := true, count := 1 })
          ∧ (∀ a : AlarmId, a ≠ .dev .estopReleased → a ≠ .dev .noticeLost → alarm.get a = u.alarm.get a)
          ∧ (mine.set = true ∨ mine.enabled = false ∨ u.line.queue.length < 16 →
              alarm.get (.dev .noticeLost) = u.alarm.get (.dev .noticeLost) ∧ line.discarded = u.line.discarded)
          ∧ alarm.flags = u.alarm.flags
          ∧ (alarm.major = true ↔ alarm.shows true) ∧ (alarm.minor = true ↔ alarm.shows false)
          ∧ line.queue = (if mine.set = false ∧ mine.enabled = true ∧ u.line.queue.length < 16 then
              u.line.queue ++ [.alarm (.dev .estopReleased) u.tb.field none] else u.line.queue)
          ∧ ({ line with queue := u.line.queue, discarded := u.line.discarded } : Line) = u.line)

/-! ### Timebase (R1 to R9) -/

/-- In SYNC a station pulse is a boundary: the field counter rises by one and the state stays SYNC (R6, R8). It makes of the blocks what
`BoundaryMakes` says: condition flags (R173), still counts (R20), timers (R21, R25, R28), the lamp watch (R24), LOOP_LOSS and RUNOUT
(R31), the cadence advance (R55) with the entries that it reaches (R117 to R119) and the stop point of a tail-out (R157), mirror readings
and drifts (R82, R85), tallies and TALLY_CHANGE (R88, R98), and when each boundary step comes to wait. That the steps wait for rows of
their own, and that an order of the event may have them come before other reactions, is the model's choice (assumptions 7, 9 and 29). -/
def Obligations.PulseInSyncIsBoundary : Prop :=
  ∀ (s : State) (m : Moment) (o : BoundaryOrder), s.resetHeld = false →
    let u := s.arrive m
    u.tb.state = .sync →
      ∃ t, exec (.fldPulse m o) s = .next t
        ∧ t.tb = { u.tb with field := u.tb.field + 1, lastPulse := some u.now, fieldStart := u.now, madeInSync := true }
        ∧ BoundaryKeeps u t
        ∧ BoundaryMakes u.settle t (u.tb.field + 1) true o

/-- In ACQUIRE and LOST a pulse that does not complete the run moves the run count and the time of the last pulse, and nothing
else (R2, R3). -/
def Obligations.PulseOutOfSyncCounts : Prop :=
  ∀ (s : State) (m : Moment) (o : BoundaryOrder), s.resetHeld = false →
    let u := s.arrive m
    u.tb.state ≠ .sync → runCountAfter u.tb u.now ≠ 16 →
      exec (.fldPulse m o) s = .next
        { u with tb := { u.tb with runCount := runCountAfter u.tb u.now, lastPulse := some u.now } }

/-- The pulse that completes the run brings SYNC and stops the tick. It is merged with an internal boundary made less than half a
nominal period before, and changes no block then; otherwise it is a boundary, made in SYNC. From LOST it latches SYNC_RESTORED
(R4, R5, R7). -/
def Obligations.SixteenthPulseEntersSync : Prop :=
  ∀ (s : State) (m : Moment) (o : BoundaryOrder), s.resetHeld = false →
    let u := s.arrive m
    u.tb.state ≠ .sync → runCountAfter u.tb u.now = 16 →
      let merged := ∃ l, u.tb.lastTick = some l ∧ 2 * (u.now - l) < u.tb.standard.period
      ∃ t, exec (.fldPulse m o) s = .next t
        ∧ t.tb.state = .sync ∧ t.tb.runCount = 16 ∧ t.tb.tick = none ∧ t.tb.lastPulse = some u.now
        ∧ (merged → t.tb.field = u.tb.field ∧ t.ch = u.ch ∧ t.tr = u.tr ∧ t.isl = u.isl ∧ t.take = u.take ∧ t.due = u.due)
        ∧ (¬merged → t.tb.field = u.tb.field + 1 ∧ BoundaryMakes u.settle t (u.tb.field + 1) true o)
        ∧ (u.tb.state = .lost → Latched t (.dev .syncRestored))
        ∧ BoundaryKeeps u t

/-- The running tick makes a boundary when it is due, one nominal period before its next (R3, R8), outside SYNC, with what
`BoundaryMakes` says of the blocks: among it the due changeover requests count a deferral when no protective request is eligible (R92,
R94). A tick that comes after its time is made at once (the model's choice, assumption 6). -/
def Obligations.InternalTickMakesBoundary : Prop :=
  ∀ (s : State) (pins : Pins) (o : BoundaryOrder), s.resetHeld = false →
    (s.tb.tick = none → exec (.internalTick pins o) s = .next s)
    ∧ ∀ due, s.tb.tick = some due →
        let n := max s.now due
        ∃ t, exec (.internalTick pins o) s = .next t
          ∧ t.tb = { s.tb with
              field := s.tb.field + 1, tick := some (n + s.tb.standard.period), lastTick := some n, fieldStart := n,
              madeInSync := false }
          ∧ t.now = n ∧ t.pins = pins ∧ t.line.own = s.line.own ∧ t.resetHeld = false ∧ t.estop = s.estop
          ∧ BoundaryMakes (s.arriveAt due pins).settle t (s.tb.field + 1) false o

/-- Three nominal periods without a pulse bring LOST: the run count becomes 0, the tick restarts with a boundary made at once, which makes
of the blocks what `BoundaryMakes` says, and SYNC_LOST is latched on DEVICE (R3, R6). Out of SYNC nothing happens. A change that comes
after its time is made at once (the model's choice, assumption 6). -/
def Obligations.SyncLossMakesBoundary : Prop :=
  ∀ (s : State) (pins : Pins) (o : BoundaryOrder), s.resetHeld = false →
    (s.tb.state ≠ .sync → exec (.syncLost pins o) s = .next s)
    ∧ ∀ l, s.tb.state = .sync → s.tb.lastPulse = some l →
        let due := l + 3 * s.tb.standard.period
        let n := max s.now due
        ∃ t, exec (.syncLost pins o) s = .next t
          ∧ t.tb = { s.tb with
              state := .lost, runCount := 0, field := s.tb.field + 1, tick := some (n + s.tb.standard.period),
              lastTick := some n, fieldStart := n, madeInSync := false }
          ∧ Latched t (.dev .syncLost)
          ∧ t.now = n ∧ t.pins = pins ∧ t.line.own = s.line.own ∧ t.resetHeld = false ∧ t.estop = s.estop
          ∧ BoundaryMakes (s.arriveAt due pins).settle t (s.tb.field + 1) false o

/-! ### Film (chapters 3 and 4) -/

/-- A perforation sets the still count to 0 and moves the perf phase. With the motor on, or without a carry, the frame count stays,
and a present interval count rises while the motor is on (R20, R46, R48). With the motor off a carry moves the frame count by one,
upward when DIR reads forward, and posts the POSITION notice that a multiple of the report period asks for (R63, R65); a carry at a
limit is held and latches COUNTER_LIMIT (R47). In INCH and COAST a forward carry takes a sample and consumes the MARK entries passed as
MISSING (R68, R71), and a completed signature is a match: the open MARK entry is consumed MATCHED and the frame count corrected to its
position (R69, R70, R73), or the match is stray (R72). A match that waits until the advance past X + T finds its entry MISSING and is
stray (R71); that a match may wait is the operand of assumption 26. A reverse carry empties the history and clears the latch (R68).
That the POSITION notice comes before the notices of missed marks and of a match, and so finds the room that the queue had, is the
model's choice (assumption 8); so is that the latch stays clear under an asserted CUE input until the next event reads it (assumption
17). -/
def Obligations.PerforationMovesPhase : Prop :=
  ∀ (s : State) (m : Moment) (p : Proj), s.resetHeld = false →
    let u := s.arrive m
    let forward := m.pins.proj[p].forward
    let g := u.ch[p].config.gauge.perfs
    let x := u.tr[p].phase
    let phase := if forward then (if x + 1 < g then x + 1 else 0) else (if x = 0 then g - 1 else x - 1)
    let carry := if forward then ¬(x + 1 < g) else x = 0
    let next := if forward then u.tr[p].frame + 1 else u.tr[p].frame - 1
    let d := u.det[p]
    let list := u.cues.lists[p]
    let h := sampled d.history d.latch
    (u.tr[p].motor = true ∨ ¬carry →
      exec (.perfPulse m p) s = .next
        { u with
          ch := u.ch.set p { u.ch[p] with still := 0 }
          tr := u.tr.set p { u.tr[p] with
            phase := phase
            forward := forward
            interval := if u.tr[p].motor then u.tr[p].interval.map (fun n => min 15 (n + 1)) else u.tr[p].interval } })
    ∧ (u.tr[p].motor = false → carry →
        (AtRest u.ch[p] → ∃ t, exec (.perfPulse m p) s = .next t
          ∧ t.ch[p].still = 0 ∧ t.tr[p].phase = phase ∧ t.ch[p].state = u.ch[p].state
          ∧ (-99999 ≤ next → next ≤ 999999 → -99999 ≤ u.tr[p].frame → u.tr[p].frame ≤ 999999 →
              (d.found = none → t.tr[p].frame = next) ∧ t.cues.lists = u.cues.lists.set p t.cues.lists[p]
              ∧ (forward = true → d.found = none → t.det = u.det ∧ t.cues = u.cues))
          ∧ (u.tr[p].frame = (if forward then 999999 else -99999) →
              t.tr[p].frame = u.tr[p].frame ∧ t.det = u.det ∧ t.cues = u.cues ∧ Latched t (.proj p .counterLimit))
          ∧ (∀ q : Proj, q ≠ p → t.ch[q] = u.ch[q] ∧ t.det[q] = u.det[q] ∧ t.tr[q] = u.tr[q])
          ∧ SameSettings u t)
        ∧ (-99999 ≤ next → next ≤ 999999 → u.tr[p].period ≠ 0 → next % u.tr[p].period = 0 →
            (u.line.queue.length < 16 ∨ ∃ n, Notice.position n ∈ u.line.queue ∧ n.projector = p) →
            ∃ t, exec (.perfPulse m p) s = .next t
              ∧ .position ⟨p, next, phase, u.tr[p].lock, u.tb.field⟩ ∈ t.line.queue)
        ∧ (forward = false → -99999 ≤ next → ∃ t, exec (.perfPulse m p) s = .next t
            ∧ t.tr[p].frame = next ∧ t.det = u.det.set p { d with history := [], latch := false } ∧ t.cues = u.cues)
        ∧ (forward = true → next ≤ 999999 → u.ch[p].state = .inch ∨ u.ch[p].state = .coast →
            (¬Completes d h → d.found = none → u.cues.Whole → ∃ t, exec (.perfPulse m p) s = .next t
              ∧ t.tr[p].frame = next ∧ t.det = u.det.set p { d with history := h, latch := m.pins.proj[p].cue }
              ∧ t.cues.lists = u.cues.lists.set p (list.filter (fun e => !passedMark e next))
              ∧ t.cues.free = u.cues.free + list.countP (fun e => passedMark e next)
              ∧ ((∃ e ∈ list, passedMark e next = true) → Latched t (.proj p .markMissing)))
            ∧ (Completes d h → d.found = none → p ∉ m.pins.late → (∀ e ∈ list, passedMark e next = false) →
                ((∀ e ∈ list, ¬OpenAt e next) → ∃ t, exec (.perfPulse m p) s = .next t
                  ∧ t.tr[p].frame = next ∧ t.tr[p].strayMarks = min 65535 (u.tr[p].strayMarks + 1)
                  ∧ t.det = u.det.set p { d with history := [], latch := m.pins.proj[p].cue } ∧ t.cues = u.cues
                  ∧ (inQuiet u.tr[p].quiet next = false → Latched t (.proj p .strayMark)))
                ∧ ∀ e : CueEntry, list = [e] → OpenAt e next → e.pos ≤ 999999 → ∃ t, exec (.perfPulse m p) s = .next t
                  ∧ t.tr[p].frame = e.pos ∧ t.tr[p].corrections = min 65535 (u.tr[p].corrections + 1)
                  ∧ t.det = u.det.set p { d with history := [], latch := m.pins.proj[p].cue }
                  ∧ t.cues = { u.cues with lists := u.cues.lists.set p [], free := u.cues.free + 1 }
                  ∧ (u.line.queue.length ≤ 13 →
                      .cue ⟨p, e.number, .mark, e.pos, .matched, e.pos - next, u.tb.field, next⟩ ∈ t.line.queue))
            ∧ (Completes d h → d.found = none → p ∈ m.pins.late → ∃ t, exec (.perfPulse m p) s = .next t
                ∧ t.tr[p].frame = next
                ∧ t.det = u.det.set p { d with history := [], latch := m.pins.proj[p].cue, found := some next })
            ∧ ∀ (e : CueEntry) (w : Int) (y : Nat), ¬Completes d h → d.found = some w → list = [e] → e.kind = .mark y →
                w = e.pos + y → next = w + 1 → ∃ t, exec (.perfPulse m p) s = .next t
                  ∧ t.tr[p].frame = next ∧ t.tr[p].strayMarks = min 65535 (u.tr[p].strayMarks + 1)
                  ∧ t.tr[p].corrections = u.tr[p].corrections ∧ t.cues.lists = u.cues.lists.set p []
                  ∧ t.det = u.det.set p { d with history := h, latch := m.pins.proj[p].cue, found := none }
                  ∧ Latched t (.proj p .markMissing)
                  ∧ (u.line.queue.length ≤ 13 →
                      .cue ⟨p, e.number, .mark, e.pos, .missing, 0, u.tb.field, next⟩ ∈ t.line.queue)))

/-- The CUE input sets the sensor latch and changes nothing else (R67). A shutter edge with the motor off, no step of the boundary
waiting, is ignored (R46). -/
def Obligations.CueInputAndIdleShutter : Prop :=
  ∀ (s : State) (m : Moment) (p : Proj), s.resetHeld = false →
    let u := s.arrive m
    exec (.cueInputAsserted m p) s = .next
        { u with
          pins := { u.pins with proj := u.pins.proj.set p { u.pins.proj[p] with cue := true } }
          det := u.det.set p { u.det[p] with latch := true } }
      ∧ (s.due = [] → u.tr[p].motor = false → exec (.shutterEdge m p) s = .next u)

/-- A shutter edge of a LOCKED tracker, no step of the boundary waiting, is checked for perforations (R48 to R50) and classed by its
nearest boundary b against the edge due D (R51, R56). IN and OUT keep the position and move D by the length of the frame begun at D; a
DROP (b = D - 1) or REPEAT (b = D + 1) short of M counts a slip and has its position correction wait for the next boundary (R57). An
edge further off, one taken while a correction waits, and one that brings the out counter to M lose lock (R56, R57, R59), which takes a
channel in RUN back to RUNUP and latches LOCK_LOST (R27). A failing interval counts a defect and latches PERF_DEFECT outside the quiet
window beside each of these (R49, R61), and the third empty one in RUNUP or RUN is a film break: FAULT with cause FILM_BREAK (R31, R50).
That the perforations are checked first and that the edge which breaks the film is then not classed is the model's choice
(assumption 20). -/
def Obligations.LockedEdgeIsClassed : Prop :=
  ∀ (s : State) (m : Moment) (p : Proj), s.resetHeld = false → s.due = [] →
    let u := s.arrive m
    let t := u.tr[p]
    let a := min 63 ((u.now - u.tb.fieldStart) * 64 / u.tb.standard.period)
    let e : Int := if a < 32 then a else (a : Int) - 64
    let b : Field := if a < 32 then u.tb.field else u.tb.field + 1
    let gauge := u.ch[p].config.gauge.perfs
    let checked := checkedEdge gauge t
    let passes : Prop := t.interval = none ∨ t.interval = some gauge
    let runs : Prop := u.ch[p].state = .runup ∨ u.ch[p].state = .run
    ∀ (q : Pos) (due : Field), t.motor = true → t.lock = .locked → t.pos = some q → t.edgeDue = some due →
      let g : Int × Step := if 0 < fieldDiff due u.tb.field then (q.f + 1, q.c.flip) else (q.f, q.c)
      let slips : Prop := t.slipWait = none ∧ (b = due - 1 ∨ b = due + 1)
      let out : Tracker := { checked with out := t.out + 1, edgeDue := some (due + BitVec.ofNat 32 g.2.len) }
      let slipped : Tracker := { checked with
        out := t.out + 1
        slips := min 65535 (t.slips + 1)
        edgeDue := some (b + BitVec.ofNat 32 g.2.len)
        slipWait := some ⟨u.tb.field + 1, g.1, if e < 0 then 0 else 1, g.2⟩ }
      let lost : Tracker := lostLock { checked with slips := if b = due - 1 ∨ b = due + 1 then min 65535 (t.slips + 1) else t.slips }
      let lostFar : Tracker := lostLock checked
      let loses : Prop := t.slipWait.isSome ∨ (b ≠ due ∧ b ≠ due - 1 ∧ b ≠ due + 1) ∨ (b = due ∧ t.w < |e| ∧ t.m ≤ t.out + 1)
        ∨ ((b = due - 1 ∨ b = due + 1) ∧ t.m ≤ t.out + 1)
      let loss (v : State) : Prop :=
        ((t.slipWait.isSome ∨ (b ≠ due ∧ b ≠ due - 1 ∧ b ≠ due + 1)) → v.tr = u.tr.set p lostFar)
        ∧ (t.slipWait = none → b = due ∨ b = due - 1 ∨ b = due + 1 → v.tr = u.tr.set p lost)
        ∧ v.det = u.det ∧ v.cues = u.cues ∧ v.tb = u.tb ∧ v.route = u.route
        ∧ (u.ch[p].state ≠ .run → v.ch = u.ch ∧ v.eng = u.eng ∧ v.take = u.take ∧ v.isl = u.isl)
        ∧ (u.ch[p].state = .run →
            v.ch = u.ch.set p { u.ch[p] with
              state := .runup, douseHeld := true, runup := some ⟨u.tb.field, 0, u.ch[p].config.runupLimit⟩, lampFails := 0,
              record := u.ch[p].record.map (fun x => { x with fromReady := false }) }
            ∧ Latched v (.proj p .lockLost))
      (passes → checked.empty < 3 →
        (t.slipWait = none → b = due → |e| ≤ t.w →
          exec (.shutterEdge m p) s = .next
            { u with tr := u.tr.set p { checked with out := 0, edgeDue := some (due + BitVec.ofNat 32 g.2.len) } })
        ∧ (t.slipWait = none → b = due → t.w < |e| → t.out + 1 < t.m → t.m ≤ 7 →
          exec (.shutterEdge m p) s = .next { u with tr := u.tr.set p out })
        ∧ (slips → t.out + 1 < t.m → t.m ≤ 7 →
          ∃ alarm line,
            exec (.shutterEdge m p) s = .next { u with alarm := alarm, line := line, tr := u.tr.set p slipped }
            ∧ (inQuiet t.quiet t.frame = true → alarm = u.alarm ∧ line = u.line)
            ∧ (inQuiet t.quiet t.frame = false → (alarm.get (.proj p .slip)).set = true))
        ∧ (loses → ∃ v, exec (.shutterEdge m p) s = .next v ∧ loss v))
      ∧ (¬passes → checked.empty < 3 ∨ ¬runs → t.slipWait = none → b = due → |e| ≤ t.w →
        ∃ alarm line,
          exec (.shutterEdge m p) s = .next
            { u with
              alarm := alarm
              line := line
              tr := u.tr.set p { checked with out := 0, edgeDue := some (due + BitVec.ofNat 32 g.2.len) } }
          ∧ checked.perfDefects = min 65535 (t.perfDefects + 1)
          ∧ (inQuiet t.quiet t.frame = true → alarm = u.alarm ∧ line = u.line)
          ∧ (inQuiet t.quiet t.frame = false → (alarm.get (.proj p .perfDefect)).set = true))
      ∧ (¬passes → checked.empty < 3 ∨ ¬runs →
        (t.slipWait = none → b = due → t.w < |e| → t.out + 1 < t.m → t.m ≤ 7 →
          ∃ alarm line,
            exec (.shutterEdge m p) s = .next { u with alarm := alarm, line := line, tr := u.tr.set p out }
            ∧ (inQuiet t.quiet t.frame = true → alarm = u.alarm ∧ line = u.line)
            ∧ (inQuiet t.quiet t.frame = false → (alarm.get (.proj p .perfDefect)).set = true))
        ∧ (slips → t.out + 1 < t.m → t.m ≤ 7 →
          ∃ alarm line,
            exec (.shutterEdge m p) s = .next { u with alarm := alarm, line := line, tr := u.tr.set p slipped }
            ∧ (inQuiet t.quiet t.frame = true → alarm = u.alarm ∧ line = u.line)
            ∧ (inQuiet t.quiet t.frame = false →
                (alarm.get (.proj p .perfDefect)).set = true ∧ (alarm.get (.proj p .slip)).set = true))
        ∧ (loses → ∃ v, exec (.shutterEdge m p) s = .next v ∧ loss v
            ∧ (inQuiet t.quiet t.frame = false → Latched v (.proj p .perfDefect))))
      ∧ (t.interval = some 0 → t.empty = 2 → runs →
        ∃ v, exec (.shutterEdge m p) s = .next v
          ∧ v.ch = u.ch.set p (faulted u.ch[p] .filmBreak u.ch[p].lamp) ∧ v.tr = u.tr.set p (stopped checked)
          ∧ Latched v (.proj p .filmBreak)
          ∧ (inQuiet t.quiet t.frame = false → Latched v (.proj p .perfDefect))
          ∧ v.det = u.det ∧ v.cues = u.cues ∧ v.tb = u.tb ∧ v.route = u.route)

/-- The table of an edge in SEARCH (R53), and the pending lock of one that brings the run to K (R54). A shutter edge taken in SEARCH, no
step of the boundary waiting, adds one to the frame count, is checked for perforations, takes a sample and is measured by that table
(R48, R49, R51, R68); with no entry in the list and no report due, and too few samples for the signature, it does no more. At the limit
the frame count is held and COUNTER_LIMIT latched (R47). A failing interval counts a defect, and latches PERF_DEFECT unless the frame
count that the edge leaves lies in the quiet window (R49, R61). The third empty interval in RUNUP or RUN is a film break: FAULT with cause
FILM_BREAK, the tracker UNLOCKED and not measured (R31, R45, R50). That the sample comes before the film break and that the edge which
breaks the film is then not measured is the model's choice (assumption 20). -/
def Obligations.SearchEdgeFollowsTable : Prop :=
  (∀ (s : State) (m : Moment) (p : Proj), s.resetHeld = false → s.due = [] →
    let u := s.arrive m
    let x := u.tr[p]
    let d := u.det[p]
    let a := min 63 ((u.now - u.tb.fieldStart) * 64 / u.tb.standard.period)
    let gauge := u.ch[p].config.gauge.perfs
    let checked := checkedEdge gauge x
    let passes : Prop := x.interval = none ∨ x.interval = some gauge
    let runs : Prop := u.ch[p].state = .runup ∨ u.ch[p].state = .run
    let det := u.det.set p { d with history := d.history ++ [d.latch], latch := m.pins.proj[p].cue }
    let bare : Prop := u.cues.lists[p] = [] ∧ InNoRecord u p ∧ x.period = 0 ∧ d.found = none
      ∧ d.history.length + 1 < d.sigLen ∧ d.history.length < 8
    x.motor = true → x.lock = .search →
      (passes → checked.empty < 3 →
        (x.frame < 999999 → runs → bare →
          exec (.shutterEdge m p) s = .next
            { u with
              tr := u.tr.set p ({ checked with frame := x.frame + 1 }.searchEdge u.tb.standard u.tb.field a)
              det := det })
        ∧ (x.frame = 999999 → ∃ alarm line,
          exec (.shutterEdge m p) s = .next
            { u with alarm := alarm, line := line, tr := u.tr.set p (checked.searchEdge u.tb.standard u.tb.field a) }
            ∧ (alarm.get (.proj p .counterLimit)).set = true))
      ∧ (¬passes → checked.perfDefects = min 65535 (x.perfDefects + 1) ∧
        (x.frame < 999999 → runs → checked.empty < 3 → bare → ∃ alarm line,
          exec (.shutterEdge m p) s = .next
            { u with
              alarm := alarm
              line := line
              tr := u.tr.set p ({ checked with frame := x.frame + 1 }.searchEdge u.tb.standard u.tb.field a)
              det := det }
            ∧ (inQuiet x.quiet (x.frame + 1) = true → alarm = u.alarm ∧ line = u.line)
            ∧ (inQuiet x.quiet (x.frame + 1) = false → (alarm.get (.proj p .perfDefect)).set = true))
        ∧ (x.frame = 999999 → checked.empty < 3 ∨ ¬runs → ∃ alarm line,
          exec (.shutterEdge m p) s = .next
            { u with alarm := alarm, line := line, tr := u.tr.set p (checked.searchEdge u.tb.standard u.tb.field a) }
            ∧ (alarm.get (.proj p .counterLimit)).set = true
            ∧ (inQuiet x.quiet x.frame = false → (alarm.get (.proj p .perfDefect)).set = true)))
      ∧ (x.interval = some 0 → x.empty = 2 → runs → x.frame < 999999 → bare →
        ∃ v, exec (.shutterEdge m p) s = .next v
          ∧ v.ch = u.ch.set p (faulted u.ch[p] .filmBreak u.ch[p].lamp)
          ∧ v.tr = u.tr.set p (stopped { checked with frame := x.frame + 1 })
          ∧ Latched v (.proj p .filmBreak)
          ∧ (inQuiet x.quiet (x.frame + 1) = false → Latched v (.proj p .perfDefect))
          ∧ v.det = det ∧ v.cues = u.cues ∧ v.tb = u.tb ∧ v.route = u.route))
  ∧ ∀ (t : Tracker) (std : Standard) (n : Field) (a : Nat), a ≤ 63 →
    let e : Int := if a < 32 then a else (a : Int) - 64
    let b : Field := if a < 32 then n else n + 1
    let t' := t.searchEdge std n a
    let fits (l : Field) : Prop := fieldDiff b l = 2 ∨ (std = .s60 ∧ fieldDiff b l = 3)
    ((t.w : Int) < |e| → t' = { t with pendingLock := none, run := 0, lastIn := none })
    ∧ (|e| ≤ t.w → t.lastIn = none → t' = { t with pendingLock := none, run := 1, lastIn := some b })
    ∧ (|e| ≤ t.w → ∀ l, t.lastIn = some l → ¬fits l → t' = { t with pendingLock := none, run := 1, lastIn := some b })
    ∧ (|e| ≤ t.w → ∀ l, t.lastIn = some l → fits l → t.run + 1 < t.k → t.k ≤ 15 →
        t' = { t with pendingLock := none, run := t.run + 1, lastIn := some b })
    ∧ (|e| ≤ t.w → ∀ l, t.lastIn = some l → fits l → t.run + 1 = t.k → t.k ≤ 15 →
        let c : Step := if std = .s50 then .even else if fieldDiff b l = 3 then .short else .long
        t' = { t with
          run := t.k
          lastIn := some b
          pendingLock := some (if e < 0 then ⟨b, t.frame, 0, c⟩ else ⟨b + 1, t.frame, 1, c⟩) })

/-! ### Steps of the channel that belong to a boundary (chapter 2) -/

/-- The end of a strike with LAMPOK asserted brings READY; without it the channel is in FAULT with cause LAMP_FAIL and its lamp off,
with no protective action (R22). The end of COAST brings READY with the lamp on and DARK with the lamp off (R29). A row whose step does not wait changes nothing (the model's choice, assumption 7). -/
def Obligations.StrikeAndCoastEnd : Prop :=
  ∀ (s : State) (p : Proj), s.resetHeld = false →
    (.strikeEnd p ∈ s.due → s.ch[p].state = .strike → s.alarm.flags[p].lampok = true →
      exec (.strikeEnd p) s = .next
        { s with
          due := s.due.filter (fun d => d ≠ .strikeEnd p)
          ch := s.ch.set p { s.ch[p] with state := .ready, strike := none, lampFails := 0 } })
    ∧ (.strikeEnd p ∈ s.due → s.ch[p].state = .strike → s.alarm.flags[p].lampok = false →
      ∃ t, exec (.strikeEnd p) s = .next t
        ∧ t.ch = s.ch.set p (faulted s.ch[p] .lampFail false) ∧ t.tr = s.tr.set p (stopped s.tr[p])
        ∧ Latched t (.proj p .lampFail)
        ∧ (InNoRecord s p → (∀ q ∈ s.take.protective, q.target ≠ some p) → t.take = s.take ∧ t.eng = s.eng ∧ t.isl = s.isl)
        ∧ t.cues = s.cues ∧ t.det = s.det ∧ t.route = s.route ∧ t.tb = s.tb)
    ∧ (.coastEnd p ∈ s.due → s.ch[p].state = .coast →
      exec (.coastEnd p) s = .next
        { s with
          due := s.due.filter (fun d => d ≠ .coastEnd p)
          ch := s.ch.set p { s.ch[p] with state := if s.ch[p].lamp then .ready else .dark, lampFails := 0 } })
    ∧ (.strikeEnd p ∉ s.due → exec (.strikeEnd p) s = .next s)
    ∧ (.coastEnd p ∉ s.due → exec (.coastEnd p) s = .next s)

/-- A second boundary without lamp current puts the channel in FAULT with cause LAMP_FAIL and its lamp off (R24, R31). When another step of
that boundary has changed the channel's state first, the count began again at 0 and this boundary brings it to 1: no fault (R24). A
run-up timer that has run out puts the channel in FAULT with cause LOCK_FAIL and its lamp as it was (R28, R31). When both arise together
LAMP_FAIL comes first in the order of R31 and gives the cause, and both are latched. That either row takes both
is the model's choice (assumptions 7 and 16). -/
def Obligations.LampAndRunupFaults : Prop :=
  ∀ (s : State) (p : Proj), s.resetHeld = false →
    let watched : Prop := s.ch[p].state = .ready ∨ s.ch[p].state = .runup ∨ s.ch[p].state = .run
    let fails := .lampFail p ∈ s.due ∧ watched ∧ s.ch[p].lampFails = 2
    let late := .runupTimeout p ∈ s.due ∧ s.ch[p].state = .runup ∧ ∃ x, s.ch[p].runup = some x ∧ x.limit ≤ x.count
    let taken (t : State) (cause : Cause) (lamp : Bool) :=
      t.ch = s.ch.set p (faulted s.ch[p] cause lamp) ∧ t.tr = s.tr.set p (stopped s.tr[p])
        ∧ .lampFail p ∉ t.due ∧ .runupTimeout p ∉ t.due
        ∧ t.cues = s.cues ∧ t.det = s.det ∧ t.route = s.route ∧ t.tb = s.tb
    (fails → .runupTimeout p ∉ s.due →
      ∃ t, exec (.lampFail p) s = .next t ∧ taken t .lampFail false ∧ Latched t (.proj p .lampFail))
    ∧ (.lampFail p ∈ s.due → watched → s.ch[p].lampFails = 0 →
      exec (.lampFail p) s = .next
        { s with due := s.due.filter (fun d => d ≠ .lampFail p), ch := s.ch.set p { s.ch[p] with lampFails := 1 } })
    ∧ (.lampFail p ∈ s.due → ¬watched → .runupTimeout p ∉ s.due →
      exec (.lampFail p) s = .next { s with due := s.due.filter (fun d => d ≠ .lampFail p) })
    ∧ (late → .lampFail p ∉ s.due →
      ∃ t, exec (.runupTimeout p) s = .next t ∧ taken t .lockFail s.ch[p].lamp ∧ Latched t (.proj p .lockFail))
    ∧ (fails → late →
      ∀ row ∈ [Instr.lampFail p, Instr.runupTimeout p],
        ∃ t, exec row s = .next t ∧ taken t .lampFail false ∧ Latched t (.proj p .lampFail) ∧ Latched t (.proj p .lockFail))

/-- The take port's table of protective events (R100) with the rules of R104, for a lamp failure (kind LAMP_FAIL) and for a loss of lock in
RUN (kind LOCK_LOST), and for the ESTOP line (kind ESTOP). A kind outside the protect set posts nothing. A kind of the set on a
projector on air latches PROTECT and posts a request to the safety source, due one field later, which replaces a pending one of another
source (R103, R104); as the outgoing projector of a LOCKED record the cut goes to its incoming projector instead, by SWITCH (R101) or by
MIRROR (R102), and the record ends EMERGENCY. The outgoing projector's record in ARMED, STARTING or CUTTING ends OUTGOING_FAILED by a
fault, and by a loss of lock that is protective (R158); in TAILOUT a fault ends it with its decided result and a loss of lock leaves it
(R161). A kind of the set that strikes the target of the pending request turns that request to the safety source, on air or not (R104).
That the take port decides on the record before the engine ends it, and that an incoming projector of an ARMED record gives
no protective event, is DEDUCED (assumption 16). -/
def Obligations.ProtectiveEventsFollowTable : Prop :=
  (∀ (s : State) (p : Proj) (row : Instr) (bit : Nat), s.resetHeld = false →
    let n := s.tb.field
    let lamp : Prop := row = .lampFail p ∧ bit = 3 ∧ .lampFail p ∈ s.due ∧ .runupTimeout p ∉ s.due
      ∧ (s.ch[p].state = .ready ∨ s.ch[p].state = .run) ∧ s.ch[p].lampFails = 2
    let lock : Prop := row = .missingEdge p ∧ bit = 6 ∧ .missingEdge p ∈ s.due ∧ s.ch[p].state = .run ∧ s.tr[p].lock = .locked
      ∧ s.tr[p].edgeDue = some (n - 2)
    let on : Prop := s.take.protectSet.getLsbD bit = true
    let request := turned s p
    let incomingArmed : Prop := ∃ (r : Rec) (rec : Record), s.eng.records[r] = some rec ∧ rec.b = p ∧ rec.state = .armed
    let outgoingLocked : Prop := ∃ (r : Rec) (rec : Record), s.eng.records[r] = some rec ∧ rec.a = p ∧ rec.state = .locked
    lamp ∨ lock →
      (InNoRecord s p → ¬on → ∃ t, exec row s = .next t ∧ t.take = s.take ∧ t.isl = s.isl)
      ∧ (on → s.onAir p = true → ¬incomingArmed → ¬outgoingLocked → ∃ t, exec row s = .next t
          ∧ t.take.protective = posted request s.take.safety none n ∧ Latched t (.proj p .protect)
          ∧ ∀ j : Isl, t.isl[j].commanded = s.isl[j].commanded ∧ t.isl[j].pending = s.isl[j].pending)
      ∧ (on → s.onAir p = false → ∃ t, exec row s = .next t ∧ t.take.protective = request
          ∧ ((∃ q ∈ s.take.protective, q.target = some p) → Latched t (.proj p .protect))
          ∧ ∀ j : Isl, t.isl[j].commanded = s.isl[j].commanded ∧ t.isl[j].pending = s.isl[j].pending)
      ∧ ∀ (r : Rec) (rec : Record), RecordsDisjoint s → s.eng.records[r] = some rec → rec.a = p →
          (rec.state = .armed ∨ rec.state = .starting ∨ rec.state = .cutting → lamp ∨ (on ∧ s.onAir p = true) →
            ∃ t, exec row s = .next t ∧ t.eng.records[r] = none ∧ t.take.slots[r] = none
              ∧ (s.line.queue.length ≤ 13 → changeNotice r rec .outgoingFailed n ∈ t.line.queue))
          ∧ (rec.state = .tailout → lamp → ∀ res, rec.result = some res →
            ∃ t, exec row s = .next t ∧ t.eng.records[r] = none
              ∧ (s.line.queue.length ≤ 13 → changeNotice r rec res n ∈ t.line.queue))
          ∧ (lock → rec.state = .tailout ∨ ¬on ∨ s.onAir p = false → ∃ t, exec row s = .next t ∧ t.eng = s.eng)
          ∧ ∀ (i : Isl) (port : Port), rec.state = .locked → on → s.onAir p = true → s.route[rec.b] = some (i, port) →
            ∃ t, exec row s = .next t ∧ Latched t (.proj p .protect) ∧ t.eng.records[r] = none ∧ t.take.slots[r] = none
              ∧ (s.line.queue.length ≤ 13 → changeNotice r rec .emergency n ∈ t.line.queue)
              ∧ (rec.method = .switch → t.take.protective = posted request s.isl[i].source (some rec.b) n
                  ∧ ∀ j : Isl, t.isl[j].commanded = s.isl[j].commanded)
              ∧ (rec.method = .mirror → t.take.protective = request ∧ t.isl[i].commanded = port
                  ∧ t.isl[i].pending = some ⟨port, n + BitVec.ofNat 32 (s.isl[i].travel + 8)⟩))
  ∧ ∀ (s : State) (m : Moment), s.resetHeld = false →
      let u := s.arrive m
      u.estop = false →
        (u.take.protectSet.getLsbD 5 = false → ∃ t, exec (.estopAsserted m) s = .next t ∧ t.take.protective = u.take.protective)
        ∧ (u.take.protectSet.getLsbD 5 = true →
            ((∃ p : Proj, u.onAir p = true) → ∃ t, exec (.estopAsserted m) s = .next t
              ∧ (∀ p : Proj, u.onAir p = true → Latched t (.proj p .protect))
              ∧ (u.take.protective = none → t.take.protective = some ⟨u.take.safety, none, u.tb.field, u.tb.field + 1⟩)
              ∧ ∀ q, u.take.protective = some q → t.take.protective = some { q with source := u.take.safety, target := none })
            ∧ ((∀ p : Proj, u.onAir p = false) → ∃ t, exec (.estopAsserted m) s = .next t
              ∧ t.take.protective = u.take.protective.map (fun q =>
                  if q.target = none then q else { q with source := u.take.safety, target := none })))

/-! ### Steps of the tracker that belong to a boundary (chapter 3) -/

/-- A pending lock at its declaring boundary makes the tracker LOCKED with the position (f, i, c) fixed for it and the edge due one
frame after the frame began (R54); a channel in RUNUP enters RUN with its douser open (R26), and a run-up from READY joins the
history as (U, D), its fields and its frames (R39, R40). -/
def Obligations.LockDeclaredBringsRun : Prop :=
  ∀ (s : State) (p : Proj) (q : PendingLock), s.resetHeld = false → .lockDeclared p ∈ s.due →
    s.tr[p].lock = .search → s.tr[p].pendingLock = some q → q.declare = s.tb.field →
    let t := s.tr[p]
    let c := s.ch[p]
    let locked : Tracker :=
      { t with
        lock := .locked, pos := some ⟨t.frame, q.i, q.c⟩, edgeDue := some (q.declare - BitVec.ofNat 32 q.i + BitVec.ofNat 32 q.c.len),
        slipWait := none, pendingLock := none, out := 0, run := 0, lastIn := none }
    let running : Channel :=
      { c with
        state := .run, douse := true, douseHeld := false, runup := none, lampFails := 0,
        record := c.record.map (fun x => { x with fromReady := false }) }
    (c.state ≠ .runup → exec (.lockDeclared p) s = .next
      { s with due := s.due.filter (fun d => d ≠ .lockDeclared p), tr := s.tr.set p locked })
    ∧ (c.state = .runup → (∀ x ∈ c.record, x.fromReady = false) → exec (.lockDeclared p) s = .next
      { s with
        due := s.due.filter (fun d => d ≠ .lockDeclared p), tr := s.tr.set p locked, ch := s.ch.set p running })
    ∧ ∀ x, c.state = .runup → c.record = some x → x.fromReady = true →
        let u : Int := fieldDiff s.tb.field x.startField
        let d : Int := t.frame - x.startFrame
        let pair : Nat × Nat := ((max 0 (min 1023 u)).toNat, (max 0 (min 255 d)).toNat)
        exec (.lockDeclared p) s = .next
          { s with
            due := s.due.filter (fun d => d ≠ .lockDeclared p)
            tr := s.tr.set p locked
            ch := s.ch.set p { running with
              history := if c.history.length < 8 then c.history ++ [pair] else c.history.tail ++ [pair] } }

/-- A slip correction at its boundary sets the position to frame g with its field in the frame and its step, and the frame count to g
(R57). When the count does not rise nothing else follows; when it rises by one it is a frame advance (R63): with no entry in the
list and no report due, and too few samples for the signature, the advance takes one sample and no more (R66 to R69). A match taken by
the cue store consumes the open MARK entry of lowest position and hands c = X - detected frame to the tracker, or is stray (R70, R72).
A correction c moves the frame count, the f of a pending lock and of the position and the g of a waiting slip correction by c and
counts; other than 0 it sets CORRECTED on a record of the projector whose cut field is fixed, and on no other (R73, R74, R75). -/
def Obligations.SlipCorrectionMovesFrame : Prop :=
  (∀ (s : State) (p : Proj) (w : SlipWait), s.resetHeld = false → .slipCorrection p ∈ s.due →
    s.tr[p].lock = .locked → s.tr[p].slipWait = some w → w.boundary = s.tb.field → -99999 ≤ w.g → w.g ≤ 999999 → InNoRecord s p →
    let moved : State :=
      { s with
        due := s.due.filter (fun d => d ≠ .slipCorrection p)
        tr := s.tr.set p { s.tr[p] with pos := some ⟨w.g, w.i, w.c⟩, frame := w.g, slipWait := none } }
    (w.g ≤ s.tr[p].frame → exec (.slipCorrection p) s = .next moved)
    ∧ (s.tr[p].frame < w.g → (s.ch[p].state = .runup ∨ s.ch[p].state = .run) → s.cues.lists[p] = [] → s.tr[p].period = 0 →
        s.det[p].history.length + 1 < s.det[p].sigLen → s.det[p].history.length < 8 → s.det[p].found = none →
        exec (.slipCorrection p) s = .next
          { moved with
            det := s.det.set p { s.det[p] with
              history := s.det[p].history ++ [s.det[p].latch], latch := s.pins.proj[p].cue } }))
  ∧ (∀ (s : State) (p : Proj) (detected : Int), s.cues.Whole →
      let list := s.cues.lists[p]
      let x := s.tr[p]
      ((∀ e ∈ list, ¬OpenAt e detected) → ∃ alarm line,
        s.takeMatch p detected = { s with
            tr := s.tr.set p { x with strayMarks := min 65535 (x.strayMarks + 1) }, alarm := alarm, line := line }
          ∧ (inQuiet x.quiet x.frame = true → alarm = s.alarm ∧ line = s.line)
          ∧ (inQuiet x.quiet x.frame = false → (alarm.get (.proj p .strayMark)).set = true))
      ∧ ∀ e ∈ list, OpenAt e detected → (∀ y ∈ list, OpenAt y detected → e.pos ≤ y.pos) →
          ∃ w : State, s.takeMatch p detected = w.applyCorrection p ((e.pos : Int) - detected)
            ∧ w.cues.lists = s.cues.lists.set p (list.filter (fun y => y.number ≠ e.number)) ∧ w.cues.free = s.cues.free + 1
            ∧ w.tr = s.tr ∧ w.det = s.det ∧ w.eng = s.eng ∧ w.take = s.take ∧ w.isl = s.isl
            ∧ (∀ q : Proj, w.ch[q] = { s.ch[q] with mode := w.ch[q].mode })
            ∧ (s.line.queue.length < 16 →
                .cue ⟨p, e.number, .mark, e.pos, .matched, (e.pos : Int) - detected, s.tb.field, x.frame⟩ ∈ w.line.queue))
  ∧ ∀ (s : State) (p : Proj) (c : Int), RecordsDisjoint s → -99999 ≤ s.tr[p].frame + c → s.tr[p].frame + c ≤ 999999 →
      (∀ q ∈ s.tr[p].pos, q.f = s.tr[p].frame) → (∀ q ∈ s.tr[p].pendingLock, q.f = s.tr[p].frame) →
      (∀ (r : Rec) (rec : Record), s.eng.records[r] = some rec → rec.a = p → rec.state ≠ .tailout) →
      (c ≤ 0 ∨ s.cues.lists[p] = []) →
      let x := s.tr[p]
      let v := s.applyCorrection p c
      v.tr = s.tr.set p { x with
          frame := x.frame + c
          pendingLock := x.pendingLock.map (fun q => { q with f := q.f + c })
          pos := x.pos.map (fun q => { q with f := q.f + c })
          slipWait := x.slipWait.map (fun w => { w with g := w.g + c })
          corrections := min 65535 (x.corrections + 1) }
      ∧ v.det = s.det ∧ v.cues = s.cues ∧ v.ch = s.ch ∧ v.take = s.take ∧ v.isl = s.isl ∧ v.tb = s.tb ∧ v.due = s.due
      ∧ ∀ (r : Rec) (rec : Record), s.eng.records[r] = some rec →
          v.eng.records[r] = some (if c ≠ 0 ∧ (rec.a = p ∨ rec.b = p) ∧ (rec.state = .locked ∨ rec.state = .cutting ∨ rec.state = .tailout)
            then { rec with flags := { rec.flags with corrected := true } } else rec)

/-- Two boundaries after the edge due with no edge the tracker loses lock: it returns to SEARCH with its frame count kept (R58, R59).
A channel in RUN goes back to RUNUP with its douser held open and its run-up timer started, and LOCK_LOST is latched (R27). -/
def Obligations.MissingEdgeLosesLock : Prop :=
  ∀ (s : State) (p : Proj) (d : Field), s.resetHeld = false → .missingEdge p ∈ s.due →
    s.tr[p].lock = .locked → s.tr[p].edgeDue = some d → s.tb.field = d + 2 →
    (s.ch[p].state ≠ .run → exec (.missingEdge p) s = .next
      { s with due := s.due.filter (fun x => x ≠ .missingEdge p), tr := s.tr.set p (lostLock s.tr[p]) })
    ∧ (s.ch[p].state = .run → ∃ t, exec (.missingEdge p) s = .next t
        ∧ t.tr = s.tr.set p (lostLock s.tr[p])
        ∧ t.ch = s.ch.set p { s.ch[p] with
            state := .runup, douseHeld := true, runup := some ⟨s.tb.field, 0, s.ch[p].config.runupLimit⟩, lampFails := 0,
            record := s.ch[p].record.map (fun x => { x with fromReady := false }) }
        ∧ Latched t (.proj p .lockLost)
        ∧ (s.take.protectSet.getLsbD 6 = false → t.take = s.take ∧ t.eng = s.eng ∧ t.isl = s.isl)
        ∧ t.cues = s.cues ∧ t.det = s.det ∧ t.route = s.route ∧ t.tb = s.tb ∧ SameSettings s t)

/-! ### Mirrors (chapter 5) -/

/-- A mirror command whose port is settled is complete: it is no longer pending, and the mismatch condition clears when the mirror
stands at the commanded port (R83, R85). A command not settled at its deadline fails: it is no longer pending, the mismatch
condition is set, MIRROR_MISMATCH is latched (R84), and the claiming record before TAILOUT ends MIRROR_FAIL (R155). -/
def Obligations.MirrorCompletesOrFails : Prop :=
  ∀ (s : State) (i : Isl) (cmd : MirrorCmd), s.resetHeld = false → s.isl[i].pending = some cmd →
    (.mirrorComplete i ∈ s.due → s.isl[i].settled = some cmd.port →
      (∀ r rec, s.isl[i].claim = some r → s.eng.records[r] = some rec → rec.state ≠ .cutting) →
      exec (.mirrorComplete i) s = .next
        { s with
          due := s.due.filter (fun d => d ≠ .mirrorComplete i)
          isl := s.isl.set i { s.isl[i] with
            pending := none, mismatch := s.isl[i].mismatch && !decide (s.isl[i].settled = some s.isl[i].commanded) } })
    ∧ (.mirrorDeadline i ∈ s.due → s.isl[i].settled ≠ some cmd.port → fieldDiff cmd.deadline s.tb.field ≤ 0 →
      ∃ t, exec (.mirrorDeadline i) s = .next t
        ∧ t.isl[i].pending = none ∧ t.isl[i].mismatch = true ∧ t.isl[i].commanded = s.isl[i].commanded
        ∧ Latched t (.isl i .mirrorMismatch)
        ∧ (s.isl[i].claim = none → t.eng = s.eng ∧ t.take = s.take ∧ t.isl = s.isl.set i { s.isl[i] with pending := none, mismatch := true })
        ∧ (∀ r rec, s.isl[i].claim = some r → s.eng.records[r] = some rec → rec.state ≠ .tailout →
            t.eng = { s.eng with records := s.eng.records.set r none } ∧ t.isl[i].claim = none
              ∧ (s.line.queue.length ≤ 14 → changeNotice r rec .mirrorFail s.tb.field ∈ t.line.queue))
        ∧ t.ch = s.ch ∧ t.tr = s.tr ∧ t.det = s.det ∧ t.cues = s.cues ∧ t.route = s.route ∧ t.tb = s.tb)

/-! ### Takes (chapter 6) -/

/-- The arbitration grants the protective request first, then the due changeover request of highest priority and lowest index, then the
host request, the last two only at a boundary made in SYNC (R92). The grant puts the source on TSRC, asserts TAKE, records the last
take and opens a confirmation window (R93, R97); every due changeover request that is not granted counts a deferral (R94). The granted
record makes its cut with the deferrals of its request (R95, R153): it enters TAILOUT, or ends at once with tail-out KEEP or at its stop
point (R156, R157), and the other records stand. That every occupied slot belongs to a SWITCH record in CUTTING is an invariant that
every step keeps (SlotsFitRecords). -/
def Obligations.TakeGrantFollowsRank : Prop :=
  ∀ (s : State), s.resetHeld = false → .takeGrant ∈ s.due → .windowJudged ∉ s.due →
    let n := s.tb.field
    let ready (posted due : Field) : Prop := fieldDiff posted n < 0 ∧ fieldDiff due n ≤ 0
    let slotReady (x : Rec) : Prop := ∃ q, s.take.slots[x] = some q ∧ ready q.posted q.due
    let granted (t : State) (source : Source) (origin : Origin) : Prop :=
      t.take.tsrc = source ∧ t.take.strobe = true ∧ t.take.last = some ⟨n, source, origin⟩
        ∧ t.take.safety = s.take.safety ∧ t.take.protectSet = s.take.protectSet
        ∧ (∃ w, t.take.window = some w ∧ w.take = n
            ∧ ((∀ x y : Isl, s.isl[x].source = s.isl[y].source → x = y) → ∀ i : Isl,
                w.target = some i ↔ s.isl[i].source = source ∧ source ≠ s.take.safety)
            ∧ ∀ i : Isl, (w.target = some i → s.isl[i].source = source ∧ source ≠ s.take.safety)
              ∧ (w.previous[i] = true ↔ s.isl[i].tallyBefore = true ∧ w.target ≠ some i))
        ∧ (∀ (x : Rec) (q : ChangeReq), s.take.slots[x] = some q → origin ≠ .record x →
            t.take.slots[x] = some (if decide (fieldDiff q.posted n < 0) && decide (fieldDiff q.due n ≤ 0) then
              { q with deferrals := min 255 (q.deferrals + 1) } else q))
    (∀ q, s.take.protective = some q → ready q.posted q.due →
      ∃ t, exec .takeGrant s = .next t ∧ granted t q.source .protective ∧ t.take.protective = none ∧ t.take.host = s.take.host
        ∧ t.eng = s.eng ∧ t.isl = s.isl ∧ t.ch = s.ch ∧ t.tr = s.tr)
    ∧ ((∀ q ∈ s.take.protective, ¬ready q.posted q.due) → s.tb.madeInSync = true → (∀ x, ¬slotReady x) →
      ∀ q, s.take.host = some q → ready q.posted q.due →
        ∃ t, exec .takeGrant s = .next t ∧ granted t q.source .host ∧ t.take.host = none
          ∧ t.take.protective = s.take.protective ∧ t.eng = s.eng ∧ t.isl = s.isl ∧ t.ch = s.ch ∧ t.tr = s.tr)
    ∧ ((∀ q ∈ s.take.protective, ¬ready q.posted q.due) → s.tb.madeInSync = true → SlotsFitRecords s → RecordsDisjoint s →
      ∀ (r : Rec) (q : ChangeReq), s.take.slots[r] = some q → ready q.posted q.due →
        (∀ (x : Rec) (qx : ChangeReq), s.take.slots[x] = some qx → ready qx.posted qx.due → x ≠ r →
          qx.priority < q.priority ∨ (qx.priority = q.priority ∧ r < x)) →
        ∃ t rec, s.eng.records[r] = some rec ∧ exec .takeGrant s = .next t ∧ granted t q.source (.record r)
          ∧ t.take.slots[r] = none ∧ t.take.protective = s.take.protective ∧ t.take.host = s.take.host
          ∧ (∀ x : Rec, x ≠ r → t.eng.records[x] = s.eng.records[x]) ∧ t.eng.horizon = s.eng.horizon
          ∧ (∀ i : Isl, t.isl[i] = { s.isl[i] with claim := if s.isl[i].claim = some r then none else s.isl[i].claim })
          ∧ (∀ x : Nat, rec.tailOut = some x → s.tr[rec.a].frame < rec.p + x →
              t.eng.records[r] = some { rec with
                state := .tailout, cutMade := some n, deferrals := q.deferrals,
                flags := { rec.flags with unlockedAtCut := rec.flags.unlockedAtCut || (s.fieldPos rec.b).isNone } }
              ∧ t.ch = s.ch ∧ t.tr = s.tr)
          ∧ (rec.tailOut = none → t.eng.records[r] = none ∧ t.ch = s.ch ∧ t.tr = s.tr)
          ∧ (∀ x : Nat, rec.tailOut = some x → (rec.p : Int) + x ≤ s.tr[rec.a].frame →
              t.eng.records[r] = none ∧ (s.estop = false → t.ch = s.ch.set rec.a (stopTable s.ch[rec.a]))))

/-- The cut of a record in CUTTING is made at the boundary of the grant of its take (R95, R153) or of its mirror's completion (R155):
the record enters TAILOUT with that field as the cut made, UNLOCKED_AT_CUT when its incoming projector has no position for the field,
and its claims released (R156). A record with tail-out KEEP ends there with the result of its lock decision. At the stop point P plus the
tail-out, be it at the cut, at a slip correction, at a SEARCH edge or at a carry with the motor off (at a boundary's frame advance
PulseInSyncIsBoundary says the same), the record ends with that result and the projector is given STOP (R157). A LOOP_LOSS of the cut's
boundary may come on either side of it (R158, R159): in the plain order it ends the record in CUTTING, which makes no cut; where the
order of the event has the arbitration or the mirror's completion come first the record enters TAILOUT, which a fault on the incoming
projector does not end. The position for the field is the one of assumption 11, the order an operand (assumptions 9 and 29). -/
def Obligations.CutMadeEntersTailout : Prop :=
  (∀ (s : State) (r : Rec) (rec : Record), s.resetHeld = false → .windowJudged ∉ s.due →
    s.eng.records[r] = some rec → rec.state = .cutting →
    let n := s.tb.field
    let entered (deferrals : Nat) : Record :=
      { rec with
        state := .tailout, cutMade := some n, deferrals := deferrals,
        flags := { rec.flags with unlockedAtCut := rec.flags.unlockedAtCut || (s.fieldPos rec.b).isNone } }
    let cut (t : State) (deferrals : Nat) : Prop :=
      (∀ i : Isl, t.isl[i].claim ≠ some r) ∧ t.ch = s.ch ∧ t.tr = s.tr
        ∧ (∀ x, rec.tailOut = some x → s.tr[rec.a].frame < rec.p + x →
            t.eng.records = s.eng.records.set r (some (entered deferrals)) ∧ t.line.queue = s.line.queue)
        ∧ (rec.tailOut = none → t.eng.records = s.eng.records.set r none
            ∧ ∀ res, rec.result = some res → s.line.queue.length < 16 →
                t.line.queue = s.line.queue ++ [changeNotice r (entered deferrals) res n])
    let stays : Prop := ∀ x, rec.tailOut = some x → s.tr[rec.a].frame < rec.p + x
    (∀ q, stays → .takeGrant ∈ s.due → s.take.protective = none → s.tb.madeInSync = true → s.take.slots[r] = some q →
        fieldDiff q.posted n < 0 → fieldDiff q.due n ≤ 0 → (∀ x : Rec, x ≠ r → s.take.slots[x] = none) →
        ∃ t, exec .takeGrant s = .next t ∧ cut t q.deferrals ∧ t.take.tsrc = q.source ∧ t.take.strobe = true)
    ∧ ∀ (i : Isl) (cmd : MirrorCmd), stays → .mirrorComplete i ∈ s.due → s.isl[i].claim = some r →
        s.isl[i].pending = some cmd → s.isl[i].settled = some cmd.port →
        ∃ t, exec (.mirrorComplete i) s = .next t ∧ cut t rec.deferrals ∧ t.isl[i].pending = none)
    ∧ (∀ (s : State) (r : Rec) (rec : Record) (x : Nat) (res : Result), s.resetHeld = false → s.estop = false → RecordsDisjoint s →
        s.eng.records[r] = some rec → rec.tailOut = some x → rec.result = some res → s.line.queue.length < 16 →
        let a := rec.a
        let n := s.tb.field
        let ended (t : State) (cut : Record) : Prop :=
          t.eng.records = s.eng.records.set r none ∧ t.ch = s.ch.set a (stopTable s.ch[a])
            ∧ t.line.queue = s.line.queue ++ [changeNotice r cut res n] ∧ t.take.slots[r] = none
        (∀ q : ChangeReq, rec.state = .cutting → (rec.p : Int) + x ≤ s.tr[a].frame → .takeGrant ∈ s.due → .windowJudged ∉ s.due →
            s.take.protective = none → s.tb.madeInSync = true → s.take.slots[r] = some q → requestReady q.posted q.due n →
            (∀ y : Rec, y ≠ r → s.take.slots[y] = none) →
            ∃ t, exec .takeGrant s = .next t ∧ t.take.tsrc = q.source ∧ t.take.strobe = true
              ∧ ended t { rec with
                  state := .tailout, cutMade := some n, deferrals := q.deferrals,
                  flags := { rec.flags with unlockedAtCut := rec.flags.unlockedAtCut || (s.fieldPos rec.b).isNone } })
        ∧ (∀ (i : Isl) (cmd : MirrorCmd), rec.state = .cutting → (rec.p : Int) + x ≤ s.tr[a].frame → .mirrorComplete i ∈ s.due →
            s.isl[i].claim = some r → s.isl[i].pending = some cmd → s.isl[i].settled = some cmd.port →
            ∃ t, exec (.mirrorComplete i) s = .next t
              ∧ ended t { rec with
                  state := .tailout, cutMade := some n,
                  flags := { rec.flags with unlockedAtCut := rec.flags.unlockedAtCut || (s.fieldPos rec.b).isNone } })
        ∧ ∀ w : SlipWait, rec.state = .tailout → .slipCorrection a ∈ s.due → s.tr[a].lock = .locked → s.tr[a].slipWait = some w →
            w.boundary = n → -99999 ≤ w.g → w.g ≤ 999999 → s.cues.lists[a] = [] → s.tr[a].period = 0 →
            s.det[a].history.length + 1 < s.det[a].sigLen → s.det[a].found = none →
            ((rec.p : Int) + x ≤ w.g → ∃ t, exec (.slipCorrection a) s = .next t ∧ ended t rec)
            ∧ (w.g < (rec.p : Int) + x → ∃ t, exec (.slipCorrection a) s = .next t ∧ t.eng = s.eng ∧ t.ch = s.ch))
    ∧ (∀ (s : State) (m : Moment) (r : Rec) (rec : Record) (x : Nat) (res : Result), s.resetHeld = false → s.due = [] →
        let u := s.arrive m
        let a := rec.a
        let y := u.tr[a]
        let gauge := u.ch[a].config.gauge.perfs
        let checked := checkedEdge gauge y
        let ended (t : State) : Prop :=
          t.eng.records = u.eng.records.set r none ∧ t.take.slots[r] = none
            ∧ t.line.queue = u.line.queue ++ [changeNotice r rec res u.tb.field]
        u.estop = false → RecordsDisjoint u → u.eng.records[r] = some rec → rec.state = .tailout → rec.tailOut = some x →
        rec.result = some res → u.line.queue.length < 16 → y.frame < 999999 → u.cues.lists[a] = [] → y.period = 0 →
        u.det[a].found = none → u.det[a].history.length + 1 < u.det[a].sigLen → u.det[a].history.length < 8 →
          (y.motor = true → y.lock = .search → (y.interval = none ∨ y.interval = some gauge) → checked.empty < 3 →
            (u.ch[a].state = .runup ∨ u.ch[a].state = .run) →
              ((rec.p : Int) + x ≤ y.frame + 1 → ∃ t, exec (.shutterEdge m a) s = .next t ∧ ended t
                ∧ t.ch = u.ch.set a (stopTable u.ch[a]) ∧ t.tr = u.tr.set a (stopped { checked with frame := y.frame + 1 }))
              ∧ (y.frame + 1 < (rec.p : Int) + x → ∃ t, exec (.shutterEdge m a) s = .next t ∧ t.eng = u.eng ∧ t.ch = u.ch))
          ∧ (y.motor = false → m.pins.proj[a].forward = true → gauge ≤ y.phase + 1 → AtRest u.ch[a] ∨ u.ch[a].state = .coast ∨
              u.ch[a].state = .inch →
              ((rec.p : Int) + x ≤ y.frame + 1 → ∃ t, exec (.perfPulse m a) s = .next t ∧ ended t
                ∧ t.ch = u.ch.set a (stopTable { u.ch[a] with still := 0 }) ∧ t.tr[a].frame = y.frame + 1)
              ∧ (y.frame + 1 < (rec.p : Int) + x → ∃ t, exec (.perfPulse m a) s = .next t ∧ t.eng = u.eng
                ∧ t.ch = u.ch.set a { u.ch[a] with still := 0 })))
    ∧ ∀ (s : State) (m : Moment) (r : Rec) (rec : Record) (y : Proj) (w : Nat), s.resetHeld = false →
        let u := s.arrive m
        let n := u.tb.field + 1
        let a := rec.a
        u.tb.state = .sync → u.due = [] → u.eng.records = (Vector.replicate 4 none).set r (some rec) → rec.state = .cutting →
        rec.tailOut = some w → u.tr[a].frame + 1 < (rec.p : Int) + w → (∀ q ∈ u.tr[a].pos, q.f = u.tr[a].frame) → a ≠ rec.b →
        (∀ p : Proj, u.cues.lists[p] = []) → u.take.protective = none → u.take.host = none → y = a ∨ y = rec.b →
        (∀ p : Proj, u.pins.proj[p].tail = false ∧ (u.pins.proj[p].loop = true ↔ p = y)) → u.ch[y].state = .run →
        (∀ x ∈ u.ch[y].record, x.startField ≠ n) →
        let cutFirst (t : State) : Prop := t.ch[y].state = .fault ∧ t.ch[y].cause = .loopLoss
          ∧ (y = a → t.eng.records[r] = none)
          ∧ (y = rec.b → ∃ cut : Record, t.eng.records[r] = some cut ∧ cut.state = .tailout ∧ cut.cutMade = some n)
        let faultFirst (t : State) : Prop := t.ch[y].state = .fault ∧ t.ch[y].cause = .loopLoss
          ∧ t.eng.records[r] = none ∧ t.take.slots[r] = none ∧ t.take.tsrc = u.take.tsrc
        (∀ q : ChangeReq, (∀ i : Isl, u.isl[i].claim ≠ some r) → u.take.slots = (Vector.replicate 4 none).set r (some q) →
            requestReady q.posted q.due n →
            (∃ t, exec (.fldPulse m ⟨[]⟩) s = .next t ∧ faultFirst t ∧ .takeGrant ∉ t.due)
            ∧ ∃ t, exec (.fldPulse m ⟨[.take]⟩) s = .next t ∧ cutFirst t
                ∧ t.take.tsrc = q.source ∧ t.take.strobe = true ∧ t.take.last = some ⟨n, q.source, .record r⟩)
        ∧ ∀ (i : Isl) (cmd : MirrorCmd), u.take.slots = Vector.replicate 4 none → (∀ j : Isl, u.isl[j].claim = some r ↔ j = i) →
            u.isl[i].pending = some cmd → u.isl[i].reading = some u.pins.isl[i].mpos → u.pins.isl[i].mpos.val = cmd.port.val →
            (∃ t, exec (.fldPulse m ⟨[]⟩) s = .next t ∧ faultFirst t)
            ∧ ∃ t, exec (.fldPulse m ⟨[.islands, .step (.mirrorComplete i)]⟩) s = .next t ∧ cutFirst t ∧ t.isl[i].pending = none

/-- The TAKE strobe drops one field after its take (R93). A window is judged at the fifth boundary after its take: the target island
must have shown its tally in a field of the window, and each island of the previous set must have shown its tally gone; an island that
fails has TAKE_UNCONFIRMED latched or counted, and the window closes (R97). -/
def Obligations.StrobeDropsWindowJudged : Prop :=
  ∀ (s : State), s.resetHeld = false →
    (.strobeDrop ∈ s.due → exec .takeStrobeDrop s = .next
      { s with due := s.due.filter (fun d => d ≠ .strobeDrop), take := { s.take with strobe := false } })
    ∧ ∀ w, .windowJudged ∈ s.due → s.take.window = some w →
        let failed (i : Isl) : Prop := (w.target = some i ∧ w.seenOn = false) ∨ (w.previous[i] = true ∧ w.seenOff[i] = false)
        ((∀ i, ¬failed i) → exec .takeWindowJudged s = .next
          { s with due := s.due.filter (fun d => d ≠ .windowJudged), take := { s.take with window := none } })
        ∧ ∃ alarm line, exec .takeWindowJudged s = .next
            { s with
              due := s.due.filter (fun d => d ≠ .windowJudged), take := { s.take with window := none }
              alarm := alarm, line := line }
          ∧ ∀ i : Isl,
              (failed i → (alarm.get (.isl i .takeUnconfirmed)).set = true)
              ∧ (¬failed i → alarm.get (.isl i .takeUnconfirmed) = s.alarm.get (.isl i .takeUnconfirmed))

/-! ### Changeovers (chapters 8 and 9) -/

/-- An armed record whose outgoing projector has a position for the field is started when its reach of P is at or below the lead (R137):
the incoming channel, when in READY, enters RUNUP and the record STARTING with this field as the start field; a channel that refuses
ends the record INCOMING_FAILED (R138). Above the lead, or without a position (R140), nothing happens. The position for the field
is the one of assumption 11. -/
def Obligations.ChangeoverStartFollowsReach : Prop :=
  ∀ (s : State) (r : Rec) (rec : Record), s.resetHeld = false → .changeoverStart r ∈ s.due →
    s.eng.records[r] = some rec → rec.state = .armed →
    let n := s.tb.field
    let b := rec.b
    let v : State := { s with due := s.due.filter (fun d => d ≠ .changeoverStart r) }
    (s.fieldPos rec.a = none → exec (.changeoverStart r) s = .next v)
    ∧ ∀ q, s.fieldPos rec.a = some q →
        ((rec.lead : Int) < q.reach rec.p → exec (.changeoverStart r) s = .next v)
        ∧ (q.reach rec.p ≤ rec.lead → s.estop = false → s.ch[b].state = .ready →
            (∀ e ∈ s.cues.lists[b], s.tr[b].frame ≤ e.pos) → s.tr[b].phase = 0 →
            exec (.changeoverStart r) s = .next
              { v with
                ch := s.ch.set b (started s.ch[b] n s.tr[b].frame)
                tr := s.tr.set b (searching s.tr[b])
                eng := { s.eng with
                  records := s.eng.records.set r (some { rec with state := .starting, startField := some n }) } })
        ∧ (q.reach rec.p ≤ rec.lead → s.estop = true ∨ s.ch[b].state ≠ .ready → s.line.queue.length < 16 →
            ∃ t, exec (.changeoverStart r) s = .next t ∧ Ended s t r rec .incomingFailed ∧ t.ch = s.ch ∧ t.tr = s.tr)

/-- The lock decision (R146 to R149): E is the reach of Q by the incoming projector less the reach of P by the outgoing one, and with
the tolerance T, the late policy and the hold margin H it gives the planned cut field and the result by the table of R148.
CADENCE_BREAK is set when the step of Q differs from the step of P. The record is LOCKED and its cut test waits. ABANDON makes no
plan: CHANGE_ABANDONED is latched on the outgoing projector, the record ends and the incoming projector coasts. The positions for the field are those of assumption 11. -/
def Obligations.LockDecisionFollowsTable : Prop :=
  ∀ (s : State) (r : Rec) (rec : Record) (qa qb : Pos), s.resetHeld = false → .lockDecision r ∈ s.due →
    s.eng.records[r] = some rec → rec.state = .starting → s.tr[rec.a].lock = .locked → s.tr[rec.b].lock = .locked →
    s.fieldPos rec.a = some qa → s.fieldPos rec.b = some qb →
    let n := s.tb.field
    let reachA := qa.reach rec.p
    let reachB := qb.reach rec.q
    let e := reachB - reachA
    let h : Int := rec.margin
    let broken := rec.flags.cadenceBreak || decide (qb.stepOf rec.q ≠ qa.stepOf rec.p)
    let decided (k : Int) (res : Result) : Prop :=
      exec (.lockDecision r) s = .next
        { s with
          due := s.due.filter (fun d => d ≠ .lockDecision r) ++ [match rec.method with | .switch => .switchCut r | .mirror => .mirrorCut r]
          eng := { s.eng with
            records := s.eng.records.set r (some { rec with
              state := .locked, e := some e, flags := { rec.flags with cadenceBreak := broken },
              planned := some (n + BitVec.ofInt 32 k), result := some res }) } }
    (|e| ≤ rec.tolerance → decided reachA .onTime)
    ∧ (e < -(rec.tolerance : Int) → decided reachA .early)
    ∧ ((rec.tolerance : Int) < e → rec.policy = .cutOnTime → decided reachA .lateCut)
    ∧ ((rec.tolerance : Int) < e → rec.policy = .hold → e ≤ h → decided reachB .held)
    ∧ ((rec.tolerance : Int) < e → rec.policy = .hold → h < e → decided (reachA + h) .heldShort)
    ∧ ((rec.tolerance : Int) < e → rec.policy = .abandon →
        ∃ t, exec (.lockDecision r) s = .next t
          ∧ t.eng.records[r] = none ∧ Latched t (.proj rec.a .changeAbandoned) ∧ t.take.slots[r] = none
          ∧ (s.line.queue.length ≤ 14 →
              changeNotice r { rec with e := some e, flags := { rec.flags with cadenceBreak := broken } } .abandoned n ∈ t.line.queue)
          ∧ (s.estop = false → t.ch = s.ch.set rec.b (stopTable s.ch[rec.b])))

/-- The cut tests of a LOCKED record. SWITCH: one field before the planned cut its request is posted to the slot of the record, due at
the planned field, and the record is CUTTING (R152). MIRROR: a travel time before the planned cut the mirror is commanded, with the
lateness as the deferrals, and the record is CUTTING (R154). An incoming projector that is not in RUN or RUNUP by then ends the
record INCOMING_FAILED. Earlier, nothing happens. -/
def Obligations.CutTestsFollowPlan : Prop :=
  ∀ (s : State) (r : Rec) (rec : Record) (planned : Field) (i : Isl) (port : Port), s.resetHeld = false →
    s.eng.records[r] = some rec → rec.state = .locked → rec.planned = some planned → s.route[rec.b] = some (i, port) →
    let n := s.tb.field
    let runs : Prop := s.ch[rec.b].state = .runup ∨ s.ch[rec.b].state = .run
    (.switchCut r ∈ s.due → rec.method = .switch →
      let v : State := { s with due := s.due.filter (fun d => d ≠ .switchCut r) }
      (1 < fieldDiff planned n → exec (.switchCutPost r) s = .next v)
      ∧ (fieldDiff planned n ≤ 1 → runs → exec (.switchCutPost r) s = .next
          { v with
            take := { s.take with slots := s.take.slots.set r (some ⟨s.isl[i].source, rec.priority, n, planned, 0⟩) }
            eng := { s.eng with records := s.eng.records.set r (some { rec with state := .cutting }) } })
      ∧ (fieldDiff planned n ≤ 1 → ¬runs → s.line.queue.length < 16 →
          ∃ t, exec (.switchCutPost r) s = .next t ∧ Ended s t r rec .incomingFailed ∧ t.ch = s.ch ∧ t.tr = s.tr))
    ∧ (.mirrorCut r ∈ s.due → rec.method = .mirror → s.isl[i].claim = some r → (∀ j : Isl, s.isl[j].claim = some r → j = i) →
      let v : State := { s with due := s.due.filter (fun d => d ≠ .mirrorCut r) }
      let late := fieldDiff n (planned - BitVec.ofNat 32 s.isl[i].travel)
      (0 < fieldDiff (planned - BitVec.ofNat 32 s.isl[i].travel) n → exec (.mirrorCut r) s = .next v)
      ∧ (fieldDiff (planned - BitVec.ofNat 32 s.isl[i].travel) n ≤ 0 → runs → exec (.mirrorCut r) s = .next
          { v with
            due := (v.due.filter (fun d => d ≠ .mirrorComplete i)).filter (fun d => d ≠ .mirrorDeadline i)
            isl := s.isl.set i { s.isl[i] with
              commanded := port, pending := some ⟨port, n + BitVec.ofNat 32 (s.isl[i].travel + 8)⟩ }
            eng := { s.eng with
              records := s.eng.records.set r (some { rec with
                state := .cutting, deferrals := (max 0 (min 255 late)).toNat }) } })
      ∧ (fieldDiff (planned - BitVec.ofNat 32 s.isl[i].travel) n ≤ 0 → ¬runs → s.line.queue.length < 16 →
          ∃ t, exec (.mirrorCut r) s = .next t ∧ Ended s t r rec .incomingFailed ∧ t.ch = s.ch ∧ t.tr = s.tr))

/-- An arming attempt on a projector in RUN and AUTO takes the first CHANGE entry ahead within the horizon through the checks of R131 in
order (R130): a table with no FREE record, a projector of the pair in a record, an incoming projector unrouted or not in READY, an
island with a claim or a tally asserted for the field fail it and change nothing; an incoming film already past its start has the entry
consumed NO_PREROLL and CHANGE_MISSED latched (R132). Otherwise the entry is consumed ARMED and the record filled (R133), by MIRROR with
the island's claim or by SWITCH, with the lead U + cad(N, step) (R134). Above the lead the record waits in ARMED; at the lead the
incoming projector is started at once; below it LATE_START is set and it is started, or under ABANDON the record ends LATE with
CHANGE_ABANDONED latched (R139). Every boundary makes the attempt: in SYNC the station pulse arms from the position of the field that
it begins. The order of the attempts is the operand of assumption 9, the position for the field that of assumption 11. -/
def Obligations.ArmingFollowsChecks : Prop :=
  (∀ (s : State) (a : Proj) (q : Pos) (e : CueEntry) (part : ChangePart), s.cues.Whole →
    s.ch[a].state = .run → s.ch[a].mode = .auto → s.fieldPos a = some q →
    e ∈ s.cues.lists[a] → e.kind = .change part → q.f < e.pos →
    (∀ x ∈ s.cues.lists[a], q.f < x.pos → x.pos < e.pos → x.kind.tag ≠ .change) →
    let b := part.incoming
    let v := s.armAttempt a
    let n := s.tb.field
    let nB : Int := part.target - s.tr[b].frame - s.ch[b].dEff
    let reach := q.reach e.pos
    let taken : Prop := v.cues.lists[a] = s.cues.lists[a].filter (fun x => x.number ≠ e.number)
    let fails : Prop := v = s
    ((s.eng.horizon : Int) < e.pos - q.f → fails)
    ∧ ((∀ x : Rec, s.eng.records[x] ≠ none) → fails)
    ∧ (¬InNoRecord s a ∨ s.route[b] = none ∨ s.ch[b].state ≠ .ready ∨ ¬InNoRecord s b → fails)
    ∧ ∀ r : Rec, (e.pos : Int) - q.f ≤ s.eng.horizon → s.eng.records[r] = none → (∀ x : Rec, x < r → s.eng.records[x] ≠ none) →
        InNoRecord s a → InNoRecord s b → s.ch[b].state = .ready →
        (nB < 0 → s.route[b] ≠ none → v.eng = s.eng ∧ v.isl = s.isl ∧ Latched v (.proj a .changeMissed) ∧ taken)
        ∧ ∀ (i : Isl) (port : Port), 0 ≤ nB → s.route[b] = some (i, port) →
            ((∀ method, ¬MethodFor s a i method) → fails)
            ∧ ∀ method, MethodFor s a i method →
                let filled := armedRecord s a q e part method
                let claims (claim : Option Rec) : Prop := v.isl = s.isl.set i { s.isl[i] with
                  claim := if method = .mirror then claim else s.isl[i].claim }
                let holds (rec : Record) : Prop := v.eng = { s.eng with records := s.eng.records.set r (some rec) }
                ((filled.lead : Int) < reach → holds filled ∧ claims (some r) ∧ v.tr = s.tr ∧ taken ∧ v.cues.free = s.cues.free + 1)
                ∧ (reach ≤ filled.lead → reach = filled.lead ∨ part.policy ≠ .abandon → s.estop = false →
                    s.tr[b].phase = 0 → (∀ x ∈ s.cues.lists[b], s.tr[b].frame ≤ x.pos) →
                    holds { filled with
                      state := .starting, startField := some n, flags := { filled.flags with lateStart := decide (reach < filled.lead) } }
                    ∧ claims (some r) ∧ v.ch[b] = started s.ch[b] n s.tr[b].frame ∧ v.tr = s.tr.set b (searching s.tr[b]) ∧ taken)
                ∧ (reach < filled.lead → part.policy = .abandon → (∀ j : Isl, s.isl[j].claim ≠ some r) →
                    v.eng = s.eng ∧ v.isl = s.isl ∧ v.tr = s.tr ∧ v.take.slots[r] = none ∧ taken
                    ∧ Latched v (.proj a .changeAbandoned)
                    ∧ (s.line.queue.length ≤ 12 →
                        changeNotice r { filled with flags := { filled.flags with lateStart := true } } .late n ∈ v.line.queue)))
  ∧ ∀ (s : State) (m : Moment) (o : BoundaryOrder) (a : Proj) (q : Pos) (e : CueEntry) (part : ChangePart) (i : Isl) (port : Port)
      (method : Method), s.resetHeld = false → MovesBlocksAlone o →
      let u := s.arrive m
      let q' : Pos := if q.i + 1 < q.c.len then { q with i := q.i + 1 } else ⟨q.f + 1, 0, q.c.flip⟩
      let b := part.incoming
      let filled := armedRecord u a q' e part method
      u.due = [] → u.tb.state = .sync → (∀ x : Rec, u.eng.records[x] = none) → u.cues.lists[a] = [e] → e.kind = .change part →
      (∀ x : Proj, x ≠ a → u.cues.lists[x] = []) →
      (∀ x : Proj, u.pins.proj[x].loop = false ∧ u.pins.proj[x].tail = false) →
      u.ch[a].state = .run → u.ch[a].mode = .auto → u.tr[a].lock = .locked → u.tr[a].pos = some q → q.f = u.tr[a].frame →
      u.tr[a].slipWait = none → u.tr[a].frame < 999999 → (∀ d, u.tr[a].edgeDue = some d → u.tb.field + 1 ≠ d + 2) →
      q'.f < e.pos → (e.pos : Int) - q'.f ≤ u.eng.horizon → a ≠ b → u.ch[b].state = .ready → u.tr[b].lock = .unlocked →
      u.route[b] = some (i, port) → 0 ≤ (part.target : Int) - u.tr[b].frame - u.ch[b].dEff → MethodFor u a i method →
      (filled.lead : Int) < q'.reach e.pos →
      ∃ t, exec (.fldPulse m o) s = .next t ∧ t.eng = { u.eng with records := u.eng.records.set 0 (some filled) }
        ∧ t.cues.lists[a] = [] ∧ (method = .mirror → t.isl[i].claim = some 0)

/-! ### The line (chapter 11) -/

/-- A character that comes no more than three character times after the one before it is read by the receiver, whose silence is timed
afresh from it (R178, R179). The receiver in IDLE that reads, character by character, SOH, an address that is the part's own or admitted by the group mask, a
length of 1 to 64, and as many bytes, all without error, is back in IDLE with the frame complete: the code and the body go to R180 or
R182 (R177, R178). That the silence before a character is counted to the start of its own character time is DEDUCED (assumption 13). -/
def Obligations.ReceiverReadsFrame : Prop :=
  (∀ (s : State) (m : Moment) (c : LineChar), s.resetHeld = false →
    let u := s.arrive m
    let char := if u.line.rate.toNat = 0 then 44000 else if u.line.rate.toNat = 1 then 22000 else 11000
    u.now ≤ u.line.lastByte + 4 * char →
      exec (.lineByte m c) s = .next (State.readChar { u with line := { u.line with lastByte := u.now } } c))
  ∧ ∀ (s : State) (addr code : Byte) (body : List Byte) (via : Via),
    s.line.rx = .idle → body.length + 1 ≤ 64 →
    let own : Byte := BitVec.ofNat 8 s.line.own.toNat
    let mask : Byte := BitVec.ofNat 8 s.line.mask.toNat
    (via = .individual → addr = own) →
    (via = .group → addr ≠ own ∧ mask ≠ 0 ∧ (addr ^^^ own) &&& ~~~mask = 0) →
    ((0x01 :: addr :: BitVec.ofNat 8 (body.length + 1) :: code :: body).map goodChar).foldl State.readChar s
      = { s with line := { s.line with rx := .idle, buffer := [] } }.frameComplete via code body

/-- Each command row is its frame: carried out as a row, it does what the completion of the frame with its code and its body does at
that moment (R180, R182, R183). No two rows have one code and body. That a row is its frame is the model's choice (assumption 12). -/
def Obligations.MessageRowIsItsFrame : Prop :=
  (∀ (i : Instr) (m : Moment) (via : Via) (code : Byte) (body : List Byte) (s : State),
      frameOf i = some (m, via, code, body) →
      exec i s = .next (if s.resetHeld then s else (s.arrive m).frameComplete via code body))
    ∧ ∀ (i j : Instr) (f : Moment × Via × Byte × List Byte), frameOf i = some f → frameOf j = some f → i = j

/-- A code of no row is refused BAD_CODE, and a code of some row with a body of a length that no row of that code has is refused
BAD_LENGTH (R180). Any command refused with a status from 0x10 up leaves everything but the count of frames taken and the reply as it
was, except a LAMP, START or STOP that reaches all eight projectors (R180). Each frame taken gets one reply (R181). The code byte of
the refusal of an unknown code from 0x80 up is its sum with 0x80 modulo 256, the model's choice (assumption 36). -/
def Obligations.RefusedCommandChangesNothing : Prop :=
  ∀ (u : State) (code : Byte) (body : List Byte), u.replyPending = false →
    let known (c : Byte) (n : Nat) : Prop := ∃ i m via b, frameOf i = some (m, via, c, b) ∧ b.length = n
    ((∀ n, ¬known code n) → u.frameComplete .individual code body = Answered .individual u code 0x11 [] u)
    ∧ ((∃ n, known code n) → ¬known code body.length →
        u.frameComplete .individual code body = Answered .individual u code 0x10 [] u)
    ∧ ∃ st rb, (u.frameComplete .individual code body).line.reply = some (replyTo u code st rb)
        ∧ (0x10 ≤ st.toNat → ¬(code.toNat ∈ [0x20, 0x21, 0x22] ∧ body.head? = some 0) →
            u.frameComplete .individual code body = Answered .individual u code st rb u)

/-- An individual frame that completes while a reply is pending is an overrun: it is counted, LINE_OVERRUN is latched, it is not taken
and gets no reply of its own (R181). A group frame with a code other than the five, or with a length wrong for its code, is dropped:
it counts a frame fault and latches LINE_ERROR (R182). When
the pending flag of a reply that nobody ends clears is the model's choice (assumption 12). -/
def Obligations.OverrunsAndDroppedGroups : Prop :=
  (∀ (i : Instr) (m : Moment) (code : Byte) (body : List Byte) (s : State), s.resetHeld = false →
    frameOf i = some (m, .individual, code, body) →
    let u := s.arrive m
    u.replyPending = true →
      ∃ alarm queue discarded, exec i s = .next
          { u with
            alarm := alarm
            line := { u.line with overruns := min 65535 (u.line.overruns + 1), queue := queue, discarded := discarded } }
        ∧ (alarm.get (.dev .lineOverrun)).set = true)
    ∧ ∀ (u : State) (code : Byte) (body : List Byte),
        (code.toNat ∉ [0x20, 0x21, 0x22, 0x25, 0x66] ∨ ∀ i m b, frameOf i = some (m, .group, code, b) → b.length ≠ body.length) →
        ∃ alarm queue discarded, u.frameComplete .group code body =
            { u with
              alarm := alarm
              line := { u.line with faults := min 65535 (u.line.faults + 1), queue := queue, discarded := discarded } }
          ∧ (alarm.get (.dev .lineError)).set = true

/-- The receiver's table for one character that comes no more than three character times after the one before it (R178, R179): IDLE
takes SOH alone; an address of another part makes the frame FOREIGN; in RECEIVE the length and the bytes of the frame are stored, and the
last one that the length counts completes the frame and brings IDLE; a character with an error in a frame not foreign, or a length of
0 or above 64, is a frame fault and brings DISCARD, which ignores every byte. A silence of more than three character times returns the
receiver to IDLE, with a frame fault from RECEIVE. That the silence before a character is counted to the
start of its own character time is DEDUCED (assumption 13). -/
def Obligations.ReceiverTable : Prop :=
  ∀ (s : State), s.resetHeld = false →
    let charOf (l : Line) : Nat := if l.rate.toNat = 0 then 44000 else if l.rate.toNat = 1 then 22000 else 11000
    (∀ (m : Moment) (c : LineChar),
      let u := s.arrive m
      let char := charOf u.line
      let ones := (List.range 8).countP (fun k => c.data.getLsbD k) + (if c.parity then 1 else 0)
      let bad : Prop := ones % 2 = 0 ∨ c.stop = false
      let own : Byte := BitVec.ofNat 8 u.line.own.toNat
      let mask : Byte := BitVec.ofNat 8 u.line.mask.toNat
      let foreign : Prop := c.data ≠ own ∧ ¬(mask ≠ 0 ∧ (c.data ^^^ own) &&& ~~~mask = 0)
      let becomes (rx : RxState) (buffer : List Byte) : Prop :=
        exec (.lineByte m c) s = .next { u with line := { u.line with lastByte := u.now, rx := rx, buffer := buffer } }
      let faults : Prop := ∃ alarm queue discarded,
        exec (.lineByte m c) s = .next
          { u with
            alarm := alarm
            line := { u.line with
              lastByte := u.now, rx := .discard, buffer := [], faults := min 65535 (u.line.faults + 1), queue := queue,
              discarded := discarded } }
          ∧ (alarm.get (.dev .lineError)).set = true
      u.now ≤ u.line.lastByte + 4 * char →
        (u.line.rx = .idle → c.data = 0x01 → ¬bad → becomes (.receive none) [])
        ∧ (u.line.rx = .idle → c.data ≠ 0x01 ∨ bad → becomes .idle u.line.buffer)
        ∧ (u.line.rx = .receive none → bad → faults)
        ∧ (u.line.rx = .receive none → ¬bad → c.data = own → becomes (.receive (some .individual)) [c.data])
        ∧ (u.line.rx = .receive none → ¬bad → c.data ≠ own → ¬foreign → becomes (.receive (some .group)) [c.data])
        ∧ (u.line.rx = .receive none → ¬bad → foreign → becomes (.foreign none) [])
        ∧ (∀ via, u.line.rx = .receive (some via) → bad → faults)
        ∧ (∀ via a, u.line.rx = .receive (some via) → u.line.buffer = [a] → ¬bad → c.data.toNat = 0 ∨ 64 < c.data.toNat → faults)
        ∧ (∀ via a, u.line.rx = .receive (some via) → u.line.buffer = [a] → ¬bad → 1 ≤ c.data.toNat → c.data.toNat ≤ 64 →
            becomes (.receive (some via)) [a, c.data])
        ∧ (∀ via a n rest, u.line.rx = .receive (some via) → u.line.buffer = a :: n :: rest → ¬bad →
            rest.length + 1 ≠ n.toNat → becomes (.receive (some via)) (a :: n :: (rest ++ [c.data])))
        ∧ (∀ via a n rest code body, u.line.rx = .receive (some via) → u.line.buffer = a :: n :: rest → ¬bad →
            rest ++ [c.data] = code :: body → body.length + 1 = n.toNat →
            exec (.lineByte m c) s = .next
              (State.frameComplete { u with line := { u.line with lastByte := u.now, rx := .idle, buffer := [] } } via code body))
        ∧ (u.line.rx = .foreign none → ¬bad → 1 ≤ c.data.toNat → c.data.toNat ≤ 64 →
            becomes (.foreign (some c.data.toNat)) [])
        ∧ (u.line.rx = .foreign none → bad ∨ c.data.toNat = 0 ∨ 64 < c.data.toNat → becomes .discard [])
        ∧ (∀ k, u.line.rx = .foreign (some k) → 1 < k → becomes (.foreign (some (k - 1))) [])
        ∧ (u.line.rx = .foreign (some 1) → becomes .idle [])
        ∧ (u.line.rx = .discard → becomes .discard u.line.buffer))
    ∧ (let v := s.passTo (s.line.lastByte + 3 * charOf s.line)
      (s.line.rx = .idle → exec .lineSilenceTimeout s = .next s)
      ∧ (s.line.rx ≠ .idle → (∀ via, s.line.rx ≠ .receive via) →
          exec .lineSilenceTimeout s = .next { v with line := { v.line with rx := .idle, buffer := [] } })
      ∧ ∀ via, s.line.rx = .receive via → ∃ alarm queue discarded, exec .lineSilenceTimeout s = .next
          { v with
            alarm := alarm
            line := { v.line with
              rx := .idle, buffer := [], faults := min 65535 (v.line.faults + 1), queue := queue, discarded := discarded } }
          ∧ (alarm.get (.dev .lineError)).set = true)

/-- A pending reply begins at the wait that its row names, no sooner than one and no later than four character times after the frame that
it answers, its bytes go back to back, and its end clears the reply pending flag (R181). With no reply pending, or with none begun,
nothing happens. A wait outside the range is taken to its nearer end (the model's choice, assumption 12), and a row that comes when
that moment has passed begins the reply, or ends it, at the present time (the model's choice, assumptions 6 and 30). -/
def Obligations.ReplyTimes : Prop :=
  ∀ (s : State) (wait : Nat), s.resetHeld = false →
    let char : Nat := if s.line.rate.toNat = 0 then 44000 else if s.line.rate.toNat = 1 then 22000 else 11000
    (s.line.reply = none → exec (.replyStart wait) s = .next s ∧ exec .replyComplete s = .next s)
    ∧ ∀ r, s.line.reply = some r →
        (r.started = none →
          (let at' := r.frameEnd + max char (min (4 * char) wait)
           let v := s.passTo at'
           exec (.replyStart wait) s = .next { v with line := { v.line with reply := some { r with started := some v.now } } }
            ∧ v.now = max s.now at' ∧ r.frameEnd + char ≤ at' ∧ at' ≤ r.frameEnd + 4 * char)
          ∧ exec .replyComplete s = .next s)
        ∧ ∀ t, r.started = some t →
            let v := s.passTo (t + r.bytes.length * char)
            exec (.replyStart wait) s = .next s
              ∧ exec .replyComplete s = .next { v with line := { v.line with reply := none } }
              ∧ t + r.bytes.length * char ≤ v.now

/-! ### Setting commands -/

/-- SET_STANDARD (R14): a code of no standard is refused BAD_FIELD; the standard held changes nothing; the other is refused BUSY unless
every projector is at rest and every record FREE, and otherwise brings ACQUIRE with the run count 0, the last pulse absent, the tick
restarted and every cadence state unset. -/
def Obligations.SetStandardRow : Prop :=
  ∀ (s : State) (m : Moment) (b : Byte), Hears s m .individual →
    let u := s.arrive m
    let reply (st : Byte) (v : State) : Prop := exec (.setStandard m b) s = .next (Answered .individual u 0x10 st [] v)
    let std : Standard := if b = 0 then .s50 else .s60
    let free : Prop := (∀ p : Proj, AtRest u.ch[p]) ∧ ∀ r : Rec, u.eng.records[r] = none
    (1 < b.toNat → reply 0x12 u)
    ∧ (b.toNat ≤ 1 → std = u.tb.standard → reply 0x00 u)
    ∧ (b.toNat ≤ 1 → std ≠ u.tb.standard → ¬free → reply 0x13 u)
    ∧ (b.toNat ≤ 1 → std ≠ u.tb.standard → free →
        ∃ tr : Vector Tracker 8,
          (∀ p : Proj, tr[p] = { u.tr[p] with
            lastIn := none, pendingLock := none, pos := none, edgeDue := none, slipWait := none })
          ∧ let v : State :=
              { u with
                tr := tr
                tb := { u.tb with
                  standard := std, state := .acquire, runCount := 0, lastPulse := none,
                  tick := some (u.now + (if b = 0 then 38400000 / 50 else 38400000 / 60)) } }
            reply 0x00 v ∧ v.tb.field = u.tb.field ∧ v.syncFlag = false ∧ v.alarm = u.alarm ∧ v.take = u.take)

/-- SET_ROUTE (R79) and SET_ISLAND (R80) with the checks in their order and their effects. -/
def Obligations.RouteAndIslandRows : Prop :=
  (∀ (s : State) (m : Moment) (a b c : Byte), Hears s m .individual →
    let u := s.arrive m
    let reply (st : Byte) (v : State) : Prop := exec (.setRoute m a b c) s = .next (Answered .individual u 0x11 st [] v)
    (a.toNat = 0 ∨ 8 < a.toNat ∨ 4 < b.toNat ∨ (b.toNat ≠ 0 ∧ 2 < c.toNat) → reply 0x12 u)
    ∧ ∀ (p : Proj) (place : Option (Isl × Port)), a = projByte p →
        (b = 0 ∧ place = none ∨ ∃ (i : Isl) (q : Port), b = islByte i ∧ c = BitVec.ofNat 8 q.val ∧ place = some (i, q)) →
        (¬InNoRecord u p → reply 0x15 u)
        ∧ (InNoRecord u p → ¬AtRest u.ch[p] → reply 0x13 u)
        ∧ (InNoRecord u p → AtRest u.ch[p] → place ≠ none → (∃ x : Proj, x ≠ p ∧ u.route[x] = place) → reply 0x1A u)
        ∧ (InNoRecord u p → AtRest u.ch[p] → (place ≠ none → ∀ x : Proj, x ≠ p → u.route[x] ≠ place) →
            reply 0x00 { u with route := u.route.set p place }))
  ∧ ∀ (s : State) (m : Moment) (a c t : Byte), Hears s m .individual →
    let u := s.arrive m
    let reply (st : Byte) (v : State) : Prop := exec (.setIsland m a c t) s = .next (Answered .individual u 0x12 st [] v)
    (a.toNat = 0 ∨ 4 < a.toNat ∨ 31 < c.toNat → reply 0x12 u)
    ∧ ∀ (i : Isl) (src : Source), a = islByte i → c = BitVec.ofNat 8 src.val →
        let dup : Prop := (∃ x : Isl, x ≠ i ∧ u.isl[x].source = src) ∨ u.take.safety = src
        let held : Prop := ∃ (p : Proj) (q : Port), u.route[p] = some (i, q) ∧ ¬InNoRecord u p
        (dup → reply 0x1A u)
        ∧ (¬dup → held → reply 0x15 u)
        ∧ (¬dup → ¬held → reply (if 1 ≤ t.toNat ∧ t.toNat ≤ 15 then 0x00 else 0x01)
            { u with isl := u.isl.set i { u.isl[i] with source := src, travel := max 1 (min 15 t.toNat) } })

/-- SET_PROJECTOR (R38, R52) and SET_SIGNATURE (R76) with the checks in their order and their effects: timing and lock values are
clamped, a change of gauge, U or D empties the run-up history, a change of gauge sets the perf phase to 0, and a new signature
empties the sample history. -/
def Obligations.ProjectorAndSignatureRows : Prop :=
  (∀ (s : State) (m : Moment) (b : ProjectorBody), Hears s m .individual →
    let u := s.arrive m
    let reply (st : Byte) (v : State) : Prop := exec (.setProjector m b) s = .next (Answered .individual u 0x13 st [] v)
    let fieldsOk : Prop := 1 ≤ b.projector.toNat ∧ b.projector.toNat ≤ 8 ∧ b.gauge.toNat ≤ 1 ∧ b.adaptDepth.toNat ∈ [0, 2, 4, 8]
    (¬fieldsOk → reply 0x12 u)
    ∧ ∀ p : Proj, fieldsOk → b.projector = projByte p →
        let g : Gauge := if b.gauge = 0 then .g35 else .g16
        let cfg : ChanConfig :=
          { gauge := g
            strikeFields := max 10 (min 1023 b.strikeFields.toNat)
            runupLimit := max 1 (min 1023 b.runupLimit.toNat)
            stillness := max 2 (min 63 b.stillness.toNat)
            progU := min 1023 b.progU.toNat
            progD := min 255 b.progD.toNat
            adaptDepth := b.adaptDepth.toNat }
        let whole : Prop := cfg.strikeFields = b.strikeFields.toNat ∧ cfg.runupLimit = b.runupLimit.toNat
          ∧ cfg.stillness = b.stillness.toNat ∧ cfg.progU = b.progU.toNat ∧ cfg.progD = b.progD.toNat
          ∧ 1 ≤ b.w.toNat ∧ b.w.toNat ≤ 16 ∧ 2 ≤ b.k.toNat ∧ b.k.toNat ≤ 15 ∧ 1 ≤ b.m.toNat ∧ b.m.toNat ≤ 7
        let c := u.ch[p]
        let same : Bool := decide (cfg.gauge = c.config.gauge) && decide (cfg.progU = c.config.progU)
          && decide (cfg.progD = c.config.progD)
        let v : State :=
          { u with
            ch := u.ch.set p { c with config := cfg, history := if same then c.history else [] }
            tr := u.tr.set p { u.tr[p] with
              w := max 1 (min 16 b.w.toNat), k := max 2 (min 15 b.k.toNat), m := max 1 (min 7 b.m.toNat)
              phase := if g = c.config.gauge then u.tr[p].phase else 0 } }
        (¬InNoRecord u p → reply 0x15 u)
        ∧ (InNoRecord u p → ¬AtRest c → reply 0x13 u)
        ∧ (InNoRecord u p → AtRest c → whole → reply 0x00 v)
        ∧ (InNoRecord u p → AtRest c → ¬whole → reply 0x01 v))
  ∧ ∀ (s : State) (m : Moment) (a l x : Byte), Hears s m .individual →
    let u := s.arrive m
    let reply (st : Byte) (v : State) : Prop := exec (.setSignature m a l x) s = .next (Answered .individual u 0x14 st [] v)
    let pattern : List Bool := (List.range l.toNat).map (fun k => x.getLsbD (7 - k))
    let fieldsOk : Prop := 1 ≤ a.toNat ∧ a.toNat ≤ 8 ∧ 5 ≤ l.toNat ∧ l.toNat ≤ 8 ∧ true ∈ pattern
    (¬fieldsOk → reply 0x12 u)
    ∧ ∀ p : Proj, fieldsOk → a = projByte p →
        (¬AtRest u.ch[p] → reply 0x13 u)
        ∧ (AtRest u.ch[p] → reply 0x00
            { u with det := u.det.set p { u.det[p] with sigLen := l.toNat, sigPat := pattern, history := [] } })

/-- SET_SAFETY (R99), SET_HORIZON (R144), SET_REPORT (R64) and SET_GROUP (R182) with their checks and effects. -/
def Obligations.SafetyHorizonReportGroupRows : Prop :=
  ∀ (s : State) (m : Moment), Hears s m .individual →
    let u := s.arrive m
    (∀ (a f : Byte),
      let reply (st : Byte) (v : State) : Prop := exec (.setSafety m a f) s = .next (Answered .individual u 0x15 st [] v)
      (31 < a.toNat ∨ 127 < f.toNat → reply 0x12 u)
      ∧ ∀ src : Source, a = BitVec.ofNat 8 src.val → f.toNat ≤ 127 →
          ((∃ i : Isl, u.isl[i].source = src) → reply 0x1A u)
          ∧ ((∀ i : Isl, u.isl[i].source ≠ src) →
              reply 0x00 { u with take := { u.take with safety := src, protectSet := BitVec.ofNat 7 f.toNat } }))
    ∧ (∀ h : BitVec 16, exec (.setHorizon m h) s = .next
        (Answered .individual u 0x16 (if 24 ≤ h.toNat ∧ h.toNat ≤ 9999 then 0x00 else 0x01) []
          { u with eng := { u.eng with horizon := max 24 (min 9999 h.toNat) } }))
    ∧ (∀ (a : Byte) (v : BitVec 16), a.toNat = 0 ∨ 8 < a.toNat →
        exec (.setReport m a v) s = .next (Answered .individual u 0x18 0x12 [] u))
    ∧ (∀ (p : Proj) (v : BitVec 16),
        exec (.setReport m (projByte p) v) s = .next
          (Answered .individual u 0x18 (if v.toNat = 0 ∨ (16 ≤ v.toNat ∧ v.toNat ≤ 4096) then 0x00 else 0x01) []
            { u with
              tr := u.tr.set p { u.tr[p] with period := if v.toNat = 0 then 0 else max 16 (min 4096 v.toNat) } }))
    ∧ ∀ a : Byte,
        (63 < a.toNat → exec (.setGroup m a) s = .next (Answered .individual u 0x19 0x12 [] u))
        ∧ (a.toNat ≤ 63 → exec (.setGroup m a) s = .next
            (Answered .individual u 0x19 0x00 [] { u with line := { u.line with mask := BitVec.ofNat 6 a.toNat } }))

/-- SET_MASK (R172) and ACK_ALARMS (R170) apply to the pairs that their unit and kinds fields name, and no other: the first sets their
enables, the second clears their latches and counts and answers, for each unit, whether enabled latches of a class are left. The lines
follow at once (R169). A unit of none, a kinds field with a bit from 27 upward, and a kind that the unit named does not hold, are
refused BAD_FIELD (R183). That the bytes of the answer for ALL come in the order P1 to P8, I1 to I4, DEVICE is the model's choice
(assumption 37), and so is that the six bits without a meaning in each are 0 (assumption 38). -/
def Obligations.MaskAndAckRows : Prop :=
  ∀ (s : State) (m : Moment) (unit : Byte) (kinds : BitVec 32) (x : Byte), Hears s m .individual →
    let u := s.arrive m
    let all : Prop := kinds = 0xFFFFFFFF
    let named (a : AlarmId) : Prop :=
      (unit = 0xFF ∨ a.unitCode = unit.toNat) ∧ (all ∨ kinds.getLsbD (a.kindCode - 1) = true)
    let unitOk : Prop := unit = 0xFF ∨ (1 ≤ unit.toNat ∧ unit.toNat ≤ 13)
    let kindsOk : Prop := all ∨ (kinds.toNat < 2 ^ 27
      ∧ (unit ≠ 0xFF → ∀ k : Nat, k < 27 → kinds.getLsbD k = true → ∃ a : AlarmId, a.unitCode = unit.toNat ∧ a.kindCode = k + 1))
    let lines (alarm : AlarmUnit) : Prop :=
      (alarm.major = true ↔ alarm.shows true) ∧ (alarm.minor = true ↔ alarm.shows false) ∧ alarm.flags = u.alarm.flags
    (¬unitOk ∨ ¬kindsOk →
      exec (.setMask m unit kinds x) s = .next (Answered .individual u 0x17 0x12 [] u)
        ∧ exec (.ackAlarms m unit kinds) s = .next (Answered .individual u 0x64 0x12 [] u))
    ∧ (unitOk → kindsOk → 1 < x.toNat →
      exec (.setMask m unit kinds x) s = .next (Answered .individual u 0x17 0x12 [] u))
    ∧ (unitOk → kindsOk → x.toNat ≤ 1 → ∃ alarm,
      exec (.setMask m unit kinds x) s = .next (Answered .individual u 0x17 0x00 [] { u with alarm := alarm })
        ∧ lines alarm
        ∧ ∀ a : AlarmId, (named a → alarm.get a = { u.alarm.get a with enabled := decide (x = 1) })
            ∧ (¬named a → alarm.get a = u.alarm.get a))
    ∧ (unitOk → kindsOk → ∃ alarm rb,
      exec (.ackAlarms m unit kinds) s = .next (Answered .individual u 0x64 0x00 rb { u with alarm := alarm })
        ∧ lines alarm
        ∧ (∀ a : AlarmId, (named a → alarm.get a = { u.alarm.get a with set := false, count := 0 })
            ∧ (¬named a → alarm.get a = u.alarm.get a))
        ∧ rb.length = (if unit = 0xFF then 13 else 1)
        ∧ ∀ (k : Nat) (y : Byte), rb[k]? = some y →
            let n := if unit = 0xFF then k + 1 else unit.toNat
            let left (major : Bool) : Prop :=
              ∃ a : AlarmId, a.unitCode = n ∧ a.isMajor = major ∧ (alarm.get a).set = true ∧ (alarm.get a).enabled = true
            (y.getLsbD 0 = true ↔ left true) ∧ (y.getLsbD 1 = true ↔ left false) ∧ y.toNat < 4)

/-! ### Operating commands -/

/-- LAMP on and off for one projector (R18, R21, R23) and for all eight at once (R19): the ESTOP line refuses ESTOP, off on an incoming
projector is refused IN_CHANGEOVER, and the tables of R21 and R23 say the rest. Projector 0 reaches each channel on its own, and its
reply carries the eight statuses. -/
def Obligations.LampRows : Prop :=
  ∀ (s : State) (m : Moment) (via : Via), Hears s m via →
    let u := s.arrive m
    let n := u.tb.field
    let answer (st : Byte) (body : List Byte) (v : State) : State := Answered via u 0x20 st body v
    (∀ a : Byte, 8 < a.toNat → exec (.lampOn m via a) s = .next (answer 0x12 [] u)
      ∧ exec (.lampOff m via a) s = .next (answer 0x12 [] u))
    ∧ (u.estop = true → ∀ p : Proj, exec (.lampOn m via (projByte p)) s = .next (answer 0x14 [] u)
      ∧ exec (.lampOff m via (projByte p)) s = .next (answer 0x14 [] u))
    ∧ (u.estop = false → ∀ p : Proj,
      exec (.lampOn m via (projByte p)) s = .next
          (answer (lampOnTable u.ch[p] n).2 [] { u with ch := u.ch.set p (lampOnTable u.ch[p] n).1 })
      ∧ (¬NotIncoming u p → exec (.lampOff m via (projByte p)) s = .next (answer 0x15 [] u))
      ∧ (NotIncoming u p → exec (.lampOff m via (projByte p)) s = .next
          (answer (lampOffTable u.ch[p]).2 [] { u with ch := u.ch.set p (lampOffTable u.ch[p]).1 })))
    ∧ (∃ (sts : Proj → Byte) (ch : Vector Channel 8),
      exec (.lampOn m via 0) s = .next (answer (overall (allProj.map sts)) (allProj.map sts) { u with ch := ch })
        ∧ ∀ p : Proj, (u.estop = true → sts p = 0x14 ∧ ch[p] = u.ch[p])
            ∧ (u.estop = false → sts p = (lampOnTable u.ch[p] n).2 ∧ ch[p] = (lampOnTable u.ch[p] n).1))
    ∧ ∃ (sts : Proj → Byte) (ch : Vector Channel 8),
      exec (.lampOff m via 0) s = .next (answer (overall (allProj.map sts)) (allProj.map sts) { u with ch := ch })
        ∧ ∀ p : Proj, (u.estop = true → sts p = 0x14 ∧ ch[p] = u.ch[p])
            ∧ (u.estop = false → ¬NotIncoming u p → sts p = 0x15 ∧ ch[p] = u.ch[p])
            ∧ (u.estop = false → NotIncoming u p → sts p = (lampOffTable u.ch[p]).2 ∧ ch[p] = (lampOffTable u.ch[p]).1)

/-- START for one projector (R18, R25): refused ESTOP, IN_CHANGEOVER for an incoming projector, and BUSY outside READY. Taken, it brings
RUNUP with the motor on and the tracker in SEARCH with its frame count and perf phase kept, FRAMING latched when the perf phase is not
0, and every entry behind the frame count consumed (R120). Projector 0 reaches each channel on its own (R19). -/
def Obligations.StartRows : Prop :=
  ∀ (s : State) (m : Moment) (via : Via), Hears s m via →
    let u := s.arrive m
    let n := u.tb.field
    (∀ a : Byte, 8 < a.toNat → exec (.start m via a) s = .next (Answered via u 0x21 0x12 [] u))
    ∧ (∀ p : Proj,
      let one (st : Byte) (v : State) : Prop := exec (.start m via (projByte p)) s = .next (Answered via u 0x21 st [] v)
      (u.estop = true → one 0x14 u)
      ∧ (u.estop = false → ¬NotIncoming u p → one 0x15 u)
      ∧ (u.estop = false → NotIncoming u p → u.ch[p].state ≠ .ready → one 0x13 u)
      ∧ (u.estop = false → NotIncoming u p → u.ch[p].state = .ready → u.tr[p].phase = 0 →
          (∀ e ∈ u.cues.lists[p], u.tr[p].frame ≤ e.pos) →
          one 0x00 { u with
            ch := u.ch.set p (started u.ch[p] n u.tr[p].frame)
            tr := u.tr.set p (searching u.tr[p]) })
      ∧ (u.estop = false → NotIncoming u p → u.ch[p].state = .ready → u.cues.Whole →
          ∃ v, one 0x00 v
            ∧ v.tr = u.tr.set p (searching u.tr[p])
            ∧ v.ch = u.ch.set p { started u.ch[p] n u.tr[p].frame with mode := v.ch[p].mode }
            ∧ v.cues.lists = u.cues.lists.set p (u.cues.lists[p].filter (fun e => u.tr[p].frame ≤ e.pos))
            ∧ (u.tr[p].phase ≠ 0 → Latched v (.proj p .framing))
            ∧ v.eng = u.eng ∧ v.take = u.take ∧ v.isl = u.isl ∧ v.route = u.route ∧ v.tb = u.tb ∧ v.det = u.det))
    ∧ ∃ (sts : Proj → Byte) (v : State),
      exec (.start m via 0) s = .next (Answered via u 0x21 (overall (allProj.map sts)) (allProj.map sts) v)
        ∧ v.eng = u.eng ∧ v.take = u.take ∧ v.isl = u.isl ∧ v.route = u.route ∧ v.tb = u.tb ∧ v.det = u.det
        ∧ ∀ p : Proj,
            (u.estop = true → sts p = 0x14) ∧ (u.estop = false → ¬NotIncoming u p → sts p = 0x15)
            ∧ (u.estop = false → NotIncoming u p → u.ch[p].state ≠ .ready → sts p = 0x13)
            ∧ (u.estop = false → NotIncoming u p → u.ch[p].state = .ready →
                sts p = 0x00 ∧ v.ch[p].state = .runup ∧ v.ch[p].motor = true ∧ v.tr[p] = searching u.tr[p])
            ∧ (sts p ≠ 0x00 → v.ch[p] = u.ch[p] ∧ v.tr[p] = u.tr[p])

/-- STOP (R29): refused ESTOP under the line and taken in every state without it. RUNUP, RUN and INCH become COAST with the outputs off
and the lamp kept, and a running tracker is told that the motor is off; the other states are kept. A STOP on a projector of a record is
handed to the engine: the record of an outgoing projector ends OUTGOING_FAILED, with its decided result in TAILOUT (R150, R161), and
that of an incoming one INCOMING_FAILED unless it is in TAILOUT. Projector 0 reaches each channel on its own (R19). -/
def Obligations.StopRows : Prop :=
  ∀ (s : State) (m : Moment) (via : Via), Hears s m via →
    let u := s.arrive m
    let halted (t : Tracker) (c : Channel) : Tracker := if c.state = .runup ∨ c.state = .run then stopped t else t
    (∀ a : Byte, 8 < a.toNat → exec (.stop m via a) s = .next (Answered via u 0x22 0x12 [] u))
    ∧ (∀ p : Proj,
      let one (st : Byte) (v : State) : Prop := exec (.stop m via (projByte p)) s = .next (Answered via u 0x22 st [] v)
      let w : State := { u with ch := u.ch.set p (stopTable u.ch[p]), tr := u.tr.set p (halted u.tr[p] u.ch[p]) }
      (u.estop = true → one 0x14 u)
      ∧ (u.estop = false → InNoRecord u p → one 0x00 w)
      ∧ ∀ (r : Rec) (rec : Record), u.estop = false → RecordsDisjoint u → u.eng.records[r] = some rec →
          u.line.queue.length < 16 →
          (rec.a = p → ∃ v, one 0x00 v ∧ v.ch = w.ch ∧ v.tr = w.tr
              ∧ Ended u v r rec (if rec.state = .tailout then rec.result.getD .outgoingFailed else .outgoingFailed))
          ∧ (rec.b = p → rec.state ≠ .tailout → ∃ v, one 0x00 v ∧ v.ch = w.ch ∧ v.tr = w.tr ∧ Ended u v r rec .incomingFailed)
          ∧ (rec.b = p → rec.state = .tailout → one 0x00 w))
    ∧ (u.estop = true → exec (.stop m via 0) s = .next
        (Answered via u 0x22 0x14 (List.replicate 8 0x14) u))
    ∧ (u.estop = false → ∃ v, exec (.stop m via 0) s = .next (Answered via u 0x22 0x00 (List.replicate 8 0x00) v)
        ∧ v.cues = u.cues ∧ v.det = u.det ∧ v.route = u.route ∧ v.tb = u.tb
        ∧ ∀ p : Proj, v.ch[p] = stopTable u.ch[p] ∧ v.tr[p] = halted u.tr[p] u.ch[p])

/-- INCH (R30): forward and reverse are taken in DARK and READY, and stop in INCH; elsewhere they are refused BUSY, under the line ESTOP,
and on an incoming projector IN_CHANGEOVER. A projector outside 1..8 is refused BAD_FIELD (R19). -/
def Obligations.InchRows : Prop :=
  ∀ (s : State) (m : Moment), Hears s m .individual →
    let u := s.arrive m
    let answer (st : Byte) (v : State) : Host.Outcome State Fault Refusal := .next (Answered .individual u 0x23 st [] v)
    (∀ a : Byte, a.toNat = 0 ∨ 8 < a.toNat →
      exec (.inchForward m a) s = answer 0x12 u ∧ exec (.inchReverse m a) s = answer 0x12 u ∧ exec (.inchStop m a) s = answer 0x12 u)
    ∧ ∀ (p : Proj),
        let c := u.ch[p]
        (u.estop = true → ∀ row ∈ [Instr.inchForward m (projByte p), .inchReverse m (projByte p), .inchStop m (projByte p)],
          exec row s = answer 0x14 u)
        ∧ (u.estop = false → ¬NotIncoming u p →
          ∀ row ∈ [Instr.inchForward m (projByte p), .inchReverse m (projByte p), .inchStop m (projByte p)],
            exec row s = answer 0x15 u)
        ∧ (u.estop = false → NotIncoming u p → c.state = .dark ∨ c.state = .ready →
            exec (.inchForward m (projByte p)) s = answer 0x00
              { u with ch := u.ch.set p { c with state := .inch, inchF := true, inchR := false, lampFails := 0 } }
            ∧ exec (.inchReverse m (projByte p)) s = answer 0x00
              { u with ch := u.ch.set p { c with state := .inch, inchF := false, inchR := true, lampFails := 0 } })
        ∧ (u.estop = false → NotIncoming u p → ¬(c.state = .dark ∨ c.state = .ready) →
            exec (.inchForward m (projByte p)) s = answer 0x13 u ∧ exec (.inchReverse m (projByte p)) s = answer 0x13 u)
        ∧ (u.estop = false → NotIncoming u p → c.state = .inch →
            exec (.inchStop m (projByte p)) s = answer 0x00 { u with ch := u.ch.set p (coasting c) })
        ∧ (u.estop = false → NotIncoming u p → c.state ≠ .inch → exec (.inchStop m (projByte p)) s = answer 0x13 u)

/-- CLEAR (R32), SET_MODE (R36) and PRESET (R37) with the checks in their order. CLEAR leads to READY with the lamp on and lit and to
DARK otherwise. PRESET sets the frame count with the perf phase at 0 and empties the detector (R68); it passes CUE_LOW when the
entries ahead fall below the watermark (R123). -/
def Obligations.ClearModePresetRows : Prop :=
  (∀ (s : State) (m : Moment), Hears s m .individual →
    let u := s.arrive m
    (∀ a : Byte, a.toNat = 0 ∨ 8 < a.toNat →
      exec (.clear m a) s = .next (Answered .individual u 0x24 0x12 [] u)
        ∧ ∀ f, exec (.preset m a f) s = .next (Answered .individual u 0x26 0x12 [] u))
    ∧ ∀ p : Proj,
        let c := u.ch[p]
        let pins := m.pins.proj[p]
        let still : Prop := c.config.stillness ≤ c.still
        let cleared (st : Byte) (v : State) : Prop :=
          exec (.clear m (projByte p)) s = .next (Answered .individual u 0x24 st [] v)
        (u.estop = true → cleared 0x14 u)
        ∧ (u.estop = false → c.state ≠ .fault → cleared 0x13 u)
        ∧ (u.estop = false → c.state = .fault → ¬still → cleared 0x17 u)
        ∧ (u.estop = false → c.state = .fault → still → pins.tail = true ∨ pins.loop = true → cleared 0x13 u)
        ∧ (u.estop = false → c.state = .fault → still → pins.tail = false → pins.loop = false →
            cleared 0x00 { u with
              ch := u.ch.set p
                (if c.lamp && pins.lampok then { c with cause := .none, state := .ready, lampFails := 0 }
                 else { c with cause := .none, state := .dark, lamp := false, lampFails := 0 }) })
        ∧ ∀ f : BitVec 24,
            let preset (st : Byte) (v : State) : Prop :=
              exec (.preset m (projByte p) f) s = .next (Answered .individual u 0x26 st [] v)
            let inRange : Prop := -99999 ≤ f.toInt ∧ f.toInt ≤ 999999
            let ready : Prop := (c.state = .dark ∨ c.state = .ready ∨ c.state = .fault) ∧ still
            let v : State :=
              { u with
                tr := u.tr.set p { u.tr[p] with frame := f.toInt, phase := 0 }
                det := u.det.set p { u.det[p] with history := [], latch := false } }
            (¬inRange → preset 0x12 u)
            ∧ (inRange → u.estop = true → preset 0x14 u)
            ∧ (inRange → u.estop = false → ¬NotIncoming u p → preset 0x15 u)
            ∧ (inRange → u.estop = false → NotIncoming u p → ¬ready → preset 0x13 u)
            ∧ (inRange → u.estop = false → NotIncoming u p → ready → NoFall u p u.cues.lists[p] f.toInt → preset 0x00 v)
            ∧ (inRange → u.estop = false → NotIncoming u p → ready → ¬NoFall u p u.cues.lists[p] f.toInt →
                ∃ alarm line, preset 0x00 { v with alarm := alarm, line := line } ∧ (alarm.get (.proj p .cueLow)).set = true))
  ∧ ∀ (s : State) (m : Moment) (via : Via) (a x : Byte), Hears s m via →
    let u := s.arrive m
    let reply (st : Byte) (v : State) : Prop := exec (.setMode m via a x) s = .next (Answered via u 0x25 st [] v)
    (a.toNat = 0 ∨ 8 < a.toNat ∨ 1 < x.toNat → reply 0x12 u)
    ∧ ∀ p : Proj, a = projByte p → x.toNat ≤ 1 →
        (u.estop = true → reply 0x14 u)
        ∧ (u.estop = false → reply 0x00
            { u with ch := u.ch.set p { u.ch[p] with mode := if x = 0 then .manual else .auto } })

/-! ### Cues (chapter 7) -/

/-- LOAD_CUES (R111, R112): the watermark is set first, the entries are taken one by one in order, each with the result of the first
check that fails, and the reply lists the results. A header with no projector or an entry count outside 1..4, or a watermark that is
neither 0..15 nor KEEP, is refused BAD_FIELD; a body longer than its entries BAD_LENGTH. -/
def Obligations.LoadCuesRow : Prop :=
  ∀ (s : State) (m : Moment) (header watermark : Byte), Hears s m .individual →
    let u := s.arrive m
    let reply (body : List Byte) (st : Byte) (rb : List Byte) (v : State) : Prop :=
      exec (.loadCues m header watermark body) s = .next (Answered .individual u 0x30 st rb v)
    let fieldsOk : Prop := 1 ≤ header.toNat % 16 ∧ header.toNat % 16 ≤ 8 ∧ 1 ≤ header.toNat / 16 ∧ header.toNat / 16 ≤ 4
      ∧ (watermark.toNat ≤ 15 ∨ watermark = 0xFF)
    (∀ body, ¬fieldsOk → reply body 0x12 [] u)
    ∧ ∀ (p : Proj) (es : List CueEntry), fieldsOk → p.val + 1 = header.toNat % 16 → es.length = header.toNat / 16 →
        (∀ e ∈ es, spells e) →
        let c : CueStore :=
          if watermark = 0xFF then u.cues else { u.cues with low := u.cues.low.set p watermark.toNat }
        reply (es.flatMap CueEntry.bytes) 0x00 (loadAll u p c es).2 { u with cues := (loadAll u p c es).1 }
        ∧ ∀ x xs, reply (es.flatMap CueEntry.bytes ++ x :: xs) 0x10 [] u

/-- DELETE_CUE (R113), CLEAR_CUES (R114) and QUERY_CUES (R115): a removal returns its entries to the pool with no CUE notice, and
passes CUE_LOW when the entries ahead fall below the watermark; the query answers up to four entries from its start index, each with the
bytes it was loaded with. -/
def Obligations.CueEditRows : Prop :=
  ∀ (s : State) (m : Moment), Hears s m .individual →
    let u := s.arrive m
    (∀ x : BitVec 16, (x = 0 ∨ ∀ p : Proj, ∀ e ∈ u.cues.lists[p], e.number ≠ x.toNat) →
      exec (.deleteCue m x) s = .next (Answered .individual u 0x31 0x18 [] u))
    ∧ (∀ (x : BitVec 16) (p : Proj) (e : CueEntry), u.cues.Whole → e ∈ u.cues.lists[p] → e.number = x.toNat →
        let list := u.cues.lists[p].filter (fun y => y.number ≠ x.toNat)
        let v : State := { u with cues := { u.cues with free := u.cues.free + 1, lists := u.cues.lists.set p list } }
        (NoFall u p list u.tr[p].frame → exec (.deleteCue m x) s = .next (Answered .individual u 0x31 0x00 [] v))
        ∧ (¬NoFall u p list u.tr[p].frame → ∃ alarm line,
            exec (.deleteCue m x) s = .next (Answered .individual u 0x31 0x00 [] { v with alarm := alarm, line := line })
              ∧ (alarm.get (.proj p .cueLow)).set = true))
    ∧ (∀ a b : Byte, a.toNat = 0 ∨ 8 < a.toNat →
        exec (.clearCues m a) s = .next (Answered .individual u 0x32 0x12 [] u)
          ∧ exec (.queryCues m a b) s = .next (Answered .individual u 0x33 0x12 [] u))
    ∧ ∀ p : Proj,
        let k := u.cues.lists[p].length
        let v : State := { u with cues := { u.cues with free := u.cues.free + k, lists := u.cues.lists.set p [] } }
        (NoFall u p [] u.tr[p].frame →
          exec (.clearCues m (projByte p)) s = .next (Answered .individual u 0x32 0x00 (bytesOf 2 k) v))
        ∧ (¬NoFall u p [] u.tr[p].frame → ∃ alarm line,
            exec (.clearCues m (projByte p)) s = .next
              (Answered .individual u 0x32 0x00 (bytesOf 2 k) { v with alarm := alarm, line := line })
              ∧ (alarm.get (.proj p .cueLow)).set = true)
        ∧ ∀ b : Byte,
            let es := (u.cues.lists[p].drop b.toNat).take 4
            exec (.queryCues m (projByte p) b) s = .next
              (Answered .individual u 0x33 0x00
                (bytesOf 2 k ++ [BitVec.ofNat 8 es.length] ++ es.flatMap CueEntry.bytes) u)

/-- The reach pass takes every STOP, NOTE, QUIET and CHANGE entry at or below the frame count and no other, passing MARK entries over
(R117): the entries taken leave the list and return to the pool. In MANUAL none is actioned (R119); in AUTO a STOP stops the projector
and a CHANGE latches CHANGE_MISSED (R118). So does a shutter edge in SEARCH, no step of the boundary waiting, that advances the film in
RUNUP or RUN with no match and no film break beside it: it reaches the entries at the new frame count as CuesReached says, and a single
entry's CUE notice tells what became of it (R116). PulseInSyncIsBoundary and the two rows of the tick say the same of the frame advance
of a boundary. -/
def Obligations.ReachPassConsumes : Prop :=
  (∀ (s : State) (p : Proj), s.cues.Whole → (s.ch[p].state = .runup ∨ s.ch[p].state = .run) →
    let t := s.reachPass p
    let taken (e : CueEntry) : Bool := decide (e.kind.tag ≠ .mark) && decide ((e.pos : Int) ≤ s.tr[p].frame)
    let auto : Prop := s.ch[p].mode = .auto
    t.cues.lists = s.cues.lists.set p (s.cues.lists[p].filter (fun e => !taken e))
    ∧ t.cues.free = s.cues.free + s.cues.lists[p].countP taken
    ∧ (∀ q : Proj, t.ch[q].state = s.ch[q].state ∨ (q = p ∧ auto ∧ t.ch[q].state = .coast))
    ∧ (auto → s.estop = false → (∃ e ∈ s.cues.lists[p], taken e = true ∧ e.kind = .stop) → t.ch[p].state = .coast)
    ∧ (auto → ∀ e ∈ s.cues.lists[p], taken e = true → e.kind.tag = .change → Latched t (.proj p .changeMissed))
    ∧ (¬auto → t.tr = s.tr ∧ t.ch = s.ch ∧ t.eng = s.eng))
  ∧ ∀ (s : State) (m : Moment) (p : Proj), s.resetHeld = false → s.due = [] →
    let u := s.arrive m
    let x := u.tr[p]
    let d := u.det[p]
    let frame := x.frame + 1
    let list := u.cues.lists[p]
    let taken (e : CueEntry) : Bool := decide (e.kind.tag ≠ .mark) && decide ((e.pos : Int) ≤ frame)
    u.cues.Whole → (u.ch[p].state = .runup ∨ u.ch[p].state = .run) → x.motor = true → x.lock = .search → x.frame < 999999 →
    (checkedEdge u.ch[p].config.gauge.perfs x).empty < 3 → d.found = none → ¬Completes d (sampled d.history d.latch) →
    ∃ t, exec (.shutterEdge m p) s = .next t
      ∧ t.tr[p].frame = frame ∧ CuesReached u t p frame
      ∧ (∀ q : Proj, q ≠ p → t.cues.lists[q] = u.cues.lists[q])
      ∧ t.cues.free = u.cues.free + list.countP (fun e => taken e || passedMark e frame)
      ∧ (∀ e : CueEntry, list = [e] → taken e = true → u.line.queue.length ≤ 12 →
          let outcome : CueOutcome :=
            if u.ch[p].mode = .manual then .skipped else if e.kind.tag = .change then .missed else .actioned
          .cue ⟨p, e.number, e.kind.tag, e.pos, outcome, 0, u.tb.field, frame⟩ ∈ t.line.queue)

/-! ### Takes, mirrors and changeovers from the host -/

/-- TAKE (R96) posts the host request, due one field later; MIRROR (R87, R81) commands an island without a claim, with the deadline at
its travel plus 8 fields. -/
def Obligations.TakeAndMirrorRows : Prop :=
  ∀ (s : State) (m : Moment), Hears s m .individual →
    let u := s.arrive m
    let n := u.tb.field
    (∀ a : Byte, 31 < a.toNat → exec (.take m a) s = .next (Answered .individual u 0x50 0x12 [] u))
    ∧ (∀ src : Source,
        (u.take.host ≠ none →
          exec (.take m (BitVec.ofNat 8 src.val)) s = .next (Answered .individual u 0x50 0x13 [] u))
        ∧ (u.take.host = none →
          exec (.take m (BitVec.ofNat 8 src.val)) s = .next
            (Answered .individual u 0x50 0x00 [] { u with take := { u.take with host := some ⟨src, n, n + 1⟩ } })))
    ∧ (∀ a b : Byte, a.toNat = 0 ∨ 4 < a.toNat ∨ 2 < b.toNat →
        exec (.mirror m a b) s = .next (Answered .individual u 0x51 0x12 [] u))
    ∧ ∀ (i : Isl) (q : Port),
        (u.isl[i].claim ≠ none →
          exec (.mirror m (islByte i) (BitVec.ofNat 8 q.val)) s = .next (Answered .individual u 0x51 0x16 [] u))
        ∧ (u.isl[i].claim = none →
          exec (.mirror m (islByte i) (BitVec.ofNat 8 q.val)) s = .next
            (Answered .individual u 0x51 0x00 []
              { u with
                due := (u.due.filter (fun d => d ≠ .mirrorComplete i)).filter (fun d => d ≠ .mirrorDeadline i)
                isl := u.isl.set i { u.isl[i] with
                  commanded := q, pending := some ⟨q, n + BitVec.ofNat 32 (u.isl[i].travel + 8)⟩ } }))

/-- ABORT_CHANGE (R162): a number that no record holds is refused UNKNOWN, and a record in CUTTING TOO_LATE with its index. Otherwise
the record ends, ABORTED before TAILOUT and with its decided result in TAILOUT, and the incoming projector of a record in STARTING or
LOCKED is given STOP. -/
def Obligations.AbortChangeRow : Prop :=
  ∀ (s : State) (m : Moment) (x : BitVec 16), Hears s m .individual →
    let u := s.arrive m
    ((x = 0 ∨ ∀ (r : Rec) (rec : Record), u.eng.records[r] = some rec → rec.cue ≠ x.toNat) →
      exec (.abortChange m x) s = .next (Answered .individual u 0x40 0x18 [] u))
    ∧ ∀ (r : Rec) (rec : Record), x ≠ 0 → u.eng.records[r] = some rec → rec.cue = x.toNat →
        (∀ y : Rec, y < r → ∀ rec', u.eng.records[y] = some rec' → rec'.cue ≠ x.toNat) →
        let body : List Byte := [BitVec.ofNat 8 r.val]
        (rec.state = .cutting → exec (.abortChange m x) s = .next (Answered .individual u 0x40 0x19 body u))
        ∧ (rec.state ≠ .cutting → RecordsDisjoint u → u.line.queue.length < 16 → ∃ v,
            exec (.abortChange m x) s = .next (Answered .individual u 0x40 0x00 body v)
              ∧ Ended u v r rec (if rec.state = .tailout then rec.result.getD .aborted else .aborted)
              ∧ (rec.state = .armed ∨ rec.state = .tailout ∨ u.estop = true → v.ch = u.ch ∧ v.tr = u.tr)
              ∧ (rec.state = .starting ∨ rec.state = .locked → u.estop = false →
                  v.ch = u.ch.set rec.b (stopTable u.ch[rec.b])))

/-! ### Queries and notices -/

/-- The status queries are answered ACCEPTED in every state with replies of the sizes of R187 and R188, and change nothing but what their
clear flag clears (R43, R62, R89, R145, R174, R188). The island status, the record table and every notice that POLL removes and answers
with are given whole in their layouts (R185, R186, R187). Of the other three replies these fields are given: of the projector status its
state, cause and mode, frame count, perf phase, lock state, four counters, list length and entries ahead; of the device status the field
counter, the line counters, the notices queued and the free entries; of the alarm status the lines and each kind's latch, enable
and count. That the tally byte is 0 before the first boundary, that the high bits of a record's policy and priority byte are 0, and that
the bits without a meaning of a byte of flags are 0 are the model's choices (assumptions 32, 22 and 38). -/
def Obligations.QueryAndPollRows : Prop :=
  ∀ (s : State) (m : Moment), Hears s m .individual →
    let u := s.arrive m
    let slice (rb : List Byte) (k n : Nat) : List Byte := (rb.drop k).take n
    (∀ a x : Byte, a.toNat = 0 ∨ 8 < a.toNat ∨ 1 < x.toNat →
      exec (.queryProjector m a x) s = .next (Answered .individual u 0x60 0x12 [] u))
    ∧ (∀ (p : Proj) (x : Byte), x.toNat ≤ 1 → u.ch[p].history.length ≤ 8 →
      let t := u.tr[p]
      ∃ rb, exec (.queryProjector m (projByte p) x) s = .next
          (Answered .individual u 0x60 0x00 rb
            (if x = 1 then
              { u with tr := u.tr.set p { t with slips := 0, perfDefects := 0, strayMarks := 0, corrections := 0 } }
             else u))
        ∧ rb.length = 108
        ∧ slice rb 0 3 = [BitVec.ofNat 8 u.ch[p].state.code, BitVec.ofNat 8 u.ch[p].cause.code, BitVec.ofNat 8 u.ch[p].mode.code]
        ∧ slice rb 59 3 = bytesOf 3 (BitVec.ofInt 24 t.frame).toNat
        ∧ slice rb 66 2 = [BitVec.ofNat 8 t.phase, BitVec.ofNat 8 t.lock.code]
        ∧ slice rb 83 8 = bytesOf 2 t.slips ++ bytesOf 2 t.perfDefects ++ bytesOf 2 t.strayMarks ++ bytesOf 2 t.corrections
        ∧ slice rb 103 4 = bytesOf 2 u.cues.lists[p].length ++ bytesOf 2 (u.ahead p))
    ∧ (∀ a : Byte, a.toNat = 0 ∨ 4 < a.toNat → exec (.queryIsland m a) s = .next (Answered .individual u 0x61 0x12 [] u))
    ∧ (∀ i : Isl, ∃ rb, exec (.queryIsland m (islByte i)) s = .next (Answered .individual u 0x61 0x00 rb u)
        ∧ rb.length = 26 ∧ rb = islandBytes u i)
    ∧ (∀ x : Byte, 1 < x.toNat → exec (.queryDevice m x) s = .next (Answered .individual u 0x62 0x12 [] u))
    ∧ (∀ x : Byte, x.toNat ≤ 1 → ∃ rb t, exec (.queryDevice m x) s = .next t
        ∧ rb.length = 101
        ∧ (x = 0 → t = Answered .individual u 0x62 0x00 rb u)
        ∧ (x = 1 → t = { u with line := { u.line with
            taken := 0, faults := 0, overruns := 0, discarded := 0, reply := some (replyTo u 0x62 0x00 rb) } })
        ∧ slice rb 3 4 = bytesOf 4 u.tb.field.toNat
        ∧ slice rb 11 8 = bytesOf 2 (min 65535 (u.line.taken + 1)) ++ bytesOf 2 u.line.faults ++ bytesOf 2 u.line.overruns
            ++ bytesOf 2 u.line.discarded
        ∧ slice rb 19 3 = [BitVec.ofNat 8 u.line.queue.length] ++ bytesOf 2 u.cues.free)
    ∧ (∃ rb, exec (.queryChanges m) s = .next (Answered .individual u 0x41 0x00 rb u)
        ∧ rb.length = 2 + (allRec.map (fun r => if (u.eng.records[r]).isSome then 44 else 1)).sum
        ∧ rb = bytesOf 2 u.eng.horizon ++ allRec.flatMap (fun r => (u.eng.records[r]).elim [0] recordBytes))
    ∧ (∀ a : Byte, a.toNat = 0 ∨ 13 < a.toNat → exec (.queryAlarms m a) s = .next (Answered .individual u 0x63 0x12 [] u))
    ∧ (∀ a : Byte, 1 ≤ a.toNat → a.toNat ≤ 13 → ∃ rb,
        exec (.queryAlarms m a) s = .next (Answered .individual u 0x63 0x00 rb u)
          ∧ rb.length = (if a.toNat ≤ 8 then 49 else if a.toNat ≤ 12 then 21 else 29)
          ∧ (∀ y, rb[0]? = some y → (y.getLsbD 0 = u.alarm.major ∧ y.getLsbD 1 = u.alarm.minor))
          ∧ ∀ d : AlarmId, d.unitCode = a.toNat →
              let k := d.kindCode - (if a.toNat ≤ 8 then 1 else if a.toNat ≤ 12 then 18 else 21)
              slice rb (14 + 2 * k) 2 =
                [(if (u.alarm.get d).set then 1 else 0) + (if (u.alarm.get d).enabled then 2 else 0),
                 BitVec.ofNat 8 (u.alarm.get d).count])
    ∧ (u.line.queue = [] → exec (.poll m) s = .next (Answered .individual u 0x65 0x00 [] u))
    ∧ ∀ x xs, u.line.queue = x :: xs → ∃ rb,
        exec (.poll m) s = .next (Answered .individual u 0x65 0x00 rb { u with line := { u.line with queue := xs } })
          ∧ (∀ id field frame, x = .alarm id field frame →
              rb = [1, BitVec.ofNat 8 id.unitCode, BitVec.ofNat 8 id.kindCode, if id.isMajor then 1 else 0]
                ++ bytesOf 4 field.toNat ++ (match frame with
                  | none => [0x80, 0, 0]
                  | some f => bytesOf 3 (BitVec.ofInt 24 f).toNat))
          ∧ (∀ y, x = .cue y → rb.length = 17 ∧ rb = cueNoticeBytes y)
          ∧ (∀ y, x = .change y → rb.length = 37 ∧ rb = changeNoticeBytes y)
          ∧ (∀ y, x = .position y → rb = [4] ++ [BitVec.ofNat 8 (y.projector.val + 1)]
              ++ bytesOf 3 (BitVec.ofInt 24 y.frame).toNat ++ [BitVec.ofNat 8 y.phase, BitVec.ofNat 8 y.lock.code]
              ++ bytesOf 4 y.field.toNat)

/-- RESTART (R189) is taken in every state, from either kind of frame: running and inching channels coast and keep their lamps (R42),
the trackers are UNLOCKED with their frame counts kept (R44), the detectors emptied (R66), the requests but the protective one dropped
(R105), every record ended and its claims released (R163, R86). The timebase, the lists, the map and the settings are kept. -/
def Obligations.RestartRow : Prop :=
  ∀ (s : State) (m : Moment) (via : Via), Hears s m via →
    let u := s.arrive m
    ∃ v, exec (.restart m via) s = .next (Answered via u 0x66 0x00 [] v)
      ∧ (∀ p : Proj,
          v.ch[p] = (if u.ch[p].state = .runup ∨ u.ch[p].state = .run ∨ u.ch[p].state = .inch then coasting u.ch[p]
            else { u.ch[p] with runup := none, douseHeld := false, record := none })
          ∧ v.tr[p] = stopped u.tr[p]
          ∧ v.det[p] = { u.det[p] with history := [], latch := false })
      ∧ v.take = { u.take with slots := Vector.replicate 4 none, host := none }
      ∧ (∀ r : Rec, v.eng.records[r] = none)
      ∧ (∀ (i : Isl) (r : Rec), v.isl[i].claim = some r → u.eng.records[r] = none)
      ∧ (∀ r rec, u.eng.records[r] = some rec → u.line.queue.length + 4 ≤ 16 →
          changeNotice r rec .restart u.tb.field ∈ v.line.queue)
      ∧ v.tb = u.tb ∧ v.cues = u.cues ∧ v.route = u.route ∧ v.estop = u.estop ∧ v.pins = u.pins ∧ SameSettings u v

/-! ### What every step keeps -/

/-- Every step keeps that a channel's outputs, timers, cause and run-up record are those of its state (R15, R17), and that while the
ESTOP line is asserted, while RESET is asserted as at other times, every channel is in FAULT with cause ESTOP and all its outputs off (R33, R35). -/
def Obligations.OutputsFollowStateKept : Prop :=
  ∀ s t : State, OutputsFollowState s → EstopHoldsOutputs s → step s = .next t → OutputsFollowState t ∧ EstopHoldsOutputs t

/-- Every step keeps that a tracker's items fit one another, its channel's state and the standard (R44, R45, R47, R54, R57). -/
def Obligations.TrackersFitKept : Prop :=
  ∀ s t : State, OutputsFollowState s → TrackersFit s → step s = .next t → TrackersFit t

/-- Every step keeps the cue store whole: the pool and the lists hold 256 entries between them (R107), positions ascend in a list and
no number is held twice (R108), and every field is in range (R109, R110). -/
def Obligations.CueStoreKept : Prop :=
  ∀ s t : State, CuesWhole s → step s = .next t → CuesWhole t

/-- Every step keeps that MAJOR and MINOR are asserted exactly while some unit has an enabled, latched alarm of the class, and neither
while RESET is (R164, R169), and that the notice queue holds at most 16 notices and at most one POSITION notice for each projector
(R65, R185). -/
def Obligations.AlarmLinesAndQueueKept : Prop :=
  ∀ s t : State, step s = .next t →
    (LinesFollowLatches s → LinesFollowLatches t) ∧ (QueueBounded s → QueueBounded t)

/-- Every step keeps the changeover tables: no projector belongs to two records or is both sides of one (R129), a claim is held by a
MIRROR record before TAILOUT both of whose projectors stand at the island (R79, R86), no two projectors share a place (R78), no two
islands, nor an island and the safety source, share a source code (R80), and a changeover request waits only for a SWITCH record in
CUTTING (R91, R150, R152). -/
def Obligations.ChangeoverTablesKept : Prop :=
  ∀ s t : State, RecordsDisjoint s → ClaimsFitRecords s → PlacesDistinct s → step s = .next t →
    RecordsDisjoint t ∧ ClaimsFitRecords t ∧ PlacesDistinct t ∧ (SlotsFitRecords s → SlotsFitRecords t)

/-- A command that is not a setting command, LOAD_CUES, RESET or a character of the line changes no setting: not the standard, a
configuration, a lock parameter, a signature, the map, a source code, the safety source, a watermark, the horizon, an enable, or an
item of the line's own (R1, R16, R52, R64, R66, R78, R80, R99, R122, R144, R164, R176). -/
def Obligations.SettingsChangeOnlyBySettings : Prop :=
  ∀ (i : Instr) (s t : State), ¬maySet i → exec i s = .next t → SameSettings s t

/-- The state after reset meets every invariant. -/
def Obligations.ResetMeetsInvariants : Prop :=
  let s := State.reset
  OutputsFollowState s ∧ EstopHoldsOutputs s ∧ TrackersFit s ∧ LinesFollowLatches s ∧ CuesWhole s ∧ QueueBounded s
    ∧ RecordsDisjoint s ∧ ClaimsFitRecords s ∧ PlacesDistinct s ∧ SlotsFitRecords s

/-! ### Cadence (R9 to R12) -/

/-- The cadence sum has the values of R10 and both consequences that R10 draws, the first frame split off and the last. The reach has
the two forms of R12, with reach(f + 1) = len(c) − i and reach(f) = −i, and while a position advances by its cadence the reach of every
frame falls by exactly one from each boundary to the next; over the frame counts and cue positions there are its magnitude never exceeds
2,750,001 fields (R12). -/
def Obligations.CadenceSumAndReach : Prop :=
  (∀ (n : Nat) (c : Step), (c = .even → cad n c = 2 * n) ∧ (c ≠ .even → n % 2 = 0 → cad n c = 5 * (n / 2))
      ∧ (c ≠ .even → n % 2 = 1 → cad n c = 5 * (n / 2) + c.len)
      ∧ (1 ≤ n → cad n c = c.len + cad (n - 1) c.flip)
      ∧ (1 ≤ n → cad n c = cad (n - 1) c + (if n % 2 = 1 then c else c.flip).len)
      ∧ cad 0 c = 0)
    ∧ cad 1099999 .long = 2749998 ∧ cad 1099999 .even = 2199998
    ∧ ∀ (q : Pos) (x : Int),
        (q.f < x → q.reach x = ((q.c.len : Int) - q.i) + cad (x - q.f - 1).toNat q.c.flip)
        ∧ (x ≤ q.f → q.reach x = -((cad (q.f - x).toNat (if (q.f - x) % 2 = 0 then q.c else q.c.flip) : Int) + q.i))
        ∧ q.reach (q.f + 1) = q.c.len - q.i ∧ q.reach q.f = -(q.i : Int)
        ∧ (q.i < q.c.len → (q.advance).reach x = q.reach x - 1)
        ∧ (-99999 ≤ x → x ≤ 999999 → -99999 ≤ q.f → q.f ≤ 999999 → q.i < q.c.len → |q.reach x| ≤ 2750001)

end
end

