-- ==== Sys2Proof/Laws/State.lean ====
section
/-! SUPPORT. What each named update of State makes of each field. -/

namespace Sys2Proof.Machine

variable (s : State)

/-! ### `State.updCh` -/

@[simp] theorem State.updCh_now (p : Proj) (f : Channel → Channel) : (s.updCh p f).now = s.now := rfl
@[simp] theorem State.updCh_pins (p : Proj) (f : Channel → Channel) : (s.updCh p f).pins = s.pins := rfl
@[simp] theorem State.updCh_resetHeld (p : Proj) (f : Channel → Channel) : (s.updCh p f).resetHeld = s.resetHeld := rfl
@[simp] theorem State.updCh_estop (p : Proj) (f : Channel → Channel) : (s.updCh p f).estop = s.estop := rfl
@[simp] theorem State.updCh_tb (p : Proj) (f : Channel → Channel) : (s.updCh p f).tb = s.tb := rfl
@[simp] theorem State.updCh_ch (p : Proj) (f : Channel → Channel) : (s.updCh p f).ch = s.ch.set p (f s.ch[p]) := rfl
@[simp] theorem State.updCh_tr (p : Proj) (f : Channel → Channel) : (s.updCh p f).tr = s.tr := rfl
@[simp] theorem State.updCh_det (p : Proj) (f : Channel → Channel) : (s.updCh p f).det = s.det := rfl
@[simp] theorem State.updCh_cues (p : Proj) (f : Channel → Channel) : (s.updCh p f).cues = s.cues := rfl
@[simp] theorem State.updCh_eng (p : Proj) (f : Channel → Channel) : (s.updCh p f).eng = s.eng := rfl
@[simp] theorem State.updCh_isl (p : Proj) (f : Channel → Channel) : (s.updCh p f).isl = s.isl := rfl
@[simp] theorem State.updCh_route (p : Proj) (f : Channel → Channel) : (s.updCh p f).route = s.route := rfl
@[simp] theorem State.updCh_take (p : Proj) (f : Channel → Channel) : (s.updCh p f).take = s.take := rfl
@[simp] theorem State.updCh_alarm (p : Proj) (f : Channel → Channel) : (s.updCh p f).alarm = s.alarm := rfl
@[simp] theorem State.updCh_line (p : Proj) (f : Channel → Channel) : (s.updCh p f).line = s.line := rfl
@[simp] theorem State.updCh_due (p : Proj) (f : Channel → Channel) : (s.updCh p f).due = s.due := rfl
@[simp] theorem State.updCh_unmoved (p : Proj) (f : Channel → Channel) : (s.updCh p f).unmoved = s.unmoved := rfl
@[simp] theorem State.updCh_pending (p : Proj) (f : Channel → Channel) : (s.updCh p f).pending = s.pending := rfl

/-! ### `State.updTr` -/

@[simp] theorem State.updTr_now (p : Proj) (f : Tracker → Tracker) : (s.updTr p f).now = s.now := rfl
@[simp] theorem State.updTr_pins (p : Proj) (f : Tracker → Tracker) : (s.updTr p f).pins = s.pins := rfl
@[simp] theorem State.updTr_resetHeld (p : Proj) (f : Tracker → Tracker) : (s.updTr p f).resetHeld = s.resetHeld := rfl
@[simp] theorem State.updTr_estop (p : Proj) (f : Tracker → Tracker) : (s.updTr p f).estop = s.estop := rfl
@[simp] theorem State.updTr_tb (p : Proj) (f : Tracker → Tracker) : (s.updTr p f).tb = s.tb := rfl
@[simp] theorem State.updTr_ch (p : Proj) (f : Tracker → Tracker) : (s.updTr p f).ch = s.ch := rfl
@[simp] theorem State.updTr_tr (p : Proj) (f : Tracker → Tracker) : (s.updTr p f).tr = s.tr.set p (f s.tr[p]) := rfl
@[simp] theorem State.updTr_det (p : Proj) (f : Tracker → Tracker) : (s.updTr p f).det = s.det := rfl
@[simp] theorem State.updTr_cues (p : Proj) (f : Tracker → Tracker) : (s.updTr p f).cues = s.cues := rfl
@[simp] theorem State.updTr_eng (p : Proj) (f : Tracker → Tracker) : (s.updTr p f).eng = s.eng := rfl
@[simp] theorem State.updTr_isl (p : Proj) (f : Tracker → Tracker) : (s.updTr p f).isl = s.isl := rfl
@[simp] theorem State.updTr_route (p : Proj) (f : Tracker → Tracker) : (s.updTr p f).route = s.route := rfl
@[simp] theorem State.updTr_take (p : Proj) (f : Tracker → Tracker) : (s.updTr p f).take = s.take := rfl
@[simp] theorem State.updTr_alarm (p : Proj) (f : Tracker → Tracker) : (s.updTr p f).alarm = s.alarm := rfl
@[simp] theorem State.updTr_line (p : Proj) (f : Tracker → Tracker) : (s.updTr p f).line = s.line := rfl
@[simp] theorem State.updTr_due (p : Proj) (f : Tracker → Tracker) : (s.updTr p f).due = s.due := rfl
@[simp] theorem State.updTr_unmoved (p : Proj) (f : Tracker → Tracker) : (s.updTr p f).unmoved = s.unmoved := rfl
@[simp] theorem State.updTr_pending (p : Proj) (f : Tracker → Tracker) : (s.updTr p f).pending = s.pending := rfl

/-! ### `State.updDet` -/

@[simp] theorem State.updDet_now (p : Proj) (f : Detector → Detector) : (s.updDet p f).now = s.now := rfl
@[simp] theorem State.updDet_pins (p : Proj) (f : Detector → Detector) : (s.updDet p f).pins = s.pins := rfl
@[simp] theorem State.updDet_resetHeld (p : Proj) (f : Detector → Detector) : (s.updDet p f).resetHeld = s.resetHeld := rfl
@[simp] theorem State.updDet_estop (p : Proj) (f : Detector → Detector) : (s.updDet p f).estop = s.estop := rfl
@[simp] theorem State.updDet_tb (p : Proj) (f : Detector → Detector) : (s.updDet p f).tb = s.tb := rfl
@[simp] theorem State.updDet_ch (p : Proj) (f : Detector → Detector) : (s.updDet p f).ch = s.ch := rfl
@[simp] theorem State.updDet_tr (p : Proj) (f : Detector → Detector) : (s.updDet p f).tr = s.tr := rfl
@[simp] theorem State.updDet_det (p : Proj) (f : Detector → Detector) : (s.updDet p f).det = s.det.set p (f s.det[p]) := rfl
@[simp] theorem State.updDet_cues (p : Proj) (f : Detector → Detector) : (s.updDet p f).cues = s.cues := rfl
@[simp] theorem State.updDet_eng (p : Proj) (f : Detector → Detector) : (s.updDet p f).eng = s.eng := rfl
@[simp] theorem State.updDet_isl (p : Proj) (f : Detector → Detector) : (s.updDet p f).isl = s.isl := rfl
@[simp] theorem State.updDet_route (p : Proj) (f : Detector → Detector) : (s.updDet p f).route = s.route := rfl
@[simp] theorem State.updDet_take (p : Proj) (f : Detector → Detector) : (s.updDet p f).take = s.take := rfl
@[simp] theorem State.updDet_alarm (p : Proj) (f : Detector → Detector) : (s.updDet p f).alarm = s.alarm := rfl
@[simp] theorem State.updDet_line (p : Proj) (f : Detector → Detector) : (s.updDet p f).line = s.line := rfl
@[simp] theorem State.updDet_due (p : Proj) (f : Detector → Detector) : (s.updDet p f).due = s.due := rfl
@[simp] theorem State.updDet_unmoved (p : Proj) (f : Detector → Detector) : (s.updDet p f).unmoved = s.unmoved := rfl
@[simp] theorem State.updDet_pending (p : Proj) (f : Detector → Detector) : (s.updDet p f).pending = s.pending := rfl

/-! ### `State.updIsl` -/

@[simp] theorem State.updIsl_now (i : Isl) (f : Island → Island) : (s.updIsl i f).now = s.now := rfl
@[simp] theorem State.updIsl_pins (i : Isl) (f : Island → Island) : (s.updIsl i f).pins = s.pins := rfl
@[simp] theorem State.updIsl_resetHeld (i : Isl) (f : Island → Island) : (s.updIsl i f).resetHeld = s.resetHeld := rfl
@[simp] theorem State.updIsl_estop (i : Isl) (f : Island → Island) : (s.updIsl i f).estop = s.estop := rfl
@[simp] theorem State.updIsl_tb (i : Isl) (f : Island → Island) : (s.updIsl i f).tb = s.tb := rfl
@[simp] theorem State.updIsl_ch (i : Isl) (f : Island → Island) : (s.updIsl i f).ch = s.ch := rfl
@[simp] theorem State.updIsl_tr (i : Isl) (f : Island → Island) : (s.updIsl i f).tr = s.tr := rfl
@[simp] theorem State.updIsl_det (i : Isl) (f : Island → Island) : (s.updIsl i f).det = s.det := rfl
@[simp] theorem State.updIsl_cues (i : Isl) (f : Island → Island) : (s.updIsl i f).cues = s.cues := rfl
@[simp] theorem State.updIsl_eng (i : Isl) (f : Island → Island) : (s.updIsl i f).eng = s.eng := rfl
@[simp] theorem State.updIsl_isl (i : Isl) (f : Island → Island) : (s.updIsl i f).isl = s.isl.set i (f s.isl[i]) := rfl
@[simp] theorem State.updIsl_route (i : Isl) (f : Island → Island) : (s.updIsl i f).route = s.route := rfl
@[simp] theorem State.updIsl_take (i : Isl) (f : Island → Island) : (s.updIsl i f).take = s.take := rfl
@[simp] theorem State.updIsl_alarm (i : Isl) (f : Island → Island) : (s.updIsl i f).alarm = s.alarm := rfl
@[simp] theorem State.updIsl_line (i : Isl) (f : Island → Island) : (s.updIsl i f).line = s.line := rfl
@[simp] theorem State.updIsl_due (i : Isl) (f : Island → Island) : (s.updIsl i f).due = s.due := rfl
@[simp] theorem State.updIsl_unmoved (i : Isl) (f : Island → Island) : (s.updIsl i f).unmoved = s.unmoved := rfl
@[simp] theorem State.updIsl_pending (i : Isl) (f : Island → Island) : (s.updIsl i f).pending = s.pending := rfl

/-! ### `State.updRec` -/

@[simp] theorem State.updRec_now (r : Rec) (f : Record → Record) : (s.updRec r f).now = s.now := rfl
@[simp] theorem State.updRec_pins (r : Rec) (f : Record → Record) : (s.updRec r f).pins = s.pins := rfl
@[simp] theorem State.updRec_resetHeld (r : Rec) (f : Record → Record) : (s.updRec r f).resetHeld = s.resetHeld := rfl
@[simp] theorem State.updRec_estop (r : Rec) (f : Record → Record) : (s.updRec r f).estop = s.estop := rfl
@[simp] theorem State.updRec_tb (r : Rec) (f : Record → Record) : (s.updRec r f).tb = s.tb := rfl
@[simp] theorem State.updRec_ch (r : Rec) (f : Record → Record) : (s.updRec r f).ch = s.ch := rfl
@[simp] theorem State.updRec_tr (r : Rec) (f : Record → Record) : (s.updRec r f).tr = s.tr := rfl
@[simp] theorem State.updRec_det (r : Rec) (f : Record → Record) : (s.updRec r f).det = s.det := rfl
@[simp] theorem State.updRec_cues (r : Rec) (f : Record → Record) : (s.updRec r f).cues = s.cues := rfl
@[simp] theorem State.updRec_eng (r : Rec) (f : Record → Record) : (s.updRec r f).eng = { s.eng with records := s.eng.records.set r (s.eng.records[r].map f) } := rfl
@[simp] theorem State.updRec_isl (r : Rec) (f : Record → Record) : (s.updRec r f).isl = s.isl := rfl
@[simp] theorem State.updRec_route (r : Rec) (f : Record → Record) : (s.updRec r f).route = s.route := rfl
@[simp] theorem State.updRec_take (r : Rec) (f : Record → Record) : (s.updRec r f).take = s.take := rfl
@[simp] theorem State.updRec_alarm (r : Rec) (f : Record → Record) : (s.updRec r f).alarm = s.alarm := rfl
@[simp] theorem State.updRec_line (r : Rec) (f : Record → Record) : (s.updRec r f).line = s.line := rfl
@[simp] theorem State.updRec_due (r : Rec) (f : Record → Record) : (s.updRec r f).due = s.due := rfl
@[simp] theorem State.updRec_unmoved (r : Rec) (f : Record → Record) : (s.updRec r f).unmoved = s.unmoved := rfl
@[simp] theorem State.updRec_pending (r : Rec) (f : Record → Record) : (s.updRec r f).pending = s.pending := rfl

/-! ### `State.setRec` -/

@[simp] theorem State.setRec_now (r : Rec) (x : Option Record) : (s.setRec r x).now = s.now := rfl
@[simp] theorem State.setRec_pins (r : Rec) (x : Option Record) : (s.setRec r x).pins = s.pins := rfl
@[simp] theorem State.setRec_resetHeld (r : Rec) (x : Option Record) : (s.setRec r x).resetHeld = s.resetHeld := rfl
@[simp] theorem State.setRec_estop (r : Rec) (x : Option Record) : (s.setRec r x).estop = s.estop := rfl
@[simp] theorem State.setRec_tb (r : Rec) (x : Option Record) : (s.setRec r x).tb = s.tb := rfl
@[simp] theorem State.setRec_ch (r : Rec) (x : Option Record) : (s.setRec r x).ch = s.ch := rfl
@[simp] theorem State.setRec_tr (r : Rec) (x : Option Record) : (s.setRec r x).tr = s.tr := rfl
@[simp] theorem State.setRec_det (r : Rec) (x : Option Record) : (s.setRec r x).det = s.det := rfl
@[simp] theorem State.setRec_cues (r : Rec) (x : Option Record) : (s.setRec r x).cues = s.cues := rfl
@[simp] theorem State.setRec_eng (r : Rec) (x : Option Record) : (s.setRec r x).eng = { s.eng with records := s.eng.records.set r x } := rfl
@[simp] theorem State.setRec_isl (r : Rec) (x : Option Record) : (s.setRec r x).isl = s.isl := rfl
@[simp] theorem State.setRec_route (r : Rec) (x : Option Record) : (s.setRec r x).route = s.route := rfl
@[simp] theorem State.setRec_take (r : Rec) (x : Option Record) : (s.setRec r x).take = s.take := rfl
@[simp] theorem State.setRec_alarm (r : Rec) (x : Option Record) : (s.setRec r x).alarm = s.alarm := rfl
@[simp] theorem State.setRec_line (r : Rec) (x : Option Record) : (s.setRec r x).line = s.line := rfl
@[simp] theorem State.setRec_due (r : Rec) (x : Option Record) : (s.setRec r x).due = s.due := rfl
@[simp] theorem State.setRec_unmoved (r : Rec) (x : Option Record) : (s.setRec r x).unmoved = s.unmoved := rfl
@[simp] theorem State.setRec_pending (r : Rec) (x : Option Record) : (s.setRec r x).pending = s.pending := rfl

/-! ### `State.updTake` -/

@[simp] theorem State.updTake_now (f : TakePort → TakePort) : (s.updTake f).now = s.now := rfl
@[simp] theorem State.updTake_pins (f : TakePort → TakePort) : (s.updTake f).pins = s.pins := rfl
@[simp] theorem State.updTake_resetHeld (f : TakePort → TakePort) : (s.updTake f).resetHeld = s.resetHeld := rfl
@[simp] theorem State.updTake_estop (f : TakePort → TakePort) : (s.updTake f).estop = s.estop := rfl
@[simp] theorem State.updTake_tb (f : TakePort → TakePort) : (s.updTake f).tb = s.tb := rfl
@[simp] theorem State.updTake_ch (f : TakePort → TakePort) : (s.updTake f).ch = s.ch := rfl
@[simp] theorem State.updTake_tr (f : TakePort → TakePort) : (s.updTake f).tr = s.tr := rfl
@[simp] theorem State.updTake_det (f : TakePort → TakePort) : (s.updTake f).det = s.det := rfl
@[simp] theorem State.updTake_cues (f : TakePort → TakePort) : (s.updTake f).cues = s.cues := rfl
@[simp] theorem State.updTake_eng (f : TakePort → TakePort) : (s.updTake f).eng = s.eng := rfl
@[simp] theorem State.updTake_isl (f : TakePort → TakePort) : (s.updTake f).isl = s.isl := rfl
@[simp] theorem State.updTake_route (f : TakePort → TakePort) : (s.updTake f).route = s.route := rfl
@[simp] theorem State.updTake_take (f : TakePort → TakePort) : (s.updTake f).take = f s.take := rfl
@[simp] theorem State.updTake_alarm (f : TakePort → TakePort) : (s.updTake f).alarm = s.alarm := rfl
@[simp] theorem State.updTake_line (f : TakePort → TakePort) : (s.updTake f).line = s.line := rfl
@[simp] theorem State.updTake_due (f : TakePort → TakePort) : (s.updTake f).due = s.due := rfl
@[simp] theorem State.updTake_unmoved (f : TakePort → TakePort) : (s.updTake f).unmoved = s.unmoved := rfl
@[simp] theorem State.updTake_pending (f : TakePort → TakePort) : (s.updTake f).pending = s.pending := rfl

/-! ### `State.updLine` -/

@[simp] theorem State.updLine_now (f : Line → Line) : (s.updLine f).now = s.now := rfl
@[simp] theorem State.updLine_pins (f : Line → Line) : (s.updLine f).pins = s.pins := rfl
@[simp] theorem State.updLine_resetHeld (f : Line → Line) : (s.updLine f).resetHeld = s.resetHeld := rfl
@[simp] theorem State.updLine_estop (f : Line → Line) : (s.updLine f).estop = s.estop := rfl
@[simp] theorem State.updLine_tb (f : Line → Line) : (s.updLine f).tb = s.tb := rfl
@[simp] theorem State.updLine_ch (f : Line → Line) : (s.updLine f).ch = s.ch := rfl
@[simp] theorem State.updLine_tr (f : Line → Line) : (s.updLine f).tr = s.tr := rfl
@[simp] theorem State.updLine_det (f : Line → Line) : (s.updLine f).det = s.det := rfl
@[simp] theorem State.updLine_cues (f : Line → Line) : (s.updLine f).cues = s.cues := rfl
@[simp] theorem State.updLine_eng (f : Line → Line) : (s.updLine f).eng = s.eng := rfl
@[simp] theorem State.updLine_isl (f : Line → Line) : (s.updLine f).isl = s.isl := rfl
@[simp] theorem State.updLine_route (f : Line → Line) : (s.updLine f).route = s.route := rfl
@[simp] theorem State.updLine_take (f : Line → Line) : (s.updLine f).take = s.take := rfl
@[simp] theorem State.updLine_alarm (f : Line → Line) : (s.updLine f).alarm = s.alarm := rfl
@[simp] theorem State.updLine_line (f : Line → Line) : (s.updLine f).line = f s.line := rfl
@[simp] theorem State.updLine_due (f : Line → Line) : (s.updLine f).due = s.due := rfl
@[simp] theorem State.updLine_unmoved (f : Line → Line) : (s.updLine f).unmoved = s.unmoved := rfl
@[simp] theorem State.updLine_pending (f : Line → Line) : (s.updLine f).pending = s.pending := rfl

/-! ### `State.updTb` -/

@[simp] theorem State.updTb_now (f : Timebase → Timebase) : (s.updTb f).now = s.now := rfl
@[simp] theorem State.updTb_pins (f : Timebase → Timebase) : (s.updTb f).pins = s.pins := rfl
@[simp] theorem State.updTb_resetHeld (f : Timebase → Timebase) : (s.updTb f).resetHeld = s.resetHeld := rfl
@[simp] theorem State.updTb_estop (f : Timebase → Timebase) : (s.updTb f).estop = s.estop := rfl
@[simp] theorem State.updTb_tb (f : Timebase → Timebase) : (s.updTb f).tb = f s.tb := rfl
@[simp] theorem State.updTb_ch (f : Timebase → Timebase) : (s.updTb f).ch = s.ch := rfl
@[simp] theorem State.updTb_tr (f : Timebase → Timebase) : (s.updTb f).tr = s.tr := rfl
@[simp] theorem State.updTb_det (f : Timebase → Timebase) : (s.updTb f).det = s.det := rfl
@[simp] theorem State.updTb_cues (f : Timebase → Timebase) : (s.updTb f).cues = s.cues := rfl
@[simp] theorem State.updTb_eng (f : Timebase → Timebase) : (s.updTb f).eng = s.eng := rfl
@[simp] theorem State.updTb_isl (f : Timebase → Timebase) : (s.updTb f).isl = s.isl := rfl
@[simp] theorem State.updTb_route (f : Timebase → Timebase) : (s.updTb f).route = s.route := rfl
@[simp] theorem State.updTb_take (f : Timebase → Timebase) : (s.updTb f).take = s.take := rfl
@[simp] theorem State.updTb_alarm (f : Timebase → Timebase) : (s.updTb f).alarm = s.alarm := rfl
@[simp] theorem State.updTb_line (f : Timebase → Timebase) : (s.updTb f).line = s.line := rfl
@[simp] theorem State.updTb_due (f : Timebase → Timebase) : (s.updTb f).due = s.due := rfl
@[simp] theorem State.updTb_unmoved (f : Timebase → Timebase) : (s.updTb f).unmoved = s.unmoved := rfl
@[simp] theorem State.updTb_pending (f : Timebase → Timebase) : (s.updTb f).pending = s.pending := rfl

/-! ### `State.dropDue` -/

@[simp] theorem State.dropDue_now (d : Due) : (s.dropDue d).now = s.now := rfl
@[simp] theorem State.dropDue_pins (d : Due) : (s.dropDue d).pins = s.pins := rfl
@[simp] theorem State.dropDue_resetHeld (d : Due) : (s.dropDue d).resetHeld = s.resetHeld := rfl
@[simp] theorem State.dropDue_estop (d : Due) : (s.dropDue d).estop = s.estop := rfl
@[simp] theorem State.dropDue_tb (d : Due) : (s.dropDue d).tb = s.tb := rfl
@[simp] theorem State.dropDue_ch (d : Due) : (s.dropDue d).ch = s.ch := rfl
@[simp] theorem State.dropDue_tr (d : Due) : (s.dropDue d).tr = s.tr := rfl
@[simp] theorem State.dropDue_det (d : Due) : (s.dropDue d).det = s.det := rfl
@[simp] theorem State.dropDue_cues (d : Due) : (s.dropDue d).cues = s.cues := rfl
@[simp] theorem State.dropDue_eng (d : Due) : (s.dropDue d).eng = s.eng := rfl
@[simp] theorem State.dropDue_isl (d : Due) : (s.dropDue d).isl = s.isl := rfl
@[simp] theorem State.dropDue_route (d : Due) : (s.dropDue d).route = s.route := rfl
@[simp] theorem State.dropDue_take (d : Due) : (s.dropDue d).take = s.take := rfl
@[simp] theorem State.dropDue_alarm (d : Due) : (s.dropDue d).alarm = s.alarm := rfl
@[simp] theorem State.dropDue_line (d : Due) : (s.dropDue d).line = s.line := rfl
@[simp] theorem State.dropDue_due (d : Due) : (s.dropDue d).due = s.due.filter (fun x => x ≠ d) := rfl
@[simp] theorem State.dropDue_unmoved (d : Due) : (s.dropDue d).unmoved = s.unmoved := rfl
@[simp] theorem State.dropDue_pending (d : Due) : (s.dropDue d).pending = s.pending := rfl

/-! ### `State.addDue` -/

@[simp] theorem State.addDue_now (d : Due) : (s.addDue d).now = s.now := rfl
@[simp] theorem State.addDue_pins (d : Due) : (s.addDue d).pins = s.pins := rfl
@[simp] theorem State.addDue_resetHeld (d : Due) : (s.addDue d).resetHeld = s.resetHeld := rfl
@[simp] theorem State.addDue_estop (d : Due) : (s.addDue d).estop = s.estop := rfl
@[simp] theorem State.addDue_tb (d : Due) : (s.addDue d).tb = s.tb := rfl
@[simp] theorem State.addDue_ch (d : Due) : (s.addDue d).ch = s.ch := rfl
@[simp] theorem State.addDue_tr (d : Due) : (s.addDue d).tr = s.tr := rfl
@[simp] theorem State.addDue_det (d : Due) : (s.addDue d).det = s.det := rfl
@[simp] theorem State.addDue_cues (d : Due) : (s.addDue d).cues = s.cues := rfl
@[simp] theorem State.addDue_eng (d : Due) : (s.addDue d).eng = s.eng := rfl
@[simp] theorem State.addDue_isl (d : Due) : (s.addDue d).isl = s.isl := rfl
@[simp] theorem State.addDue_route (d : Due) : (s.addDue d).route = s.route := rfl
@[simp] theorem State.addDue_take (d : Due) : (s.addDue d).take = s.take := rfl
@[simp] theorem State.addDue_alarm (d : Due) : (s.addDue d).alarm = s.alarm := rfl
@[simp] theorem State.addDue_line (d : Due) : (s.addDue d).line = s.line := rfl
@[simp] theorem State.addDue_due (d : Due) : (s.addDue d).due = s.due ++ [d] := rfl
@[simp] theorem State.addDue_unmoved (d : Due) : (s.addDue d).unmoved = s.unmoved := rfl
@[simp] theorem State.addDue_pending (d : Due) : (s.addDue d).pending = s.pending := rfl

/-! ### `State.setCues` -/

@[simp] theorem State.setCues_now (p : Proj) (l : List CueEntry) (n : Nat) : (s.setCues p l n).now = s.now := rfl
@[simp] theorem State.setCues_pins (p : Proj) (l : List CueEntry) (n : Nat) : (s.setCues p l n).pins = s.pins := rfl
@[simp] theorem State.setCues_resetHeld (p : Proj) (l : List CueEntry) (n : Nat) : (s.setCues p l n).resetHeld = s.resetHeld := rfl
@[simp] theorem State.setCues_estop (p : Proj) (l : List CueEntry) (n : Nat) : (s.setCues p l n).estop = s.estop := rfl
@[simp] theorem State.setCues_tb (p : Proj) (l : List CueEntry) (n : Nat) : (s.setCues p l n).tb = s.tb := rfl
@[simp] theorem State.setCues_ch (p : Proj) (l : List CueEntry) (n : Nat) : (s.setCues p l n).ch = s.ch := rfl
@[simp] theorem State.setCues_tr (p : Proj) (l : List CueEntry) (n : Nat) : (s.setCues p l n).tr = s.tr := rfl
@[simp] theorem State.setCues_det (p : Proj) (l : List CueEntry) (n : Nat) : (s.setCues p l n).det = s.det := rfl
@[simp] theorem State.setCues_cues (p : Proj) (l : List CueEntry) (n : Nat) : (s.setCues p l n).cues = { s.cues with lists := s.cues.lists.set p l, free := n } := rfl
@[simp] theorem State.setCues_eng (p : Proj) (l : List CueEntry) (n : Nat) : (s.setCues p l n).eng = s.eng := rfl
@[simp] theorem State.setCues_isl (p : Proj) (l : List CueEntry) (n : Nat) : (s.setCues p l n).isl = s.isl := rfl
@[simp] theorem State.setCues_route (p : Proj) (l : List CueEntry) (n : Nat) : (s.setCues p l n).route = s.route := rfl
@[simp] theorem State.setCues_take (p : Proj) (l : List CueEntry) (n : Nat) : (s.setCues p l n).take = s.take := rfl
@[simp] theorem State.setCues_alarm (p : Proj) (l : List CueEntry) (n : Nat) : (s.setCues p l n).alarm = s.alarm := rfl
@[simp] theorem State.setCues_line (p : Proj) (l : List CueEntry) (n : Nat) : (s.setCues p l n).line = s.line := rfl
@[simp] theorem State.setCues_due (p : Proj) (l : List CueEntry) (n : Nat) : (s.setCues p l n).due = s.due := rfl
@[simp] theorem State.setCues_unmoved (p : Proj) (l : List CueEntry) (n : Nat) : (s.setCues p l n).unmoved = s.unmoved := rfl
@[simp] theorem State.setCues_pending (p : Proj) (l : List CueEntry) (n : Nat) : (s.setCues p l n).pending = s.pending := rfl

/-! ### `State.putLatch` -/

@[simp] theorem State.putLatch_now (a : AlarmId) (l : Latch) : (s.putLatch a l).now = s.now := rfl
@[simp] theorem State.putLatch_pins (a : AlarmId) (l : Latch) : (s.putLatch a l).pins = s.pins := rfl
@[simp] theorem State.putLatch_resetHeld (a : AlarmId) (l : Latch) : (s.putLatch a l).resetHeld = s.resetHeld := rfl
@[simp] theorem State.putLatch_estop (a : AlarmId) (l : Latch) : (s.putLatch a l).estop = s.estop := rfl
@[simp] theorem State.putLatch_tb (a : AlarmId) (l : Latch) : (s.putLatch a l).tb = s.tb := rfl
@[simp] theorem State.putLatch_ch (a : AlarmId) (l : Latch) : (s.putLatch a l).ch = s.ch := rfl
@[simp] theorem State.putLatch_tr (a : AlarmId) (l : Latch) : (s.putLatch a l).tr = s.tr := rfl
@[simp] theorem State.putLatch_det (a : AlarmId) (l : Latch) : (s.putLatch a l).det = s.det := rfl
@[simp] theorem State.putLatch_cues (a : AlarmId) (l : Latch) : (s.putLatch a l).cues = s.cues := rfl
@[simp] theorem State.putLatch_eng (a : AlarmId) (l : Latch) : (s.putLatch a l).eng = s.eng := rfl
@[simp] theorem State.putLatch_isl (a : AlarmId) (l : Latch) : (s.putLatch a l).isl = s.isl := rfl
@[simp] theorem State.putLatch_route (a : AlarmId) (l : Latch) : (s.putLatch a l).route = s.route := rfl
@[simp] theorem State.putLatch_take (a : AlarmId) (l : Latch) : (s.putLatch a l).take = s.take := rfl
@[simp] theorem State.putLatch_alarm (a : AlarmId) (l : Latch) : (s.putLatch a l).alarm = (s.alarm.put a l).refresh := rfl
@[simp] theorem State.putLatch_line (a : AlarmId) (l : Latch) : (s.putLatch a l).line = s.line := rfl
@[simp] theorem State.putLatch_due (a : AlarmId) (l : Latch) : (s.putLatch a l).due = s.due := rfl
@[simp] theorem State.putLatch_unmoved (a : AlarmId) (l : Latch) : (s.putLatch a l).unmoved = s.unmoved := rfl
@[simp] theorem State.putLatch_pending (a : AlarmId) (l : Latch) : (s.putLatch a l).pending = s.pending := rfl

end Sys2Proof.Machine
end

