-- ==== Sys2Proof/Laws/Tables.lean ====
section
/-! SUPPORT. Reading the tables of fixed length: members of the lists of projectors, islands and records, entries of mapped and
updated tables, and the alarm table read after an update. -/

namespace Sys2Proof.Machine

@[simp] theorem mem_allProj (p : Proj) : p ∈ allProj := by revert p; decide

@[simp] theorem mem_allIsl (i : Isl) : i ∈ allIsl := by revert i; decide

@[simp] theorem mem_allRec (r : Rec) : r ∈ allRec := by revert r; decide

@[simp] theorem getElem_map4 {α β : Type} (f : α → β) (v : Vector α 4) (i : Nat) (h : i < 4) : (map4 f v)[i] = f v[i] := by
  interval_cases i <;> rfl

@[simp] theorem getElem_map8 {α β : Type} (f : α → β) (v : Vector α 8) (i : Nat) (h : i < 8) : (map8 f v)[i] = f v[i] := by
  interval_cases i <;> rfl

@[simp] theorem getElem_table4 {α : Type} (f : Fin 4 → α) (i : Nat) (h : i < 4) : (table4 f)[i] = f ⟨i, h⟩ := by
  interval_cases i <;> rfl

/-- An updated table at the updated place. -/
theorem getElem_set_same {α : Type} {n : Nat} (v : Vector α n) (i : Fin n) (x : α) : (v.set i x)[i] = x := by simp

/-- An updated table at another place. -/
theorem getElem_set_other {α : Type} {n : Nat} (v : Vector α n) {i j : Fin n} (x : α) (h : j ≠ i) :
    (v.set i x)[j] = v[j] := by
  have : (i : Nat) ≠ j := fun e => h (Fin.ext e.symm)
  simp [Vector.getElem_set_ne, this]

/-- Putting back what stands at a place changes nothing. -/
theorem set_getElem_self {α : Type} {n : Nat} (v : Vector α n) (i : Fin n) : v.set i v[i] = v := by simp

/-- Two tables that agree at every place are one table. -/
theorem vector_ext {α : Type} {n : Nat} {v w : Vector α n} (h : ∀ i : Fin n, v[i] = w[i]) : v = w := by
  apply Vector.ext
  intro i hi
  exact h ⟨i, hi⟩

/-! ### The alarm table -/

theorem ProjAlarm.idx_inj {a b : ProjAlarm} (h : a.idx = b.idx) : a = b := by
  cases a <;> cases b <;> first | rfl | (exact absurd h (by decide))

theorem IslAlarm.idx_inj {a b : IslAlarm} (h : a.idx = b.idx) : a = b := by
  cases a <;> cases b <;> first | rfl | (exact absurd h (by decide))

theorem DevAlarm.idx_inj {a b : DevAlarm} (h : a.idx = b.idx) : a = b := by
  cases a <;> cases b <;> first | rfl | (exact absurd h (by decide))

@[simp] theorem AlarmUnit.get_put_same (u : AlarmUnit) (a : AlarmId) (l : Latch) : (u.put a l).get a = l := by
  cases a <;> simp [AlarmUnit.put, AlarmUnit.get]

theorem AlarmUnit.get_put_other (u : AlarmUnit) {a b : AlarmId} (l : Latch) (h : b ≠ a) :
    (u.put a l).get b = u.get b := by
  cases a with
  | proj p k =>
    cases b with
    | proj q j =>
      by_cases hp : q = p
      · subst hp
        have hk : j.idx ≠ k.idx := fun e => h (by rw [ProjAlarm.idx_inj e])
        simp [AlarmUnit.put, AlarmUnit.get, getElem_set_other _ _ hk]
      · simp [AlarmUnit.put, AlarmUnit.get, getElem_set_other _ _ hp]
    | isl i j => rfl
    | dev j => rfl
  | isl i k =>
    cases b with
    | isl q j =>
      by_cases hp : q = i
      · subst hp
        have hk : j.idx ≠ k.idx := fun e => h (by rw [IslAlarm.idx_inj e])
        simp [AlarmUnit.put, AlarmUnit.get, getElem_set_other _ _ hk]
      · simp [AlarmUnit.put, AlarmUnit.get, getElem_set_other _ _ hp]
    | proj q j => rfl
    | dev j => rfl
  | dev k =>
    cases b with
    | dev j =>
      have hk : j.idx ≠ k.idx := fun e => h (by rw [DevAlarm.idx_inj e])
      simp [AlarmUnit.put, AlarmUnit.get, getElem_set_other _ _ hk]
    | proj q j => rfl
    | isl i j => rfl

@[simp] theorem AlarmUnit.get_refresh (u : AlarmUnit) (a : AlarmId) : u.refresh.get a = u.get a := by cases a <;> rfl

@[simp] theorem AlarmUnit.flags_put (u : AlarmUnit) (a : AlarmId) (l : Latch) : (u.put a l).flags = u.flags := by
  cases a <;> rfl

@[simp] theorem AlarmUnit.flags_refresh (u : AlarmUnit) : u.refresh.flags = u.flags := rfl

@[simp] theorem AlarmUnit.anyLit_refresh (u : AlarmUnit) (m : Bool) : u.refresh.anyLit m = u.anyLit m := by
  simp [AlarmUnit.anyLit, AlarmUnit.lit]

@[simp] theorem AlarmUnit.refresh_refresh (u : AlarmUnit) : u.refresh.refresh = u.refresh := by
  simp [AlarmUnit.refresh, AlarmUnit.anyLit, AlarmUnit.lit, AlarmUnit.get]

/-- Every pair stands in the list of all pairs. -/
theorem mem_allAlarms (a : AlarmId) : a ∈ allAlarms := by
  cases a with
  | proj p k => revert p; cases k <;> decide
  | isl i k => revert i; cases k <;> decide
  | dev k => cases k <;> decide

end Sys2Proof.Machine
end

