-- ==== Sys2Proof/Laws/Notices.lean ====
section
/-! SUPPORT. What passing an event and posting a notice can do: change the alarm table and the notice queue, and nothing else. -/

namespace Sys2Proof.Machine

/-- What `pass` and `post` can make of a state: everything but the alarm table, the queue and the count of notices discarded stays;
enables and condition flags stay, latches only become set, the queue keeps what it held in front and its bound, and lines that
showed the latches show them still. -/
structure Notified (s t : State) : Prop where
  eq : t = { s with
    alarm := t.alarm, line := { s.line with queue := t.line.queue, discarded := t.line.discarded } }
  enabled : ∀ a, (t.alarm.get a).enabled = (s.alarm.get a).enabled
  latched : ∀ a, (s.alarm.get a).set = true → (t.alarm.get a).set = true
  flags : t.alarm.flags = s.alarm.flags
  grows : ∃ ns, t.line.queue = s.line.queue ++ ns ∧ (∀ p, ∀ n ∈ ns, Notice.isPositionOf p n = false)
  bounded : s.line.queue.length ≤ 16 → t.line.queue.length ≤ 16
  lines : s.alarm.refresh = s.alarm → t.alarm.refresh = t.alarm

namespace Notified

theorem refl (s : State) : Notified s s :=
  ⟨rfl, fun _ => rfl, fun _ h => h, rfl, ⟨[], by simp⟩, id, id⟩

theorem trans {s t u : State} (h : Notified s t) (k : Notified t u) : Notified s u where
  eq := by
    rw [k.eq]
    have := h.eq
    rw [this]
  enabled a := (k.enabled a).trans (h.enabled a)
  latched a x := k.latched a (h.latched a x)
  flags := k.flags.trans h.flags
  grows := by
    obtain ⟨x, hx, hp⟩ := h.grows
    obtain ⟨y, hy, hq⟩ := k.grows
    refine ⟨x ++ y, by rw [hy, hx, List.append_assoc], fun p n hn => ?_⟩
    rcases List.mem_append.1 hn with h1 | h1
    · exact hp p n h1
    · exact hq p n h1
  bounded x := k.bounded (h.bounded x)
  lines x := k.lines (h.lines x)

variable {s t : State} (h : Notified s t)
include h

theorem now : t.now = s.now := by rw [h.eq]
theorem pins : t.pins = s.pins := by rw [h.eq]
theorem resetHeld : t.resetHeld = s.resetHeld := by rw [h.eq]
theorem estop : t.estop = s.estop := by rw [h.eq]
theorem tb : t.tb = s.tb := by rw [h.eq]
theorem ch : t.ch = s.ch := by rw [h.eq]
theorem tr : t.tr = s.tr := by rw [h.eq]
theorem det : t.det = s.det := by rw [h.eq]
theorem cues : t.cues = s.cues := by rw [h.eq]
theorem eng : t.eng = s.eng := by rw [h.eq]
theorem isl : t.isl = s.isl := by rw [h.eq]
theorem route : t.route = s.route := by rw [h.eq]
theorem take : t.take = s.take := by rw [h.eq]
theorem due : t.due = s.due := by rw [h.eq]
theorem pending : t.pending = s.pending := by rw [h.eq]
theorem line : ({ t.line with queue := s.line.queue, discarded := s.line.discarded } : Line) = s.line := by rw [h.eq]

end Notified

/-! ### The operations -/

theorem putLatch_notified (s : State) (a : AlarmId) (l : Latch) (he : l.enabled = (s.alarm.get a).enabled)
    (hs : (s.alarm.get a).set = true → l.set = true) : Notified s (s.putLatch a l) where
  eq := rfl
  enabled b := by
    by_cases hb : b = a
    · subst hb; simp [he]
    · simp [AlarmUnit.get_put_other _ _ hb]
  latched b hb' := by
    by_cases hb : b = a
    · subst hb; simpa using hs hb'
    · simpa [AlarmUnit.get_put_other _ _ hb] using hb'
  flags := by simp
  grows := ⟨[], by simp⟩
  bounded := id
  lines _ := by simp

theorem countDiscard_notified (s : State) : Notified s s.countDiscard :=
  ⟨rfl, fun _ => rfl, fun _ h => h, rfl, ⟨[], by simp [State.countDiscard]⟩, id, id⟩

theorem passNoticeLost_notified (s : State) : Notified s s.passNoticeLost := by
  unfold State.passNoticeLost
  simp only
  split
  · exact putLatch_notified _ _ _ rfl (fun h => h)
  · split
    · exact (putLatch_notified s (.dev .noticeLost) { s.alarm.get (.dev .noticeLost) with set := true, count := 1 } rfl
        (fun _ => rfl)).trans (countDiscard_notified _)
    · exact putLatch_notified _ _ _ rfl (fun _ => rfl)

/-- Posting a notice that is no POSITION notice (R185). -/
theorem post_notified (s : State) (n : Notice) (hn : ∀ p, n.isPositionOf p = false) : Notified s (s.post n) := by
  unfold State.post
  split
  · rename_i h
    refine ⟨rfl, fun _ => rfl, fun _ h => h, rfl, ⟨[n], rfl, ?_⟩, fun _ => ?_, id⟩
    · intro p x hx
      rw [List.mem_singleton.1 hx]
      exact hn p
    · simp [State.enqueue, Config.queueRoom] at h ⊢
      omega
  · exact (countDiscard_notified s).trans (passNoticeLost_notified _)

/-- Passing an event (R166, R167). -/
theorem pass_notified (s : State) (a : AlarmId) : Notified s (s.pass a) := by
  unfold State.pass
  simp only
  split
  · exact putLatch_notified _ _ _ rfl (fun h => h)
  · have h1 := putLatch_notified s a { s.alarm.get a with set := true, count := 1 } rfl (fun _ => rfl)
    split
    · exact h1.trans (post_notified _ _ (fun _ => rfl))
    · exact h1

theorem passIf_notified (s : State) (c : Bool) (a : AlarmId) : Notified s (s.passIf c a) := by
  unfold State.passIf
  split
  · exact pass_notified s a
  · exact Notified.refl s

theorem passUnlessQuiet_notified (s : State) (p : Proj) (k : ProjAlarm) : Notified s (s.passUnlessQuiet p k) :=
  passIf_notified _ _ _

/-- The pair whose event is passed is latched afterwards (R166). -/
theorem pass_latches (s : State) (a : AlarmId) : ((s.pass a).alarm.get a).set = true := by
  unfold State.pass
  simp only
  split
  · rename_i h; simpa using h
  · split
    · exact (post_notified _ _ (fun _ => rfl)).latched a (by simp)
    · simp

@[simp] theorem passIf_false (s : State) (a : AlarmId) : s.passIf false a = s := rfl

@[simp] theorem passIf_true (s : State) (a : AlarmId) : s.passIf true a = s.pass a := rfl

/-- A notice posted to a queue with room is the newest and changes nothing else. -/
theorem post_of_room (s : State) (n : Notice) (h : s.line.queue.length < 16) :
    s.post n = { s with line := { s.line with queue := s.line.queue ++ [n] } } := by
  unfold State.post
  rw [if_pos (by simpa [Config.queueRoom] using h)]
  rfl

/-- The lines show the enabled latches exactly when they are at the value that R169 gives. -/
theorem shows_iff_anyLit (u : AlarmUnit) (m : Bool) : u.anyLit m = true ↔ u.shows m := by
  simp only [AlarmUnit.anyLit, AlarmUnit.shows, AlarmUnit.lit, List.any_eq_true, Bool.and_eq_true, decide_eq_true_eq]
  exact ⟨fun ⟨a, _, h1, h2, h3⟩ => ⟨a, h1, h2, h3⟩, fun ⟨a, h1, h2, h3⟩ => ⟨a, mem_allAlarms a, h1, h2, h3⟩⟩

end Sys2Proof.Machine
end

