-- ==== Sys2Proof/Laws/Records.lean ====
section
/-! SUPPORT. What ending a record can do (R150), and what the take port's decision on a fault can do (R100 to R104). -/

namespace Sys2Proof.Machine

/-- A CHANGE notice is no POSITION notice. -/
@[simp] theorem isPositionOf_change (p : Proj) (n : ChangeNotice) : Notice.isPositionOf p (.change n) = false := rfl

@[simp] theorem isPositionOf_alarm (p : Proj) (a : AlarmId) (n : Field) (x : Option Int) :
    Notice.isPositionOf p (.alarm a n x) = false := rfl

@[simp] theorem isPositionOf_cue (p : Proj) (n : CueNotice) : Notice.isPositionOf p (.cue n) = false := rfl

/-- What the ending of records, takes' requests and claims may touch: the engine's records, the slots, the claims, the steps that wait,
and what a notice touches. -/
structure EngineOnly (s t : State) : Prop where
  eq : t = { s with
    alarm := t.alarm, line := { s.line with queue := t.line.queue, discarded := t.line.discarded }
    eng := { s.eng with records := t.eng.records }, take := { s.take with slots := t.take.slots }, isl := t.isl, due := t.due }
  isl : ∀ i : Isl, t.isl[i] = { s.isl[i] with claim := t.isl[i].claim }
  enabled : ∀ a, (t.alarm.get a).enabled = (s.alarm.get a).enabled
  latched : ∀ a, (s.alarm.get a).set = true → (t.alarm.get a).set = true
  due : ∀ d ∈ t.due, d ∈ s.due
  lines : s.alarm.refresh = s.alarm → t.alarm.refresh = t.alarm

namespace EngineOnly

theorem refl (s : State) : EngineOnly s s :=
  ⟨rfl, fun _ => rfl, fun _ => rfl, fun _ h => h, fun _ h => h, id⟩

theorem trans {s t u : State} (h : EngineOnly s t) (k : EngineOnly t u) : EngineOnly s u where
  eq := by
    rw [k.eq]
    have := h.eq
    rw [this]
  isl i := by rw [k.isl i, h.isl i]
  enabled a := (k.enabled a).trans (h.enabled a)
  latched a x := k.latched a (h.latched a x)
  due d x := h.due d (k.due d x)
  lines x := k.lines (h.lines x)

variable {s t : State} (h : EngineOnly s t)
include h

theorem now : t.now = s.now := by rw [h.eq]
theorem pins : t.pins = s.pins := by rw [h.eq]
theorem resetHeld : t.resetHeld = s.resetHeld := by rw [h.eq]
theorem estop : t.estop = s.estop := by rw [h.eq]
theorem tb : t.tb = s.tb := by rw [h.eq]
theorem ch : t.ch = s.ch := by rw [h.eq]
theorem tr : t.tr = s.tr := by rw [h.eq]
theorem det : t.det = s.det := by rw [h.eq]
theorem cues : t.cues = s.cues := by rw [h.eq]
theorem route : t.route = s.route := by rw [h.eq]
theorem pending : t.pending = s.pending := by rw [h.eq]
theorem horizon : t.eng.horizon = s.eng.horizon := by rw [h.eq]

end EngineOnly

theorem Notified.engineOnly {s t : State} (h : Notified s t) : EngineOnly s t where
  eq := by
    rw [h.eq]
  isl i := by rw [h.isl]
  enabled := h.enabled
  latched := h.latched
  due d x := by rw [h.due] at x; exact x
  lines := h.lines

/-- An island after the claims of a record are released (R86). -/
theorem releaseClaim_isl (s : State) (r : Rec) (i : Isl) :
    ((s.withdraw r).releaseClaim r).isl[i]
      = if s.isl[i].claim = some r then { s.isl[i] with claim := none } else s.isl[i] := by
  simp [State.releaseClaim, State.withdraw]

theorem endRecord_engineOnly (s : State) (r : Rec) (res : Result) : EngineOnly s (s.endRecord r res) := by
  unfold State.endRecord
  split
  · exact EngineOnly.refl s
  · rename_i rec _
    have hn := post_notified ((s.withdraw r).releaseClaim r)
      (.change (rec.notice r (rec.endResult res) s.field)) (fun p => rfl)
    refine ⟨?_, ?_, hn.enabled, hn.latched, ?_, hn.lines⟩
    · simp only
      rw [State.setRec, hn.eq]
      rfl
    · intro i
      have : (((s.withdraw r).releaseClaim r).post (.change (rec.notice r (rec.endResult res) s.field))).isl
          = ((s.withdraw r).releaseClaim r).isl := hn.isl
      simp only [State.setRec_isl, this, releaseClaim_isl]
      split <;> rfl
    · intro d hd
      simp only [List.mem_filter] at hd
      have := hd.1
      rwa [hn.due] at this

/-- The record ended is FREE, its request withdrawn and no island holds a claim for it (R150). -/
theorem endRecord_free (s : State) (r : Rec) (res : Result) : (s.endRecord r res).eng.records[r] = none := by
  unfold State.endRecord
  split
  · assumption
  · simp

/-- The ending of a record by a queue with room, in full. -/
theorem endRecord_of_room (s : State) (r : Rec) (res : Result) (rec : Record) (hr : s.eng.records[r] = some rec)
    (hq : s.line.queue.length < 16) :
    s.endRecord r res = { s with
      eng := { s.eng with records := s.eng.records.set r none }
      take := { s.take with slots := s.take.slots.set r none }
      isl := map4 (fun u => if u.claim = some r then { u with claim := none } else u) s.isl
      line := { s.line with
        queue := s.line.queue ++ [.change (rec.notice r (rec.endResult res) s.field)] }
      due := s.due.filter (fun d => !d.ofRec r) } := by
  unfold State.endRecord
  rw [hr]
  simp only
  rw [post_of_room _ _ (by simpa [State.withdraw, State.releaseClaim] using hq)]
  rfl

theorem engineFault_engineOnly (s : State) (p : Proj) (e : Bool) : EngineOnly s (s.engineFault p e) := by
  unfold State.engineFault
  split
  · exact endRecord_engineOnly _ _ _
  · split
    · exact EngineOnly.refl s
    · split
      · exact EngineOnly.refl s
      · exact endRecord_engineOnly _ _ _

theorem engineStop_engineOnly (s : State) (p : Proj) : EngineOnly s (s.engineStop p) := by
  unfold State.engineStop
  split
  · exact endRecord_engineOnly _ _ _
  · split
    · exact EngineOnly.refl s
    · split
      · exact EngineOnly.refl s
      · exact endRecord_engineOnly _ _ _

theorem engineLockLost_engineOnly (s : State) (p : Proj) (a b : Bool) : EngineOnly s (s.engineLockLost p a b) := by
  unfold State.engineLockLost
  split
  · exact EngineOnly.refl s
  · split
    · exact endRecord_engineOnly _ _ _
    · exact EngineOnly.refl s

theorem engineMismatch_engineOnly (s : State) (i : Isl) : EngineOnly s (s.engineMismatch i) := by
  unfold State.engineMismatch
  split
  · exact EngineOnly.refl s
  · split
    · exact EngineOnly.refl s
    · exact endRecord_engineOnly _ _ _

theorem endAllRecords_engineOnly (s : State) (res : Result) : EngineOnly s (s.endAllRecords res) := by
  have : ∀ (l : List Rec) (s : State), EngineOnly s (l.foldl (fun s r => s.endRecord r res) s) := by
    intro l
    induction l with
    | nil => exact EngineOnly.refl
    | cons r l ih => exact fun s => (endRecord_engineOnly s r res).trans (ih _)
  exact this _ s

/-! ### The take port's decision -/

/-- What a protective decision may touch: the protective request, the mirrors' commands, the steps that wait, and what a notice
touches. -/
structure ProtectOnly (s t : State) : Prop where
  eq : t = { s with
    alarm := t.alarm, line := { s.line with queue := t.line.queue, discarded := t.line.discarded }
    take := { s.take with protective := t.take.protective }, isl := t.isl, due := t.due }
  isl : ∀ i : Isl, t.isl[i] = { s.isl[i] with commanded := t.isl[i].commanded, pending := t.isl[i].pending }
  enabled : ∀ a, (t.alarm.get a).enabled = (s.alarm.get a).enabled
  latched : ∀ a, (s.alarm.get a).set = true → (t.alarm.get a).set = true
  due : ∀ d ∈ t.due, d ∈ s.due
  lines : s.alarm.refresh = s.alarm → t.alarm.refresh = t.alarm

namespace ProtectOnly

theorem refl (s : State) : ProtectOnly s s :=
  ⟨rfl, fun _ => rfl, fun _ => rfl, fun _ h => h, fun _ h => h, id⟩

theorem trans {s t u : State} (h : ProtectOnly s t) (k : ProtectOnly t u) : ProtectOnly s u where
  eq := by
    rw [k.eq]
    have := h.eq
    rw [this]
  isl i := by rw [k.isl i, h.isl i]
  enabled a := (k.enabled a).trans (h.enabled a)
  latched a x := k.latched a (h.latched a x)
  due d x := h.due d (k.due d x)
  lines x := k.lines (h.lines x)

variable {s t : State} (h : ProtectOnly s t)
include h

theorem now : t.now = s.now := by rw [h.eq]
theorem pins : t.pins = s.pins := by rw [h.eq]
theorem resetHeld : t.resetHeld = s.resetHeld := by rw [h.eq]
theorem estop : t.estop = s.estop := by rw [h.eq]
theorem tb : t.tb = s.tb := by rw [h.eq]
theorem ch : t.ch = s.ch := by rw [h.eq]
theorem tr : t.tr = s.tr := by rw [h.eq]
theorem det : t.det = s.det := by rw [h.eq]
theorem cues : t.cues = s.cues := by rw [h.eq]
theorem eng : t.eng = s.eng := by rw [h.eq]
theorem route : t.route = s.route := by rw [h.eq]
theorem pending : t.pending = s.pending := by rw [h.eq]

end ProtectOnly

theorem Notified.protectOnly {s t : State} (h : Notified s t) : ProtectOnly s t where
  eq := by
    rw [h.eq]
  isl i := by rw [h.isl]
  enabled := h.enabled
  latched := h.latched
  due d x := by rw [h.due] at x; exact x
  lines := h.lines

theorem mirrorCommand_protectOnly (s : State) (i : Isl) (port : Port) : ProtectOnly s (s.mirrorCommand i port) where
  eq := rfl
  isl j := by
    by_cases hj : j = i
    · subst hj; simp [State.mirrorCommand]
    · simp [State.mirrorCommand, getElem_set_other _ _ hj]
  enabled _ := rfl
  latched _ h := h
  due d hd := by
    simp only [State.mirrorCommand, State.dropDue_due, State.updIsl_due, List.mem_filter] at hd
    exact hd.1.1
  lines := id

theorem postProtective_protectOnly (s : State) (c : Source) (p : Option Proj) : ProtectOnly s (s.postProtective c p) where
  eq := by
    simp only [State.postProtective, State.updTake]
    split
    · rfl
    · split <;> rfl
  isl _ := rfl
  enabled _ := rfl
  latched _ h := h
  due _ h := h
  lines := id

theorem retarget_protectOnly (s : State) : ProtectOnly s s.retarget :=
  ⟨rfl, fun _ => rfl, fun _ => rfl, fun _ h => h, fun _ h => h, id⟩

theorem emergencyCut_protectOnly (s : State) (r : Rec) : ProtectOnly s (s.emergencyCut r) := by
  unfold State.emergencyCut
  split
  · exact ProtectOnly.refl s
  · split
    · exact ProtectOnly.refl s
    · split
      · exact postProtective_protectOnly _ _ _
      · exact mirrorCommand_protectOnly _ _ _

/-- The take port's decision on a kind (R100, R104). -/
theorem protect_protectOnly (s : State) (p : Proj) (k : ProtectKind) : ProtectOnly s (s.protect p k) := by
  unfold State.protect
  have h1 := (passIf_notified s (s.isProtective p k || s.strikesTarget p k) (.proj p .protect)).protectOnly
  have h2 : ProtectOnly s (if s.strikesTarget p k = true then
      (s.passIf (s.isProtective p k || s.strikesTarget p k) (.proj p .protect)).retarget
      else s.passIf (s.isProtective p k || s.strikesTarget p k) (.proj p .protect)) := by
    split
    · exact h1.trans (retarget_protectOnly _)
    · exact h1
  simp only
  split
  · split
    · exact h2.trans (emergencyCut_protectOnly _ _)
    · exact h2.trans (postProtective_protectOnly _ _ _)
  · exact h2

/-- A kind that is no protective event and strikes no target changes nothing. -/
theorem protect_of_none (s : State) (p : Proj) (k : ProtectKind) (h : s.isProtective p k = false)
    (h' : s.strikesTarget p k = false) : s.protect p k = s := by
  simp [State.protect, h, h']

end Sys2Proof.Machine
end

