-- ==== Sys2Proof/Laws/Channels.lean ====
section
/-! SUPPORT. What a fault, a STOP and a loss of lock can do (R27, R29, R31, R59). -/

namespace Sys2Proof.Machine

/-- What the blocks behind a channel may touch when a fault, a STOP or a loss of lock is handed to them: everything of `EngineOnly` and
`ProtectOnly`; the channels, trackers, detectors, lists, map, timebase, pins and settings stay. -/
structure HandedOn (s t : State) : Prop where
  eq : t = { s with
    alarm := t.alarm, line := { s.line with queue := t.line.queue, discarded := t.line.discarded }
    eng := { s.eng with records := t.eng.records }
    take := { s.take with slots := t.take.slots, protective := t.take.protective }, isl := t.isl, due := t.due }
  isl : ∀ i : Isl, t.isl[i] =
    { s.isl[i] with claim := t.isl[i].claim, commanded := t.isl[i].commanded, pending := t.isl[i].pending }
  enabled : ∀ a, (t.alarm.get a).enabled = (s.alarm.get a).enabled
  latched : ∀ a, (s.alarm.get a).set = true → (t.alarm.get a).set = true
  due : ∀ d ∈ t.due, d ∈ s.due
  lines : s.alarm.refresh = s.alarm → t.alarm.refresh = t.alarm

theorem EngineOnly.handedOn {s t : State} (h : EngineOnly s t) : HandedOn s t where
  eq := by rw [h.eq]
  isl i := by rw [h.isl i]
  enabled := h.enabled
  latched := h.latched
  due := h.due
  lines := h.lines

theorem ProtectOnly.handedOn {s t : State} (h : ProtectOnly s t) : HandedOn s t where
  eq := by rw [h.eq]
  isl i := by rw [h.isl i]
  enabled := h.enabled
  latched := h.latched
  due := h.due
  lines := h.lines

theorem Notified.handedOn {s t : State} (h : Notified s t) : HandedOn s t := h.protectOnly.handedOn

namespace HandedOn

theorem refl (s : State) : HandedOn s s := ⟨rfl, fun _ => rfl, fun _ => rfl, fun _ h => h, fun _ h => h, id⟩

theorem trans {s t u : State} (h : HandedOn s t) (k : HandedOn t u) : HandedOn s u where
  eq := by
    rw [k.eq]
    have := h.eq
    rw [this]
  isl i := by rw [k.isl i, h.isl i]
  enabled a := (k.enabled a).trans (h.enabled a)
  latched a x := k.latched a (h.latched a x)
  due d x := h.due d (k.due d x)
  lines x := k.lines (h.lines x)

variable {s t : State} (h : HandedOn s t)
include h

theorem now : t.now = s.now := by rw [h.eq]
theorem pins : t.pins = s.pins := by rw [h.eq]
theorem resetHeld : t.resetHeld = s.resetHeld := by rw [h.eq]
theorem estop : t.estop = s.estop := by rw [h.eq]
theorem tb : t.tb = s.tb := by rw [h.eq]
theorem ch : t.ch = s.ch := by rw [h.eq]
theorem tr : t.tr = s.tr := by rw [h.eq]
theorem det : t.det = s.det := by rw [h.eq]
theorem cues : t.cues = s.cues := by rw [h.eq]
theorem route : t.route = s.route := by rw [h.eq]
theorem pending : t.pending = s.pending := by rw [h.eq]
theorem horizon : t.eng.horizon = s.eng.horizon := by rw [h.eq]

end HandedOn

/-- Entry to FAULT: what stands before the channel and its tracker are changed. -/
def State.beforeFault (s : State) (p : Proj) (faults : List ChanFault) : State :=
  (faults.foldl (fun s f => s.protect p f.kind) (faults.foldl (fun s f => s.pass (.proj p f.alarm)) s)).engineFault p
    (faults.any (fun f => s.choosesEmergency p f.kind))

theorem foldl_handedOn {α : Type} (f : State → α → State) (hf : ∀ s x, HandedOn s (f s x)) (l : List α) (s : State) :
    HandedOn s (l.foldl f s) := by
  induction l generalizing s with
  | nil => exact HandedOn.refl s
  | cons x l ih => exact (hf s x).trans (ih _)

theorem beforeFault_handedOn (s : State) (p : Proj) (faults : List ChanFault) : HandedOn s (s.beforeFault p faults) := by
  refine HandedOn.trans ?_ (engineFault_engineOnly _ _ _).handedOn
  refine HandedOn.trans ?_ (foldl_handedOn _ (fun s (f : ChanFault) => (protect_protectOnly s p f.kind).handedOn) _ _)
  exact foldl_handedOn _ (fun s (f : ChanFault) => (pass_notified s (.proj p f.alarm)).handedOn) _ _

/-- Entry to FAULT in full (R31): what is handed on, then the channel in FAULT with its tracker told that the motor is off. -/
theorem enterFault_eq (s : State) (p : Proj) (f : ChanFault) (fs : List ChanFault) :
    s.enterFault p (f :: fs) =
      ((s.beforeFault p (f :: fs)).updCh p
        (fun c => c.toFault f.cause ((f :: fs).any (fun x => x = .lampFail)))).updTr p Tracker.motorOff := rfl

/-- Every fault that arises is latched (R31). -/
theorem beforeFault_latches (s : State) (p : Proj) (faults : List ChanFault) {f : ChanFault} (hf : f ∈ faults) :
    ((s.beforeFault p faults).alarm.get (.proj p f.alarm)).set = true := by
  have hpass : ∀ (l : List ChanFault) (s : State), f ∈ l ∨ (s.alarm.get (.proj p f.alarm)).set = true →
      ((l.foldl (fun s f => s.pass (.proj p f.alarm)) s).alarm.get (.proj p f.alarm)).set = true := by
    intro l
    induction l with
    | nil => simp
    | cons x l ih =>
      intro s h
      apply ih
      rcases h with h | h
      · rcases List.mem_cons.1 h with h | h
        · exact .inr (by rw [← h]; exact pass_latches s _)
        · exact .inl h
      · exact .inr ((pass_notified s _).latched _ h)
  refine ((engineFault_engineOnly _ _ _).latched _ ?_)
  refine (foldl_handedOn _ (fun s (g : ChanFault) => (protect_protectOnly s p g.kind).handedOn) _ _).latched _ ?_
  exact hpass faults s (.inl hf)

/-- A STOP that is taken: the channel and its tracker as R29 says, then what the engine does. -/
theorem doStop_handedOn (s : State) (p : Proj) :
    ∃ w : State, s.doStop p = w.engineStop p ∧ w = { s with ch := w.ch, tr := w.tr }
      ∧ (∀ q : Proj, q ≠ p → w.ch[q] = s.ch[q] ∧ w.tr[q] = s.tr[q])
      ∧ w.ch[p] = (if s.ch[p].running ∨ s.ch[p].state = .inch then s.ch[p].toCoast else s.ch[p])
      ∧ w.tr[p] = (if s.ch[p].running then s.tr[p].motorOff else s.tr[p]) := by
  unfold State.doStop
  refine ⟨_, rfl, ?_⟩
  by_cases h1 : s.ch[p].running = true
  · rw [if_pos h1]
    refine ⟨rfl, fun q hq => ?_, ?_, ?_⟩
    · simp only [State.updTr_ch, State.updCh_ch, State.updTr_tr, State.updCh_tr]
      exact ⟨getElem_set_other _ _ hq, getElem_set_other _ _ hq⟩
    · rw [if_pos (.inl h1)]
      simp [State.updTr_ch, State.updCh_ch]
    · rw [if_pos h1]
      simp [State.updTr_tr, State.updCh_tr]
  · rw [if_neg h1]
    by_cases h2 : s.ch[p].state = .inch
    · rw [if_pos h2]
      refine ⟨rfl, fun q hq => ?_, ?_, ?_⟩
      · simp only [State.updCh_ch, State.updCh_tr]
        exact ⟨getElem_set_other _ _ hq, trivial⟩
      · rw [if_pos (.inr h2)]
        simp [State.updCh_ch]
      · rw [if_neg h1]
        rfl
    · rw [if_neg h2]
      exact ⟨rfl, fun q _ => ⟨rfl, rfl⟩, by rw [if_neg (by tauto)], by rw [if_neg h1]⟩

/-- A loss of lock: the tracker in SEARCH, and for a channel in RUN the douser held and what is handed on (R27, R59). -/
theorem loseLock_of_not_run (s : State) (p : Proj) (h : s.ch[p].state ≠ .run) : s.loseLock p = s.updTr p Tracker.toSearch := by
  unfold State.loseLock
  simp only
  rw [if_neg (by simpa using h)]

theorem loseLock_of_run (s : State) (p : Proj) (h : s.ch[p].state = .run) :
    HandedOn ((s.updTr p Tracker.toSearch).updCh p (fun c => c.backToRunup s.field)) (s.loseLock p)
      ∧ ((s.loseLock p).alarm.get (.proj p .lockLost)).set = true := by
  unfold State.loseLock
  simp only
  rw [if_pos (by simpa using h)]
  have h1 := pass_notified ((s.updTr p Tracker.toSearch).updCh p
    (fun c => c.backToRunup (s.updTr p Tracker.toSearch).field)) (.proj p .lockLost)
  have h2 := protect_protectOnly (((s.updTr p Tracker.toSearch).updCh p
    (fun c => c.backToRunup (s.updTr p Tracker.toSearch).field)).pass (.proj p .lockLost)) p .lockLost
  refine ⟨(h1.handedOn.trans h2.handedOn).trans (engineLockLost_engineOnly _ _ _ _).handedOn, ?_⟩
  exact (engineLockLost_engineOnly _ _ _ _).latched _ (h2.latched _ (pass_latches _ _))

/-! ### The ESTOP line while RESET is asserted (R33, R164) -/

@[simp] theorem assertEstopInReset_alarm (s : State) : s.assertEstopInReset.alarm = s.alarm := rfl
@[simp] theorem assertEstopInReset_line (s : State) : s.assertEstopInReset.line = s.line := rfl

/-- On every other block the assertion is the one that R34 describes. -/
theorem assertEstopInReset_eq (s : State) :
    s.assertEstopInReset = { s.assertEstop with alarm := s.alarm, line := s.line } := rfl

end Sys2Proof.Machine
end

