-- ==== Sys2Proof/Laws/Trackers.lean ====
section
/-! SUPPORT. What a consumption, a frame advance, a match, a correction and a tail-out test can do (R63, R70, R73, R116, R117, R157). -/

namespace Sys2Proof.Machine

/-- What the motion of film may touch: the channels, trackers, detectors and lists, and everything of `HandedOn`. The clock, the inputs,
the timebase, the map, the settings of the engine, the take port and the line, and the commands that wait stay; latches only become
set; no step comes to wait. -/
structure Moved (s t : State) : Prop where
  eq : t = { s with
    ch := t.ch, tr := t.tr, det := t.det, cues := t.cues, alarm := t.alarm
    line := { s.line with queue := t.line.queue, discarded := t.line.discarded }
    eng := { s.eng with records := t.eng.records }
    take := { s.take with slots := t.take.slots, protective := t.take.protective }, isl := t.isl, due := t.due }
  enabled : ∀ a, (t.alarm.get a).enabled = (s.alarm.get a).enabled
  latched : ∀ a, (s.alarm.get a).set = true → (t.alarm.get a).set = true
  due : ∀ d ∈ t.due, d ∈ s.due
  lines : s.alarm.refresh = s.alarm → t.alarm.refresh = t.alarm

theorem HandedOn.moved {s t : State} (h : HandedOn s t) : Moved s t where
  eq := by rw [h.eq]
  enabled := h.enabled
  latched := h.latched
  due := h.due
  lines := h.lines

theorem Notified.moved {s t : State} (h : Notified s t) : Moved s t := h.handedOn.moved

namespace Moved

theorem refl (s : State) : Moved s s := ⟨rfl, fun _ => rfl, fun _ h => h, fun _ h => h, id⟩

theorem trans {s t u : State} (h : Moved s t) (k : Moved t u) : Moved s u where
  eq := by
    rw [k.eq]
    have := h.eq
    rw [this]
  enabled a := (k.enabled a).trans (h.enabled a)
  latched a x := k.latched a (h.latched a x)
  due d x := h.due d (k.due d x)
  lines x := k.lines (h.lines x)

variable {s t : State} (h : Moved s t)
include h

theorem now : t.now = s.now := by rw [h.eq]
theorem pins : t.pins = s.pins := by rw [h.eq]
theorem resetHeld : t.resetHeld = s.resetHeld := by rw [h.eq]
theorem estop : t.estop = s.estop := by rw [h.eq]
theorem tb : t.tb = s.tb := by rw [h.eq]
theorem route : t.route = s.route := by rw [h.eq]
theorem pending : t.pending = s.pending := by rw [h.eq]
theorem horizon : t.eng.horizon = s.eng.horizon := by rw [h.eq]

end Moved

theorem foldl_moved {α : Type} (f : State → α → State) (hf : ∀ s x, Moved s (f s x)) (l : List α) (s : State) :
    Moved s (l.foldl f s) := by
  induction l generalizing s with
  | nil => exact Moved.refl s
  | cons x l ih => exact (hf s x).trans (ih _)

theorem ite_moved {s : State} {c : Prop} [Decidable c] {x y : State} (hx : Moved s x) (hy : Moved s y) :
    Moved s (if c then x else y) := by
  split
  · exact hx
  · exact hy

/-! ### The plain updates -/

theorem updCh_moved (s : State) (p : Proj) (f : Channel → Channel) : Moved s (s.updCh p f) :=
  ⟨rfl, fun _ => rfl, fun _ h => h, fun _ h => h, id⟩

theorem updTr_moved (s : State) (p : Proj) (f : Tracker → Tracker) : Moved s (s.updTr p f) :=
  ⟨rfl, fun _ => rfl, fun _ h => h, fun _ h => h, id⟩

theorem updDet_moved (s : State) (p : Proj) (f : Detector → Detector) : Moved s (s.updDet p f) :=
  ⟨rfl, fun _ => rfl, fun _ h => h, fun _ h => h, id⟩

theorem updRec_moved (s : State) (r : Rec) (f : Record → Record) : Moved s (s.updRec r f) :=
  ⟨rfl, fun _ => rfl, fun _ h => h, fun _ h => h, id⟩

theorem setCues_moved (s : State) (p : Proj) (l : List CueEntry) (n : Nat) : Moved s (s.setCues p l n) :=
  ⟨rfl, fun _ => rfl, fun _ h => h, fun _ h => h, id⟩

/-! ### STOP, consumption and reaching (R29, R116 to R120) -/

theorem giveStop_moved (s : State) (p : Proj) : Moved s (s.giveStop p) := by
  unfold State.giveStop State.requestStop
  split
  · exact Moved.refl s
  · unfold State.doStop
    refine Moved.trans ?_ (engineStop_engineOnly _ _).handedOn.moved
    split
    · exact (updCh_moved _ _ _).trans (updTr_moved _ _ _)
    · split
      · exact updCh_moved _ _ _
      · exact Moved.refl s

theorem removeCue_moved (s : State) (p : Proj) (number : Nat) : Moved s (s.removeCue p number) := by
  unfold State.removeCue
  simp only
  split
  · exact setCues_moved _ _ _ _
  · exact Moved.refl s

theorem consume_moved (s : State) (p : Proj) (e : CueEntry) (o : CueOutcome) (v : Int) (b : Bool) :
    Moved s (s.consume p e o v b) := by
  unfold State.consume
  simp only
  have h : ∀ n : Notice, (∀ q, n.isPositionOf q = false) → Moved s ((s.removeCue p e.number).post n) :=
    fun n hn => (removeCue_moved s p e.number).trans (post_notified _ n hn).moved
  refine ite_moved ?_ (h _ (fun _ => rfl))
  refine Moved.trans (Moved.trans ?_ (pass_notified _ _).moved) (updCh_moved _ _ _)
  exact h _ (fun _ => rfl)

theorem lowTest_moved (s : State) (p : Proj) (before : Nat) : Moved s (s.lowTest p before) := (passIf_notified _ _ _).moved

theorem reachEntry_moved (s : State) (p : Proj) (e : CueEntry) : Moved s (s.reachEntry p e) := by
  unfold State.reachEntry
  split
  · split
    · exact (giveStop_moved _ _).trans (consume_moved _ _ _ _ _ _)
    · exact consume_moved _ _ _ _ _ _
    · exact (updTr_moved _ _ _).trans (consume_moved _ _ _ _ _ _)
    · exact (consume_moved _ _ _ _ _ _).trans (pass_notified _ _).moved
    · exact Moved.refl s
  · exact consume_moved _ _ _ _ _ _

theorem reachPass_moved (s : State) (p : Proj) : Moved s (s.reachPass p) := by
  unfold State.reachPass
  split
  · exact foldl_moved _ (fun s e => reachEntry_moved s p e) _ _
  · exact Moved.refl s

theorem skipAtStart_moved (s : State) (p : Proj) : Moved s (s.skipAtStart p) :=
  foldl_moved _ (fun s e => consume_moved s p e _ _ _) _ _

theorem missMarks_moved (s : State) (p : Proj) : Moved s (s.missMarks p) := by
  unfold State.missMarks
  split
  · exact foldl_moved _ (fun s e => (consume_moved s p e _ _ _).trans (pass_notified _ _).moved) _ _
  · exact Moved.refl s

/-! ### The tail-out test (R157) -/

theorem tailoutTest_moved (s : State) (r : Rec) : Moved s (s.tailoutTest r) := by
  unfold State.tailoutTest
  split
  · exact Moved.refl s
  · split
    · exact Moved.refl s
    · split
      · exact (endRecord_engineOnly _ _ _).handedOn.moved.trans (giveStop_moved _ _)
      · exact Moved.refl s

theorem tailoutOf_moved (s : State) (p : Proj) : Moved s (s.tailoutOf p) := by
  unfold State.tailoutOf
  split
  · exact Moved.refl s
  · exact tailoutTest_moved _ _

/-! ### Corrections and matches (R70 to R75) -/

theorem engineCorrected_moved (s : State) (p : Proj) : Moved s (s.engineCorrected p) := by
  unfold State.engineCorrected
  simp only
  split
  · exact updRec_moved _ _ _
  · split
    · exact updRec_moved _ _ _
    · exact Moved.refl s

theorem applyCorrection_moved (s : State) (p : Proj) (c : Int) : Moved s (s.applyCorrection p c) := by
  unfold State.applyCorrection
  simp only
  refine Moved.trans (Moved.trans ?_ (lowTest_moved _ _ _)) (tailoutOf_moved _ _)
  have h1 := (updTr_moved s p (fun t => t.corrected c)).trans
    (passIf_notified (s.updTr p (fun t => t.corrected c)) (!frameInRange (s.tr[p].frame + c)) (.proj p .counterLimit)).moved
  have h2 : Moved s (if c = 0 then
      (s.updTr p (fun t => t.corrected c)).passIf (!frameInRange (s.tr[p].frame + c)) (.proj p .counterLimit)
      else ((s.updTr p (fun t => t.corrected c)).passIf (!frameInRange (s.tr[p].frame + c))
        (.proj p .counterLimit)).engineCorrected p) := by
    split
    · exact h1
    · exact h1.trans (engineCorrected_moved _ _)
  split
  · exact h2.trans (reachPass_moved _ _)
  · exact h2

theorem takeMatch_moved (s : State) (p : Proj) (detected : Int) : Moved s (s.takeMatch p detected) := by
  unfold State.takeMatch
  split
  · exact ((consume_moved _ _ _ _ _ _).trans (lowTest_moved _ _ _)).trans (applyCorrection_moved _ _ _)
  · exact (updTr_moved _ _ _).trans (passUnlessQuiet_notified _ _ _).moved

theorem takeWaiting_moved (s : State) (p : Proj) : Moved s (s.takeWaiting p) := by
  unfold State.takeWaiting
  split
  · exact Moved.refl s
  · exact (updDet_moved _ _ _).trans (takeMatch_moved _ _ _)

theorem handMatch_moved (s : State) (p : Proj) (detected : Int) : Moved s (s.handMatch p detected) := by
  unfold State.handMatch
  split
  · exact updDet_moved _ _ _
  · exact takeMatch_moved _ _ _

theorem takeFound_moved (s : State) : Moved s s.takeFound := by
  exact foldl_moved (fun (s : State) (p : Proj) => if p ∈ s.pins.late then s else s.takeWaiting p)
    (fun s p => ite_moved (Moved.refl s) (takeWaiting_moved s p)) _ _

/-- With no match waiting there is none to take. -/
theorem takeWaiting_of_none (s : State) (p : Proj) (h : s.det[p].found = none) : s.takeWaiting p = s := by
  unfold State.takeWaiting
  rw [h]

/-- With no match waiting but late ones, an event takes none. -/
theorem takeFound_of_none (s : State) (h : ∀ p : Proj, s.det[p].found = none ∨ p ∈ s.pins.late) : s.takeFound = s := by
  have hstep : ∀ p : Proj, (if p ∈ s.pins.late then s else s.takeWaiting p) = s := by
    intro p
    by_cases hl : p ∈ s.pins.late
    · rw [if_pos hl]
    · rw [if_neg hl]
      exact takeWaiting_of_none s p ((h p).resolve_right hl)
  have : ∀ l : List Proj, l.foldl (fun s p => if p ∈ s.pins.late then s else s.takeWaiting p) s = s := by
    intro l
    induction l with
    | nil => rfl
    | cons p l ih => rw [List.foldl_cons, hstep p, ih]
  exact this allProj

/-! ### Frame advances (R63) -/

theorem postPosition_moved (s : State) (n : PosNotice) : Moved s (s.postPosition n) := by
  unfold State.postPosition State.enqueue
  split
  · exact ⟨rfl, fun _ => rfl, fun _ h => h, fun _ h => h, id⟩
  · split
    · exact ⟨rfl, fun _ => rfl, fun _ h => h, fun _ h => h, id⟩
    · exact Moved.refl s

theorem reportPosition_moved (s : State) (p : Proj) : Moved s (s.reportPosition p) := by
  unfold State.reportPosition
  simp only
  split
  · exact postPosition_moved _ _
  · exact Moved.refl s

theorem frameAdvanced_moved (s : State) (p : Proj) (before : Nat) : Moved s (s.frameAdvanced p before) := by
  unfold State.frameAdvanced
  simp only
  refine Moved.trans ?_ (tailoutOf_moved _ _)
  have h1 : Moved s (if s.ch[p].sampling then s.updDet p (fun d => d.sample s.pins.proj[p].cue) else s) :=
    ite_moved (updDet_moved _ _ _) (Moved.refl s)
  have h3 : ∀ x : State, Moved s x → Moved s (((((x.reportPosition p).missMarks p).reachPass p).lowTest p before).takeWaiting p) :=
    fun x hx => ((((hx.trans (reportPosition_moved _ _)).trans (missMarks_moved _ _)).trans (reachPass_moved _ _)).trans
      (lowTest_moved _ _ _)).trans (takeWaiting_moved _ _)
  refine ite_moved (Moved.trans (h3 _ ?_) (handMatch_moved _ _ _)) (h3 _ ?_)
  · exact ite_moved (h1.trans (updDet_moved _ _ _)) h1
  · exact ite_moved (h1.trans (updDet_moved _ _ _)) h1

theorem frameRetreated_moved (s : State) (p : Proj) : Moved s (s.frameRetreated p) :=
  (updDet_moved _ _ _).trans (reportPosition_moved _ _)

theorem frameUp_moved (s : State) (p : Proj) : Moved s (s.frameUp p) := by
  unfold State.frameUp
  split
  · exact (updTr_moved _ _ _).trans (frameAdvanced_moved _ _ _)
  · exact (pass_notified _ _).moved

theorem frameDown_moved (s : State) (p : Proj) : Moved s (s.frameDown p) := by
  unfold State.frameDown
  split
  · exact (updTr_moved _ _ _).trans (frameRetreated_moved _ _)
  · exact (pass_notified _ _).moved

end Sys2Proof.Machine
end

