-- ==== Sys2Proof/Laws/Boundary.lean ====
section
/-! SUPPORT. Steps that wait at a boundary, and the state that an event from outside finds. -/

namespace Sys2Proof.Machine

/-- A step that waits and can be taken has its effect, and waits no more. -/
theorem takeDue_of_mem (s : State) (d : Due) (h : d ∈ s.due) (hc : s.canTake d = true) :
    s.takeDue d = (s.dropDue d).effect d := by simp [State.takeDue, h, hc]

/-- A step that does not wait changes nothing. -/
theorem takeDue_of_not_mem (s : State) (d : Due) (h : d ∉ s.due) : s.takeDue d = s := by simp [State.takeDue, h]

@[simp] theorem takeDues_nil (s : State) : s.takeDues [] = s := rfl

/-- With nothing waiting, nothing is taken. -/
theorem takeDues_of_no_due (s : State) (ds : List Due) (h : s.due = []) : s.takeDues ds = s := by
  induction ds generalizing s with
  | nil => rfl
  | cons d ds ih =>
    have : s.takeDue d = s := takeDue_of_not_mem s d (by simp [h])
    rw [State.takeDues, List.foldl_cons, this]
    exact ih s h

theorem settle_of_no_due (s : State) (h : s.due = []) : s.settle = s := by simp [State.settle, h]

/-- At the beginning of a field the tallies read so far become those of the field before, and nothing else changes (R97). -/
theorem ageTallies_isl (s : State) (i : Isl) :
    s.ageTallies.isl[i] = { s.isl[i] with tallyBefore := s.isl[i].tally.getD false } := by
  match i with
  | 0 | 1 | 2 | 3 => rfl

theorem ageTallies_eq (s : State) : s.ageTallies = { s with isl := s.ageTallies.isl } := rfl

/-- No step waits once the boundary is settled. -/
theorem settle_due (s : State) : s.settle.due = [] := by
  unfold State.settle
  split
  · assumption
  · rfl

theorem passTo_now (s : State) (t : Nat) : (s.passTo t).now = max s.now t := by
  unfold State.passTo
  split
  · simp; omega
  · omega

/-- Reading the input lines changes the pins and sets sensor latches (R67). -/
theorem readPins_eq (s : State) (pins : Pins) : s.readPins pins = { s with pins := pins, det := (s.readPins pins).det } := by
  have : ∀ (l : List Proj) (s : State),
      l.foldl (fun s p => if pins.proj[p].cue then s.updDet p (fun d => { d with latch := true }) else s) s
        = { s with det := (l.foldl (fun s p => if pins.proj[p].cue then s.updDet p (fun d => { d with latch := true }) else s) s).det } := by
    intro l
    induction l with
    | nil => intro s; rfl
    | cons p l ih =>
      intro s
      rw [List.foldl_cons, ih]
      split <;> rfl
  unfold State.readPins
  rw [this]

theorem arriveAt_now (s : State) (t : Nat) (pins : Pins) : (s.arriveAt t pins).now = max s.now t := by
  unfold State.arriveAt
  rw [(takeFound_moved _).now, readPins_eq]
  exact passTo_now s t

theorem arriveAt_pins (s : State) (t : Nat) (pins : Pins) : (s.arriveAt t pins).pins = pins := by
  unfold State.arriveAt
  rw [(takeFound_moved _).pins, readPins_eq]

theorem arrive_now (s : State) (m : Moment) : (s.arrive m).now = s.now + m.elapsed := by
  unfold State.arrive
  rw [arriveAt_now]
  omega

theorem arrive_pins (s : State) (m : Moment) : (s.arrive m).pins = m.pins := arriveAt_pins _ _ _

/-- An event while RESET is not asserted is carried out. -/
theorem event_of_running (s : State) (f : State → State) (h : s.resetHeld = false) : s.event f = .next (f s) := by
  simp [State.event, h]

end Sys2Proof.Machine
end

