-- ==== Sys2Proof/Laws/Messages.lean ====
section
/-! SUPPORT. What a message row comes to: the command carried out on the state that it finds, with its frame counted, and its reply
made (R180 to R182). -/

namespace Sys2Proof.Machine

/-- An individual frame that is taken (R180, R181). -/
theorem message_individual (s : State) (m : Moment) (code : Byte) (cmd : State → Answer) (h : s.resetHeld = false)
    (hp : (s.arrive m).replyPending = false) :
    s.message m .individual code cmd =
      .next ((cmd (s.arrive m).expireReply.countTaken).state.putReply code
        (cmd (s.arrive m).expireReply.countTaken).status (cmd (s.arrive m).expireReply.countTaken).body) := by
  have hp' : (s.arrive m).expireReply.line.reply.isSome = false := hp
  simp [State.message, State.event, h, State.takeVia, State.takeIndividual, hp']

/-- A group frame that is taken (R182). -/
theorem message_group (s : State) (m : Moment) (code : Byte) (cmd : State → Answer) (h : s.resetHeld = false) :
    s.message m .group code cmd = .next (cmd (s.arrive m).countTaken).state := by
  simp [State.message, State.event, h, State.takeVia, State.takeGroup]

/-- The state that the command of an individual frame finds: the frame is counted, and no reply that stood before is left but what
`r` says. -/
def State.asFound (u : State) (r : Option Reply) : State :=
  { u with line := { u.line with taken := min 65535 (u.line.taken + 1), reply := r } }

/-- A reply whose end has passed is all that expires. -/
theorem expireReply_eq (s : State) : s.expireReply = { s with line := { s.line with reply := s.expireReply.line.reply } } := by
  unfold State.expireReply
  split
  · rfl
  · rfl

/-- A reply stands until its last stop bit has passed. -/
theorem expireReply_reply (s : State) :
    s.expireReply.line.reply = s.line.reply.filter (fun r => decide (s.now ≤ s.line.replyEnd r)) := by
  unfold State.expireReply
  split <;> rename_i h <;> rcases hr : s.line.reply with _ | r <;> simp_all [State.updLine, Option.filter]

/-- The return pair is driven exactly from the start of a begun reply to its last stop bit (R181). -/
theorem drivesReturn_iff (s : State) :
    s.drivesReturn = true ↔ s.resetHeld = false
      ∧ ∃ r t, s.line.reply = some r ∧ r.started = some t ∧ s.now ≤ t + r.bytes.length * s.line.char := by
  simp only [State.drivesReturn, expireReply_reply, Line.replyEnd, Bool.and_eq_true, Bool.not_eq_true', Option.any_eq_true,
    Option.filter_eq_some_iff, Option.isSome_iff_exists]
  refine and_congr_right fun _ => ⟨?_, ?_⟩
  · rintro ⟨r, ⟨hr, h⟩, t, ht⟩
    exact ⟨r, t, hr, ht, by simpa [ht] using h⟩
  · rintro ⟨r, t, hr, ht, h⟩
    exact ⟨r, ⟨hr, by simpa [ht] using h⟩, t, ht⟩

/-- The frame counted, as its command finds it. -/
theorem countTaken_asFound (u : State) : u.expireReply.countTaken = u.asFound u.expireReply.line.reply := by
  rw [State.countTaken, expireReply_eq]
  rfl

/-- An individual frame that is taken, for every command at once: the command is carried out on the state as found, and answered. -/
theorem message_individual_asFound (s : State) (m : Moment) (h : s.resetHeld = false) (hp : (s.arrive m).replyPending = false) :
    ∃ r, ∀ (code : Byte) (cmd : State → Answer), s.message m .individual code cmd =
      .next ((cmd ((s.arrive m).asFound r)).state.putReply code (cmd ((s.arrive m).asFound r)).status
        (cmd ((s.arrive m).asFound r)).body) := by
  refine ⟨(s.arrive m).expireReply.line.reply, fun code cmd => ?_⟩
  rw [message_individual s m code cmd h hp, countTaken_asFound]

/-- A group frame that is taken, on the state as found: a reply that is pending stays. -/
theorem message_group_asFound (s : State) (m : Moment) (code : Byte) (cmd : State → Answer) (h : s.resetHeld = false) :
    s.message m .group code cmd = .next (cmd ((s.arrive m).asFound (s.arrive m).line.reply)).state :=
  message_group s m code cmd h

end Sys2Proof.Machine
end

