-- ==== Sys2Proof/Laws/Operands.lean ====
section
/-! SUPPORT. How the bytes of message fields name projectors, islands, ports and sources, and what the byte lists of the wire are. -/

namespace Sys2Proof.Machine

theorem projOf_ofNat (p : Proj) : projOf (BitVec.ofNat 8 (p.val + 1)) = some p := by revert p; decide

theorem islOf_ofNat (i : Isl) : islOf (BitVec.ofNat 8 (i.val + 1)) = some i := by revert i; decide

theorem sourceOf_ofNat (c : Source) : sourceOf (BitVec.ofNat 8 c.val) = some c := by revert c; decide

theorem portOf_ofNat (q : Port) : portOf (BitVec.ofNat 8 q.val) = some q := by revert q; decide

/-- A byte that names no projector (R19, R183). -/
theorem projOf_eq_none (a : Byte) (h : a.toNat = 0 ∨ 8 < a.toNat) : projOf a = none := by
  unfold projOf
  rw [dif_neg]
  omega

/-- A byte that names no island. -/
theorem islOf_eq_none (a : Byte) (h : a.toNat = 0 ∨ 4 < a.toNat) : islOf a = none := by
  unfold islOf
  rw [dif_neg]
  omega

/-- A byte that names no source. -/
theorem sourceOf_eq_none (a : Byte) (h : 31 < a.toNat) : sourceOf a = none := by
  unfold sourceOf
  rw [dif_neg]
  omega

/-- A byte that names no port. -/
theorem portOf_eq_none (a : Byte) (h : 2 < a.toNat) : portOf a = none := by
  unfold portOf
  rw [dif_neg]
  omega

/-- The projector that a byte names is its number less one. -/
theorem projOf_val {a : Byte} {p : Proj} (h : projOf a = some p) : a.toNat = p.val + 1 := by
  unfold projOf at h
  split at h
  · cases h
    simp only
    omega
  · cases h

@[simp] theorem length_b1 (n : Nat) : (b1 n).length = 1 := rfl

@[simp] theorem length_b2 (n : Nat) : (b2 n).length = 2 := rfl

@[simp] theorem length_b3 (n : Nat) : (b3 n).length = 3 := rfl

@[simp] theorem length_b4 (n : Nat) : (b4 n).length = 4 := rfl

@[simp] theorem length_s3 (x : Int) : (s3 x).length = 3 := rfl

@[simp] theorem length_s4 (x : Int) : (s4 x).length = 4 := rfl

@[simp] theorem length_bField (n : Field) : (bField n).length = 4 := rfl

@[simp] theorem length_bFieldOpt (n : Option Field) : (bFieldOpt n).length = 4 := rfl

@[simp] theorem length_bFrameOpt (x : Option Int) : (bFrameOpt x).length = 3 := by cases x <;> rfl

@[simp] theorem length_bFlags (bs : List Bool) : (bFlags bs).length = 1 := rfl

/-- The sizes of the five kind parts (R184). -/
theorem length_part (k : CueKind) : k.part.length = k.tag.partSize := by cases k <;> rfl

/-- An entry takes six bytes and its kind part (R184). -/
theorem length_entry (e : CueEntry) : e.bytes.length = 6 + e.kind.tag.partSize := by
  simp [CueEntry.bytes, length_part]
  omega

end Sys2Proof.Machine
end

