-- ==== Sys2Proof/WellFormed.lean ====
section
/-! DEFINITION. The commands that can come from outside: what the types of their operands do not say. The machine is total and
gives every other command a meaning as well. -/

namespace Sys2Proof

/-- An order of reactions names each at most once (R8). -/
def BoundaryOrder.wellFormed (o : BoundaryOrder) : Bool := decide o.parts.Nodup

/-- The entries of a LOAD_CUES fit a frame: the length byte is at most 64 and counts the code and the body (R177), of which the
header and the watermark are two bytes (R183). -/
def entriesFit (entries : List Byte) : Bool := decide (entries.length ≤ 61)

/-- The longest wait before a reply, at the slowest rate: four character times of 44,000 units (R181). -/
def waitFits (wait : Nat) : Bool := decide (wait ≤ 4 * 44000)

/-- The checks on a command. -/
def Instr.wellFormed : Instr → Bool
  | .fldPulse _ o => o.wellFormed
  | .internalTick _ o => o.wellFormed
  | .syncLost _ o => o.wellFormed
  | .loadCues _ _ _ es => entriesFit es
  | .replyStart wait => waitFits wait
  | .reset _ _ => true
  | .perfPulse _ _ => true
  | .shutterEdge _ _ => true
  | .cueInputAsserted _ _ => true
  | .estopAsserted _ => true
  | .estopReleased _ => true
  | .lineByte _ _ => true
  | .lineSilenceTimeout => true
  | .replyComplete => true
  | .strikeEnd _ => true
  | .lampFail _ => true
  | .runupTimeout _ => true
  | .coastEnd _ => true
  | .lockDeclared _ => true
  | .slipCorrection _ => true
  | .missingEdge _ => true
  | .mirrorComplete _ => true
  | .mirrorDeadline _ => true
  | .takeGrant => true
  | .takeStrobeDrop => true
  | .takeWindowJudged => true
  | .changeoverStart _ => true
  | .lockDecision _ => true
  | .switchCutPost _ => true
  | .mirrorCut _ => true
  | .setStandard _ _ => true
  | .setRoute _ _ _ _ => true
  | .setIsland _ _ _ _ => true
  | .setProjector _ _ => true
  | .setSignature _ _ _ _ => true
  | .setSafety _ _ _ => true
  | .setHorizon _ _ => true
  | .setMask _ _ _ _ => true
  | .setReport _ _ _ => true
  | .setGroup _ _ => true
  | .lampOn _ _ _ => true
  | .lampOff _ _ _ => true
  | .start _ _ _ => true
  | .stop _ _ _ => true
  | .inchForward _ _ => true
  | .inchReverse _ _ => true
  | .inchStop _ _ => true
  | .clear _ _ => true
  | .setMode _ _ _ _ => true
  | .preset _ _ _ => true
  | .deleteCue _ _ => true
  | .clearCues _ _ => true
  | .queryCues _ _ _ => true
  | .abortChange _ _ => true
  | .queryChanges _ => true
  | .take _ _ => true
  | .mirror _ _ _ => true
  | .queryProjector _ _ _ => true
  | .queryIsland _ _ => true
  | .queryDevice _ _ => true
  | .queryAlarms _ _ => true
  | .ackAlarms _ _ _ => true
  | .poll _ => true
  | .restart _ _ => true
  | .resetAsserted _ => true

end Sys2Proof
end

