-- ==== Sys2Proof/Tests/Slice0.lean ====
section
/-! SUPPORT. Tests with results worked from the reference, the checks of WellFormed on ill-formed terms, and for each statement
of Obligations.lean with hypotheses a state and operands that meet them. -/

namespace Sys2Proof.Tests

-- One theorem after another: the kernel evaluates each test, and tests that wait for it side by side need many threads.
set_option Elab.async false

open Sys2Proof.Machine Sys2Proof.Claims

/-! ### The words of the statements in a form that can be evaluated -/

theorem hears_iff (s : State) (m : Moment) (via : Via) :
    Hears s m via ↔ s.resetHeld = false ∧ (via = .individual → (s.arrive m).replyPending = false) := Iff.rfl

theorem atRest_iff (c : Channel) :
    AtRest c ↔ c.state = .dark ∨ c.state = .strike ∨ c.state = .ready ∨ c.state = .fault := Iff.rfl

theorem inNoRecord_iff (u : State) (p : Proj) :
    InNoRecord u p ↔ ∀ r : Rec, (u.eng.records[r]).all (fun rec => decide (rec.a ≠ p) && decide (rec.b ≠ p)) = true := by
  simp [InNoRecord, Option.all_eq_true]

theorem notIncoming_iff (u : State) (p : Proj) :
    NotIncoming u p ↔ ∀ r : Rec, (u.eng.records[r]).all (fun rec => decide (rec.b ≠ p)) = true := by
  simp [NotIncoming, Option.all_eq_true]

theorem noFall_iff (u : State) (p : Proj) (l : List CueEntry) (f : Int) :
    NoFall u p l f ↔ u.cues.low[p] = 0 ∨ u.ahead p < u.cues.low[p] ∨ u.cues.low[p] ≤ aheadOf l f := Iff.rfl

theorem undisturbed_iff (z : State) (p : Proj) :
    Undisturbed z p ↔ z.cues.lists[p] = [] ∧ z.pins.proj[p].loop = false ∧ z.pins.proj[p].tail = false := Iff.rfl

theorem atHome_iff (z : State) (i : Isl) :
    AtHome z i ↔ z.isl[i].reading = some z.pins.isl[i].mpos ∧ z.pins.isl[i].mpos.val = z.isl[i].commanded.val := Iff.rfl

theorem drifts_iff (z : State) (i : Isl) :
    Drifts z i ↔ z.isl[i].pending = none ∧ z.isl[i].wasPending = false ∧ z.isl[i].settled = some z.isl[i].commanded
      ∧ ¬(z.isl[i].reading = some z.pins.isl[i].mpos ∧ z.pins.isl[i].mpos.val = z.isl[i].commanded.val) := Iff.rfl

theorem undisturbedRecord_iff (z : State) (r : Rec) (rec : Record) :
    Undisturbed.Record z r rec ↔ Undisturbed z rec.a ∧ Undisturbed z rec.b ∧ ∀ i : Isl, z.isl[i].claim = some r → ¬Drifts z i := Iff.rfl

theorem completes_iff (d : Detector) (h : List Bool) :
    Completes d h ↔ d.sigLen ≤ h.length ∧ h.drop (h.length - d.sigLen) = d.sigPat := Iff.rfl

/-- Whether a MARK entry's window contains a frame. -/
def openB (e : CueEntry) (frame : Int) : Bool :=
  match e.kind with
  | .mark x => decide ((e.pos : Int) - x ≤ frame) && decide (frame ≤ (e.pos : Int) + x)
  | _ => false

theorem openAt_iff (e : CueEntry) (frame : Int) : OpenAt e frame ↔ openB e frame = true := by
  unfold OpenAt openB
  cases e.kind <;> simp

theorem advances_iff (z : State) (p : Proj) (n : Field) (q : Pos) :
    Advances z p n q ↔ z.tr[p].lock = .locked ∧ z.tr[p].pos = some q ∧ q.c.len ≤ q.i + 1 ∧ q.f = z.tr[p].frame ∧ z.tr[p].frame < 999999
      ∧ (∀ w ∈ z.tr[p].slipWait, w.boundary ≠ n) ∧ (z.ch[p].state = .runup ∨ z.ch[p].state = .run) := Iff.rfl

theorem slotsFitRecords_iff (s : State) :
    SlotsFitRecords s ↔ ∀ r : Rec, (s.take.slots[r]).isSome = true →
      (s.eng.records[r]).any (fun rec => decide (rec.state = .cutting) && decide (rec.method = .switch)) = true := by
  simp only [SlotsFitRecords, Option.any_eq_true, Option.isSome_iff_exists, Bool.and_eq_true, decide_eq_true_eq]
  exact ⟨fun h r ⟨q, e⟩ => h r q e, fun h r q e => h r ⟨q, e⟩⟩

/-- Two records are apart as R129 asks. -/
def apart (x y : Record) : Bool :=
  decide (x.a ≠ y.a) && decide (x.a ≠ y.b) && decide (x.b ≠ y.a) && decide (x.b ≠ y.b)

theorem recordsDisjoint_iff (s : State) :
    RecordsDisjoint s ↔ ∀ r x : Rec, (s.eng.records[r]).all (fun rec => decide (rec.a ≠ rec.b)
      && (decide (r = x) || (s.eng.records[x]).all (fun y => apart rec y))) = true := by
  simp only [RecordsDisjoint, Option.all_eq_true, Bool.and_eq_true, Bool.or_eq_true, decide_eq_true_eq, apart]
  constructor
  · intro h r x rec hr
    refine ⟨(h r r rec rec hr hr).1, ?_⟩
    by_cases e : r = x
    · exact .inl e
    · refine .inr fun y hy => ?_
      obtain ⟨h1, h2, h3, h4⟩ := (h r x rec y hr hy).2 e
      exact ⟨⟨⟨h1, h2⟩, h3⟩, h4⟩
  · intro h r x rec y hr hy
    obtain ⟨h1, h2⟩ := h r x rec hr
    refine ⟨h1, fun e => ?_⟩
    rcases h2 with h2 | h2
    · exact absurd h2 e
    · obtain ⟨⟨⟨a, b⟩, c⟩, d⟩ := h2 y hy
      exact ⟨a, b, c, d⟩

/-- The ranges of R109 and R110. -/
def inRangeB (e : CueEntry) : Bool :=
  decide (1 ≤ e.number) && decide (e.number ≤ 65535) && decide (e.pos ≤ 999999)
    && match e.kind with
      | .change part => decide (part.target ≤ 999999) && decide (part.tolerance ≤ 15) && part.tailOut.all (fun t => decide (t ≤ 4095))
      | .mark t => decide (t ≤ 15)
      | .quiet l => decide (1 ≤ l) && decide (l ≤ 65535)
      | _ => true

theorem inRange_of_eval (e : CueEntry) (h : inRangeB e = true) : e.inRange := by
  unfold inRangeB at h
  unfold CueEntry.inRange
  cases hk : e.kind <;> simp_all [Option.all_eq_true]

theorem whole_of_eval (c : CueStore)
    (h : c.free + c.total = 256 ∧ (∀ p : Proj, c.lists[p].Pairwise (fun x y => x.pos < y.pos))
      ∧ (∀ p q : Proj, ∀ x ∈ c.lists[p], ∀ y ∈ c.lists[q], x.number = y.number → p = q ∧ x = y)
      ∧ (∀ p : Proj, ∀ x ∈ c.lists[p], inRangeB x = true) ∧ ∀ p : Proj, c.low[p] ≤ 15) : c.Whole :=
  ⟨h.1, h.2.1, h.2.2.1, fun p x hx => inRange_of_eval x (h.2.2.2.1 p x hx), h.2.2.2.2⟩

/-! ### Small states -/

/-- The state after reset. -/
def base : State := State.reset

/-- A moment at the same time with the inputs at rest. -/
def still : Moment := ⟨0, Pins.rest⟩

/-- A moment some units later with the inputs at rest. -/
def later (n : Nat) : Moment := ⟨n, Pins.rest⟩

/-- The inputs with the lines of one projector. -/
def pinsOf (p : Proj) (q : ProjPins) : Pins := { Pins.rest with proj := Pins.rest.proj.set p q }

/-- The next state of a row, or the state after reset where there is none. -/
def after (i : Instr) (s : State) : State :=
  match exec i s with
  | .next t => t
  | .fault _ => State.reset
  | .refused _ => State.reset

/-- The bytes of the reply that waits. -/
def replyBytesOf (s : State) : List Byte := s.line.reply.elim [] Reply.bytes

/-- The status code of the reply that waits. -/
def statusOf (s : State) : Option Byte := (replyBytesOf s)[4]?

def withCh (p : Proj) (c : Channel) (s : State) : State := { s with ch := s.ch.set p c }
def withTr (p : Proj) (t : Tracker) (s : State) : State := { s with tr := s.tr.set p t }
def withIsl (i : Isl) (x : Island) (s : State) : State := { s with isl := s.isl.set i x }
def withRec (r : Rec) (x : Record) (s : State) : State := { s with eng := { s.eng with records := s.eng.records.set r (some x) } }
def withDue (d : Due) (s : State) : State := { s with due := s.due ++ [d] }
def withCue (p : Proj) (e : CueEntry) (s : State) : State :=
  { s with cues := { s.cues with free := s.cues.free - 1, lists := s.cues.lists.set p (insertCue e s.cues.lists[p]) } }
def withField (n : Field) (s : State) : State := { s with tb := { s.tb with field := n } }
def withLine (f : Line → Line) (s : State) : State := { s with line := f s.line }

/-- A reply that waits since time 0. -/
def aReply : Reply := ⟨[0x01, 0, 2, 0xE5, 0], 0, none⟩

def chStrike : Channel := { Channel.powerOn with state := .strike, lamp := true, strike := some ⟨0, 100, 100⟩ }
def chReady : Channel := { Channel.powerOn with state := .ready, lamp := true }
def chRunup : Channel :=
  { chReady with state := .runup, motor := true, runup := some ⟨0, 0, 300⟩, record := some ⟨0, 0, true⟩ }
def chRun : Channel :=
  { chReady with state := .run, motor := true, douse := true, record := some ⟨0, 0, false⟩, mode := .auto }
def chCoast : Channel := { chReady with state := .coast }
def chInch : Channel := { chReady with state := .inch, inchF := true }
def chFault : Channel := { Channel.powerOn with state := .fault, cause := .runout }

def trSearch : Tracker := { Tracker.powerOn with motor := true, lock := .search }
/-- A LOCKED tracker at the start of frame f, its edge due two fields after the field given. -/
def trLocked (f : Int) (n : Field) : Tracker :=
  { Tracker.powerOn with
    motor := true, lock := .locked, interval := some 4, frame := f, pos := some ⟨f, 0, .even⟩, edgeDue := some (n + 2) }

/-- A record of cue 7 from P1 to P3, which stands at another island. -/
def switchRec : Record :=
  { state := .armed, cue := 7, a := 0, b := 2, p := 100, q := 50, tolerance := 2, policy := .hold, margin := 10, priority := 1,
    tailOut := some 20, method := .switch, uUsed := 60, dUsed := 8, stepP := .even, lead := 60, startField := none, e := none,
    planned := none, cutMade := none, deferrals := 0, flags := ⟨false, false, false, false⟩, result := none }
/-- A record of cue 7 from P1 to P2, which stands at the same island. -/
def mirrorRec : Record := { switchRec with b := 1, method := .mirror }
/-- A record with its plan. -/
def planned (r : Record) (n : Field) : Record := { r with state := .locked, planned := some n, result := some .onTime, e := some 0 }

/-- The state in which P1 runs at frame f in field 1000. -/
def running (f : Int) : State := withTr 0 (trLocked f 1000) (withCh 0 chRun (withField 1000 base))

/-- Entries of the lists. -/
def stopCue (n p : Nat) : CueEntry := ⟨n, p, .stop⟩
def changeCue (n p : Nat) (b : Proj) (q : Nat) : CueEntry := ⟨n, p, .change ⟨b, q, 2, .hold, 1, 0, 10, some 20⟩⟩

/-- A timebase in a state in field 1,000, whose next pulse completes the run when it is not in SYNC. -/
def atField (st : TbState) : State :=
  { base with tb := { base.tb with state := st, field := 1000, runCount := 15, lastPulse := some 0, tick := some 768000 } }

/-- What the boundary of each of the four rows that make one finds of a state, with the inputs given: a pulse in SYNC, the pulse that
completes the run, a tick and a loss of SYNC. The field that begins is 1,001. -/
def found4 (f : State → State) (pins : Pins) : List State :=
  [((f (atField .sync)).arrive ⟨768000, pins⟩).settle, ((f (atField .acquire)).arrive ⟨768000, pins⟩).settle,
    ((f (atField .acquire)).arriveAt 768000 pins).settle, ((f (atField .sync)).arriveAt 2304000 pins).settle]

/-- The inputs with the lines of one island. -/
def pinsAt (i : Isl) (q : IslPins) : Pins := { Pins.rest with isl := Pins.rest.isl.set i q }

/-! ### WellFormed: each check refuses a term that breaks it -/

theorem test_wf_order_names_a_reaction_twice : (Instr.fldPulse still ⟨[.islands, .islands]⟩).wellFormed = false := by decide
theorem test_wf_order_names_a_step_twice :
    (Instr.internalTick Pins.rest ⟨[.step .takeGrant, .take, .step .takeGrant]⟩).wellFormed = false := by decide
theorem test_wf_order_of_sync_lost : (Instr.syncLost Pins.rest ⟨[.arming 1, .arming 2, .arming 1]⟩).wellFormed = false := by decide
theorem test_wf_entries_too_long : (Instr.loadCues still 0x41 0xFF (List.replicate 62 0)).wellFormed = false := by decide
theorem test_wf_entries_longest : (Instr.loadCues still 0x41 0xFF (List.replicate 61 0)).wellFormed = true := by decide
theorem test_wf_wait_too_long : (Instr.replyStart 176001).wellFormed = false := by decide
theorem test_wf_order_in_any_order :
    (Instr.fldPulse still ⟨[.take, .arming 7, .islands, .channel 7, .tracker 7, .step (.mirrorCut 3)]⟩).wellFormed = true := by decide

/-! ### The queue -/

theorem test_no_word_spells_a_command : decodeTableWord 8 0x20 = none := by decide
theorem test_step_takes_the_front :
    (match step { base with pending := [.poll still, .replyComplete] } with
      | .next t => t.pending
      | _ => []) = [.replyComplete] := by decide +kernel

/-! ### Cadence: the worked cases of chapters 1 and 8 -/

theorem test_diff_over_the_wrap : fieldDiff 4 4294967293 = 7 ∧ fieldAdd 4294967293 7 = 4 := by decide +kernel
theorem test_cad_largest : cad 1099999 .long = 2749998 ∧ cad 1099999 .even = 2199998 := by decide +kernel
theorem test_cad_of_leads : cad 18 .long = 45 ∧ cad 19 .short = 47 := by decide +kernel
theorem test_leads : leadOf 48 18 .long = 93 ∧ leadOf 48 19 .long = 95 := by decide +kernel
theorem test_reach_s50 :
    [740, 501, 500, 496].map (fun x => (⟨500, 1, .even⟩ : Pos).reach x) = [479, 1, -1, -9] := by decide +kernel
theorem test_reach_s60 : [1240, 997].map (fun x => (⟨1000, 1, .long⟩ : Pos).reach x) = [599, -8] := by decide +kernel
theorem test_step_behind : (⟨1000, 1, .long⟩ : Pos).stepOf 997 = .short := by decide +kernel
theorem test_reach_table :
    [(⟨1000, 1, .long⟩ : Pos), ⟨1000, 2, .long⟩, ⟨1001, 0, .short⟩, ⟨1001, 1, .short⟩, ⟨1002, 0, .long⟩, ⟨1002, 1, .long⟩,
      ⟨1002, 2, .long⟩, ⟨1003, 0, .short⟩, ⟨1003, 1, .short⟩].map (fun q => q.reach 1003) = [7, 6, 5, 4, 3, 2, 1, 0, -1] := by
  decide +kernel
theorem test_advance_over_the_frame : (⟨1000, 2, .long⟩ : Pos).advance = ⟨1001, 0, .short⟩ := by decide +kernel
theorem test_reach_of_incoming : (⟨78, 0, .long⟩ : Pos).reach 96 = 45 := by decide +kernel

/-! ### Run-up history: the worked example of chapter 2 -/

theorem test_run_up_average :
    averageNewest 4 [61, 50, 47, 52, 48] = 49 ∧ averageNewest 4 [8, 6, 7, 6, 8] = 7 ∧ averageNewest 4 [50, 48, 50, 50] = 50 := by
  decide +kernel

/-! ### Edges: the worked sequences of chapter 3 -/

/-- P1 in SEARCH at a frame with a run. -/
def seeking (frame : Int) (run : Nat) (last : Option Field) : Tracker :=
  { trSearch with frame := frame, run := run, lastIn := last }

theorem test_edge_outside_the_window :
    (seeking 73 0 none).searchEdge .s60 5003 50 = seeking 73 0 none := by decide +kernel
theorem test_edge_brings_the_lock :
    ((seeking 77 3 (some 5012)).searchEdge .s60 5013 62).pendingLock = some ⟨5014, 77, 0, .long⟩ := by decide +kernel
theorem test_edge_late_brings_the_lock_a_field_later :
    ((seeking 77 3 (some 5012)).searchEdge .s60 5014 2).pendingLock = some ⟨5015, 77, 1, .long⟩ := by decide +kernel

/-- P1 LOCKED under S60 as in the worked DROP, in field 8,001 at an offset in sixty-fourths. -/
def droppingState (offset : Nat) : State :=
  { withTr 0 { trLocked 400 8001 with pos := some ⟨400, 1, .long⟩, edgeDue := some 8003 } (withCh 0 chRun (withField 8001 base)) with
    now := offset * 10000 } |> fun s => { s with tb := { s.tb with standard := .s60 } }

theorem test_drop_edge :
    (after (.shutterEdge still 0) (droppingState 40)).tr[0] =
      { (droppingState 40).tr[0] with
        interval := some 0, slips := 1, out := 1, edgeDue := some 8004, slipWait := some ⟨8002, 401, 0, .short⟩ } := by
  decide +kernel

/-- P6 LOCKED under S50 as in the worked REPEAT, in field 9,003 at offset 5. -/
def repeatingState : State :=
  { withTr 5 { trLocked 601 9002 with pos := some ⟨601, 1, .even⟩, edgeDue := some 9002 } (withCh 5 chRun (withField 9003 base)) with
    now := 5 * 12000 }

theorem test_repeat_edge :
    (after (.shutterEdge still 5) repeatingState).tr[5].edgeDue = some 9005
      ∧ (after (.shutterEdge still 5) repeatingState).tr[5].slipWait = some ⟨9004, 601, 1, .even⟩ := by decide +kernel

/-- P2 at edge 7 of the worked defects: an empty interval after two others. -/
def breakingState : State :=
  withTr 1 { trLocked 200 998 with interval := some 0, empty := 2, perfDefects := 15 } (withCh 1 chRun (withField 1000 base))

theorem test_third_empty_interval_breaks_the_film :
    (after (.shutterEdge still 1) breakingState).tr[1].perfDefects = 16
      ∧ (after (.shutterEdge still 1) breakingState).ch[1].state = .fault
      ∧ (after (.shutterEdge still 1) breakingState).ch[1].cause = .filmBreak := by decide +kernel

/-! ### A correction: the worked sequence of chapter 4 -/

/-- P5 at (1,497, 0, EVEN) in field 30,011 with its list. -/
def correcting : State :=
  withCue 4 ⟨3, 1900, .stop⟩ (withCue 4 ⟨2, 1500, .mark 4⟩
    (withTr 4 { trLocked 1497 30011 with corrections := 41 } (withCh 4 { chRun with mode := .manual } (withField 30011 base))))

theorem test_match_corrects_the_frame :
    (correcting.takeMatch 4 1497).tr[4].pos = some ⟨1500, 0, .even⟩
      ∧ (correcting.takeMatch 4 1497).tr[4].corrections = 42
      ∧ (correcting.takeMatch 4 1497).cues.lists[4] = [⟨3, 1900, .stop⟩] := by decide +kernel
theorem test_match_posts_its_correction :
    (correcting.takeMatch 4 1497).line.queue.head? = some (.cue ⟨4, 2, .mark, 1500, .matched, 3, 30011, 1497⟩) := by decide +kernel

/-! ### Cues: the worked load of chapter 7 -/

/-- P2 in RUN at frame 120 with its two entries and two free places. -/
def loading : State :=
  { withCue 1 ⟨10, 200, .note⟩ (withCue 1 (changeCue 11 1500 3 0) (withTr 1 (trLocked 120 1000) (withCh 1 chRun base))) with
    line := Line.powerOn 0 0 } |> fun s => { s with cues := { s.cues with free := 2 } }

/-- The four entries as bytes of R184. -/
def fourEntries : List Byte :=
  [⟨12, 1800, .stop⟩, ⟨10, 900, .note⟩, ⟨13, 110, .mark 4⟩, changeCue 14 1600 1 0].flatMap CueEntry.bytes

theorem test_load_with_mixed_results :
    (replyBytesOf (after (.loadCues still 0x42 0xFF fourEntries) loading)).drop 4 = [0x00, 0x00, 0x1A, 0x21, 0x22] := by
  decide +kernel
theorem test_load_result_lists :
    (after (.loadCues still 0x42 0xFF fourEntries) loading).cues.lists[1].map CueEntry.pos = [200, 1500, 1800]
      ∧ (after (.loadCues still 0x42 0xFF fourEntries) loading).cues.free = 1 := by decide +kernel

/-! ### Changeovers: the worked cases of chapters 8 and 9 -/

/-- P5 and P6 at boundary 41,200 of the late arming, with the entry in P5's list; records 0 and 1 in use. -/
def lateArming : State :=
  let cfg : ChanConfig := { Channel.powerOn.config with progU := 60, progD := 8, adaptDepth := 0 }
  withRec 0 { switchRec with a := 0, b := 2 } (withRec 1 { switchRec with cue := 8, a := 1, b := 3 }
    (withCue 4 ⟨40, 2040, .change ⟨5, 40, 2, .hold, 1, 0, 30, some 200⟩⟩
      (withTr 5 { Tracker.powerOn with frame := 10 } (withCh 5 { chReady with config := cfg }
        (withTr 4 (trLocked 2000 41200) (withCh 4 chRun (withField 41200 { base with eng := ⟨Vector.replicate 4 none, 100⟩ })))))))

theorem test_late_arming :
    (lateArming.armAttempt 4).eng.records[2] = some
      { state := .starting, cue := 40, a := 4, b := 5, p := 2040, q := 40, tolerance := 2, policy := .hold, margin := 30,
        priority := 1, tailOut := some 200, method := .mirror, uUsed := 60, dUsed := 8, stepP := .even, lead := 104,
        startField := some 41200, e := none, planned := none, cutMade := none, deferrals := 0,
        flags := ⟨false, false, false, true⟩, result := none } := by decide +kernel
theorem test_late_arming_claims_the_island :
    (lateArming.armAttempt 4).isl[2].claim = some 2 ∧ (lateArming.armAttempt 4).ch[5].state = .runup
      ∧ (lateArming.armAttempt 4).line.queue.head? = some (.cue ⟨4, 40, .change, 2040, .armed, 2, 41200, 2000⟩) := by decide +kernel

/-- The decision of chapter 9 at field 20,556, under a tolerance, a policy and a margin. -/
theorem test_one_decision_under_each_setting :
    decideCut 20556 2 43 45 2 .abandon 0 = some (20599, .onTime)
      ∧ decideCut 20556 2 43 45 1 .cutOnTime 6 = some (20599, .lateCut)
      ∧ decideCut 20556 2 43 45 1 .hold 6 = some (20601, .held)
      ∧ decideCut 20556 2 43 45 1 .hold 1 = some (20600, .heldShort)
      ∧ decideCut 20556 2 43 45 1 .abandon 6 = none
      ∧ decideCut 20556 (-2) 43 41 1 .hold 6 = some (20599, .early) := by decide +kernel
theorem test_lateness_of_a_mirror_command : commandLateness 100 (fieldAdd 102 (-6)) = 4 := by decide +kernel

/-! ### Takes: the worked contention of chapter 6 -/

/-- The requests of the worked contention at a boundary. -/
def contending (n : Field) (slot0 slot2 : Option ChangeReq) (prot : Option ProtectReq) (host : Option HostReq) : State :=
  { withDue .takeGrant (withField n base) with
    tb := { base.tb with field := n, state := .sync, madeInSync := true }
    take := { base.take with slots := #v[slot0, none, slot2, none], protective := prot, host := host } }

theorem test_contention_priority :
    (after .takeGrant (contending 2000 (some ⟨2, 1, 1990, 2000, 0⟩) (some ⟨4, 3, 1990, 2000, 0⟩) none (some ⟨7, 1998, 1999⟩))).take.tsrc = 4
      ∧ (after .takeGrant (contending 2000 (some ⟨2, 1, 1990, 2000, 0⟩) (some ⟨4, 3, 1990, 2000, 0⟩) none
          (some ⟨7, 1998, 1999⟩))).take.slots[0] = some ⟨2, 1, 1990, 2000, 1⟩ := by decide +kernel
theorem test_contention_protective_first :
    (after .takeGrant (contending 2001 (some ⟨2, 1, 1990, 2000, 1⟩) none (some ⟨0, none, 2000, 2001⟩) (some ⟨7, 1998, 1999⟩))).take.last
      = some ⟨2001, 0, .protective⟩ := by decide +kernel
theorem test_contention_host_last :
    (after .takeGrant (contending 2003 none none none (some ⟨7, 1998, 1999⟩))).take.last = some ⟨2003, 7, .host⟩ := by decide +kernel

/-! ### Alarms: the worked masks and the full queue of chapter 10 -/

/-- A SLIP on P4 taken twice. -/
def twoSlips : State := ((withTr 3 (trLocked 1210 3000) (withField 3000 base)).pass (.proj 3 .slip)).pass (.proj 3 .slip)

theorem test_second_event_counts :
    twoSlips.alarm.get (.proj 3 .slip) = ⟨true, 2, true⟩ ∧ twoSlips.alarm.minor = true ∧ twoSlips.alarm.major = false
      ∧ twoSlips.line.queue = [.alarm (.proj 3 .slip) 3000 (some 1210)] := by decide +kernel
theorem test_mask_puts_the_line_out :
    (after (.setMask still 4 0x200 0) twoSlips).alarm.minor = false
      ∧ (after (.setMask still 4 0x200 0) twoSlips).alarm.get (.proj 3 .slip) = ⟨true, 2, false⟩ := by decide +kernel
theorem test_acknowledgement :
    (after (.ackAlarms still 4 0x200) twoSlips).alarm.get (.proj 3 .slip) = ⟨false, 0, true⟩
      ∧ replyBytesOf (after (.ackAlarms still 4 0x200) twoSlips) = [0x01, 0, 3, 0xE4, 0, 0] := by decide +kernel

/-- A queue of 16 notices. -/
def fullQueue : State :=
  withLine (fun l => { l with queue := List.replicate 16 (.alarm (.dev .syncLost) 0 none) }) base

theorem test_full_queue :
    (fullQueue.post (.alarm (.proj 0 .runout) 0 none)).line.queue.length = 16
      ∧ (fullQueue.post (.alarm (.proj 0 .runout) 0 none)).line.discarded = 2
      ∧ (fullQueue.post (.alarm (.proj 0 .runout) 0 none)).alarm.get (.dev .noticeLost) = ⟨true, 1, true⟩
      ∧ (fullQueue.post (.alarm (.proj 0 .runout) 0 none)).alarm.minor = true := by decide +kernel

/-! ### The line: frames and the sizes of the layouts of chapter 11 -/

/-- The bytes as characters without error, read one after another at one moment. -/
def heard (s : State) (bytes : List Byte) : State := bytes.foldl (fun s b => after (.lineByte still (goodChar b)) s) s

/-- The part of the worked busy line: address 5, rate 19200, group mask 0x30. -/
def busyLine : State :=
  withLine (fun l => { l with own := 5, rate := 1, mask := 0x30, queue := List.replicate 3 (.alarm (.dev .syncLost) 0 none) }) base

theorem test_poll_frame :
    (heard busyLine [0x01, 5, 1, 0x65]).line.taken = 1 ∧ (heard busyLine [0x01, 5, 1, 0x65]).line.queue.length = 2
      ∧ replyBytesOf (heard busyLine [0x01, 5, 1, 0x65]) = [0x01, 5, 13, 0xE5, 0, 1, 13, 21, 1, 0, 0, 0, 0, 0x80, 0, 0] := by
  decide +kernel
theorem test_group_frame_to_21 :
    (heard (withCh 0 chRun busyLine) [0x01, 21, 2, 0x22, 0]).ch[0].state = .coast
      ∧ (heard (withCh 0 chRun busyLine) [0x01, 21, 2, 0x22, 0]).line.reply = none := by decide +kernel
theorem test_frame_to_9_is_foreign : (heard busyLine [0x01, 9, 1]).line.rx = .foreign (some 1) := by decide +kernel
theorem test_parity_of_soh : goodChar 0x01 = ⟨0x01, false, true⟩ := by decide +kernel
theorem test_reply_sizes :
    [(Instr.queryProjector still 1 0, 113), (.queryDevice still 0, 106), (.queryAlarms still 13, 34), (.queryIsland still 4, 31),
      (.queryChanges still, 11)].all (fun x => (replyBytesOf (after x.1 base)).length = x.2) = true := by decide +kernel

/-! ### Witnesses: the step, RESET, ESTOP and the timebase -/

theorem witness_StepRunsFrontCommand : base.pending = [] := by decide +kernel
theorem witness_ArriveReadsInputs : base.due = [] := by decide +kernel
/-- A match of P1 at frame 99 that the cue store has not taken, before its MARK entry at 100. -/
def matchWaits : State :=
  withCue 0 ⟨9, 100, .mark 2⟩ (withTr 0 { Tracker.powerOn with frame := 99 }
    { base with det := base.det.set 0 { base.det[0] with found := some 99 } })

theorem witness_ArriveReadsInputs_match_taken :
    matchWaits.due = [] ∧ matchWaits.det[(0 : Proj)].found = some 99 ∧ (0 : Proj) ∉ still.pins.late
      ∧ ∀ x : Proj, x ≠ 0 → matchWaits.det[x].found = none := by decide +kernel
theorem witness_ArriveReadsInputs_late :
    ∀ p : Proj, matchWaits.det[p].found = none ∨ p ∈ ({ Pins.rest with late := [0] } : Pins).late := by decide +kernel
theorem test_waiting_match_is_taken :
    (matchWaits.arrive still).tr[0].frame = 100 ∧ (matchWaits.arrive ⟨0, { Pins.rest with late := [0] }⟩).tr[0].frame = 99 := by
  decide +kernel
theorem witness_ResetAssertedDropsLines : base.resetHeld = false := by decide +kernel
theorem witness_ResetAssertedDropsLines_held :
    { base with resetHeld := true }.resetHeld = true ∧ (∀ straps pins, Instr.poll still ≠ .reset straps pins)
      ∧ (∀ m, Instr.poll still ≠ .estopAsserted m) ∧ ∀ m, Instr.poll still ≠ .estopReleased m :=
  ⟨rfl, fun _ _ => nofun, fun _ => nofun, fun _ => nofun⟩

/-- The line of a state with a queue of 16 notices. -/
def fullOf (s : State) : Line := { s.line with queue := List.replicate 16 (.alarm (.dev .syncLost) 0 none) }

/-- The ESTOP line asserted, every channel in FAULT with cause ESTOP. -/
def estopped : State :=
  { base with estop := true, ch := Vector.replicate 8 { Channel.powerOn with state := .fault, cause := .estop } }

/-- RESET asserted with the ESTOP line not asserted and asserted. -/
theorem witness_ResetAssertedDropsLines_estop :
    { base with resetHeld := true }.resetHeld = true ∧ { base with resetHeld := true }.estop = false
      ∧ { estopped with resetHeld := true }.resetHeld = true ∧ { estopped with resetHeld := true }.estop = true := by decide +kernel
/-- The outputs of a running projector go off with the ESTOP line while RESET is asserted (R33), and nothing is latched (R164). -/
theorem test_estop_while_reset_is_held :
    let s := after (.resetAsserted still) (withCh 0 chRun base)
    let t := after (.estopAsserted still) s
    s.ch[0].motor = true ∧ t.ch[0].motor = false ∧ t.ch[0].lamp = false ∧ t.ch[0].douse = false ∧ t.ch[0].cause = .estop
      ∧ (t.alarm.get (.dev .estop)).set = false ∧ t.alarm.major = false
      ∧ (after (.estopReleased still) t).estop = false ∧ (after (.estopReleased still) t).ch[0].state = .fault := by decide +kernel

theorem witness_EstopAssertedStopsAll : base.resetHeld = false ∧ (base.arrive still).estop = false := by decide +kernel
theorem witness_EstopAssertedStopsAll_again : estopped.resetHeld = false ∧ (estopped.arrive still).estop = true := by
  decide +kernel
theorem witness_EstopReleasedOnlyLatches : estopped.resetHeld = false ∧ (estopped.arrive still).estop = true := by decide +kernel
/-- ESTOP_RELEASED latched already, and not, with a full queue. -/
theorem witness_EstopReleasedOnlyLatches_latched :
    (((estopped.pass (.dev .estopReleased)).arrive still).alarm.get (.dev .estopReleased)).set = true
      ∧ ((estopped.pass (.dev .estopReleased)).arrive still).estop = true
      ∧ ({ estopped with line := fullOf estopped }.arrive still).line.queue.length = 16 := by decide +kernel
theorem test_second_release_counts :
    (after (.estopReleased still) (estopped.pass (.dev .estopReleased))).alarm.get (.dev .estopReleased) = ⟨true, 2, true⟩
      ∧ (after (.estopReleased still) { estopped with line := fullOf estopped }).line.discarded = 2 := by decide +kernel
theorem witness_EstopReleasedOnlyLatches_not_asserted : base.resetHeld = false ∧ (base.arrive still).estop = false := by
  decide +kernel

/-- A timebase in a state with a run count, its last pulse at time 0 and its last internal boundary as given. -/
def timed (st : TbState) (run : Nat) (tick lastTick : Option Nat) : State :=
  { base with tb := { base.tb with state := st, runCount := run, lastPulse := some 0, tick := tick, lastTick := lastTick } }

theorem witness_PulseInSyncIsBoundary :
    (timed .sync 16 none none).resetHeld = false ∧ ((timed .sync 16 none none).arrive (later 768000)).tb.state = .sync := by
  decide +kernel
theorem witness_SixteenthPulseEntersSync_makes_a_boundary :
    let u := (atField .acquire).arrive (later 768000)
    u.tb.state ≠ .sync ∧ runCountAfter u.tb u.now = 16 ∧ u.tb.lastTick = none ∧ u.tb.field + 1 = 1001 := by decide +kernel

/-- A tally of I1 that goes off with no take before, or with one 5 fields before, is a TALLY_CHANGE; one 1 or 4 fields before accounts
for it. -/
theorem witness_BoundaryReads :
    let gone (l : Option LastTake) (s : State) : State :=
      { withIsl 0 { s.isl[0] with tally := some true } s with take := { s.take with last := l } }
    (∀ z ∈ found4 (gone none) Pins.rest, z.isl[(0 : Isl)].tally = some (!z.pins.isl[(0 : Isl)].tly) ∧ z.take.last = none)
      ∧ (∀ z ∈ found4 (gone (some ⟨996, 1, .host⟩)) Pins.rest,
          z.take.last = some ⟨996, 1, .host⟩ ∧ ¬(1 ≤ fieldDiff 1001 996 ∧ fieldDiff 1001 996 ≤ 4))
      ∧ (∀ z ∈ found4 (gone (some ⟨997, 1, .host⟩)) Pins.rest,
          z.take.last = some ⟨997, 1, .host⟩ ∧ 1 ≤ fieldDiff 1001 997 ∧ fieldDiff 1001 997 ≤ 4)
      ∧ ∀ z ∈ found4 id Pins.rest, z.isl[(0 : Isl)].tally ≠ some (!z.pins.isl[(0 : Isl)].tly) := by decide +kernel
/-- A tally of I1 that goes off at the boundary of a grant, three fields after a take. -/
def goneAtGrant (s : State) : State :=
  { withIsl 0 { s.isl[0] with tally := some true } s with
    take := { s.take with last := some ⟨998, 1, .host⟩, protective := some ⟨7, none, 1000, 1001⟩ } }

theorem witness_BoundaryReads_grant_first :
    (⟨[.take, .islands]⟩ : BoundaryOrder).parts.head? = some .take ∧ (∀ z ∈ found4 goneAtGrant Pins.rest,
        z.isl[(0 : Isl)].tally = some (!z.pins.isl[(0 : Isl)].tly) ∧ z.take.protective = some ⟨7, none, 1000, 1001⟩
          ∧ requestReady 1000 1001 1001 ∧ z.take.last = some ⟨998, 1, .host⟩)
      ∧ ∀ n inSync, ∀ z ∈ found4 goneAtGrant Pins.rest, n = 1001 → Eligible z n inSync := by
  have h : ∀ z ∈ found4 goneAtGrant Pins.rest,
      z.isl[(0 : Isl)].tally = some (!z.pins.isl[(0 : Isl)].tly) ∧ z.take.protective = some ⟨7, none, 1000, 1001⟩
        ∧ requestReady 1000 1001 1001 ∧ z.take.last = some ⟨998, 1, .host⟩ := by
    simp only [requestReady]; decide +kernel
  exact ⟨rfl, h, fun n _ z hz e => .inl ⟨_, (h z hz).2.1, by subst e; exact (h z hz).2.2.1⟩⟩
/-- Islands first, the earlier take accounts for the change; grant first, it does not. The window's previous set is one (R97, R98). -/
theorem test_tally_change_at_a_grant :
    [[], [Part.islands, .take], [.take, .islands]].map (fun l =>
      let t := after .takeGrant (after (.fldPulse (later 768000) ⟨l⟩) (goneAtGrant (atField .sync)))
      ((t.alarm.get (.isl 0 .tallyChange)).set, t.take.tsrc, t.take.window.map (fun w => w.previous[0])))
      = [(false, 7, some true), (false, 7, some true), (true, 7, some true)] := by decide +kernel

/-- The first and the last field of a window, and the field after it. -/
theorem witness_BoundaryShows :
    let open' (t : Field) (s : State) : State :=
      { s with take := { s.take with window := some ⟨t, some 1, Vector.replicate 4 true, false, Vector.replicate 4 false⟩ } }
    [1000, 997, 996].all (fun t => (found4 (open' t) Pins.rest).all (fun z => z.take.window.isSome
        && ((1 ≤ fieldDiff 1001 t && fieldDiff 1001 t ≤ 4) == decide (t ≠ 996)))) = true
      ∧ ∀ z ∈ found4 id Pins.rest, z.take.window = none := by decide +kernel

/-- No record is LOCKED by MIRROR. -/
theorem noMirrorPlan_of_none {z : State} (h : ∀ r : Rec, z.eng.records[r] = none) :
    ∀ (r : Rec) (rec : Record), z.eng.records[r] = some rec → ¬(rec.method = .mirror ∧ rec.state = .locked) :=
  fun r rec e => by rw [h r] at e; exact absurd e nofun

/-- I1 with its mirror settled at port 0 as read before, and a command as given. -/
def mirrorRead (cmd : Option MirrorCmd) (commanded : Port) (s : State) : State :=
  withIsl 0 { s.isl[0] with
    commanded := commanded, pending := cmd, reading := some 0, settled := some 0, wasPending := cmd.isSome } s

theorem witness_BoundaryMirrors :
    (∀ z ∈ found4 (mirrorRead none 0) (pinsAt 0 ⟨1, false⟩), (∀ r : Rec, z.eng.records[r] = none) ∧ Drifts z 0)
      ∧ ∀ z ∈ found4 (mirrorRead none 0) Pins.rest, ¬Drifts z 0 ∧ AtHome z 0 ∧ z.isl[(0 : Isl)].pending = none := by
  simp only [drifts_iff, atHome_iff]; decide +kernel
/-- A command that settles now, one before its deadline and one at it. -/
theorem witness_BoundaryMirrors_pending :
    (∀ z ∈ found4 (mirrorRead (some ⟨0, 1010⟩) 0) Pins.rest,
        z.isl[(0 : Isl)].pending = some ⟨0, 1010⟩ ∧ z.isl[(0 : Isl)].reading = some z.pins.isl[(0 : Isl)].mpos
          ∧ z.pins.isl[(0 : Isl)].mpos.val = (0 : Port).val)
      ∧ (∀ z ∈ found4 (mirrorRead (some ⟨1, 1002⟩) 1) Pins.rest,
          z.isl[(0 : Isl)].pending = some ⟨1, 1002⟩ ∧ z.pins.isl[(0 : Isl)].mpos.val ≠ (1 : Port).val ∧ ¬fieldDiff 1002 1001 ≤ 0)
      ∧ ∀ z ∈ found4 (mirrorRead (some ⟨1, 1001⟩) 1) Pins.rest,
          z.isl[(0 : Isl)].pending = some ⟨1, 1001⟩ ∧ z.pins.isl[(0 : Isl)].mpos.val ≠ (1 : Port).val ∧ fieldDiff 1001 1001 ≤ 0 := by
  decide +kernel

/-- P1's channel in each state that a boundary counts for, its lamp without current at the second boundary. -/
def watchedAt (c : Channel) (s : State) : State := withCh 0 { c with lampFails := 1 } s

theorem witness_BoundaryChannels :
    (∀ z ∈ found4 (withCh 0 { chStrike with strike := some ⟨901, 99, 100⟩ }) Pins.rest,
        z.ch[(0 : Proj)].state = .strike ∧ z.ch[(0 : Proj)].strike = some ⟨901, 99, 100⟩ ∧ (ticked ⟨901, 99, 100⟩ 1001).count = 100)
      ∧ (∀ z ∈ found4 (withCh 0 { chCoast with still := 9 }) Pins.rest,
          z.ch[(0 : Proj)].state = .coast ∧ z.ch[(0 : Proj)].config.stillness = min 63 (z.ch[(0 : Proj)].still + 1))
      ∧ (∀ z ∈ found4 (watchedAt chReady) Pins.rest,
          z.ch[(0 : Proj)].state = .ready ∧ z.pins.proj[(0 : Proj)].lampok = false ∧ min 2 (z.ch[(0 : Proj)].lampFails + 1) = 2)
      ∧ ∀ z ∈ found4 (fun s => withTr 0 trSearch (watchedAt { chRunup with runup := some ⟨701, 299, 300⟩ } s)) Pins.rest,
          z.ch[(0 : Proj)].state = .runup ∧ Undisturbed z 0 ∧ InNoRecord z 0 ∧ z.ch[(0 : Proj)].runup = some ⟨701, 299, 300⟩ := by
  simp only [undisturbed_iff, inNoRecord_iff]; decide +kernel
/-- LOOP and TAIL of P1 in RUN, and TAIL in INCH. -/
theorem witness_BoundaryChannels_faults :
    (∀ z ∈ found4 (fun s => withTr 0 (trLocked 10 1000) (watchedAt chRun s)) (pinsOf 0 ⟨false, true, true, false, true⟩),
        z.cues.lists[(0 : Proj)] = [] ∧ InNoRecord z 0 ∧ (∀ x ∈ z.ch[(0 : Proj)].record, x.startField ≠ 1001)
          ∧ z.pins.proj[(0 : Proj)].loop = true ∧ z.pins.proj[(0 : Proj)].tail = true ∧ z.ch[(0 : Proj)].state = .run)
      ∧ ∀ z ∈ found4 (withCh 0 chInch) (pinsOf 0 ⟨true, false, true, false, true⟩),
          z.cues.lists[(0 : Proj)] = [] ∧ InNoRecord z 0 ∧ (∀ x ∈ z.ch[(0 : Proj)].record, x.startField ≠ 1001)
            ∧ z.pins.proj[(0 : Proj)].tail = true ∧ z.ch[(0 : Proj)].state = .inch := by
  simp only [inNoRecord_iff]; decide +kernel

/-- P1 in RUN, LOCKED at frame f with its field in the frame and an edge due. -/
def lockedAt (f : Int) (i : Nat) (due : Field) (w : Option SlipWait) (s : State) : State :=
  withTr 0 { trLocked f 1000 with pos := some ⟨f, i, .even⟩, edgeDue := some due, slipWait := w } (withCh 0 chRun s)

theorem witness_BoundaryTrackers :
    (∀ z ∈ found4 (lockedAt 10 1 1001 (some ⟨1001, 11, 0, .even⟩)) Pins.rest,
        Undisturbed z 0 ∧ InNoRecord z 0 ∧ z.tr[(0 : Proj)].lock = .locked ∧ z.tr[(0 : Proj)].slipWait = some ⟨1001, 11, 0, .even⟩)
      ∧ (∀ z ∈ found4 (fun s => withCh 0 chRunup (withTr 0 { trSearch with pendingLock := some ⟨1001, 10, 0, .even⟩ } s)) Pins.rest,
          Undisturbed z 0 ∧ InNoRecord z 0 ∧ z.tr[(0 : Proj)].lock = .search
            ∧ z.tr[(0 : Proj)].pendingLock = some ⟨1001, 10, 0, .even⟩)
      ∧ ∀ z ∈ found4 (lockedAt 10 0 999 none) Pins.rest,
          z.tr[(0 : Proj)].lock = .locked ∧ z.tr[(0 : Proj)].edgeDue = some 999 ∧ (1001 : Field) = 999 + 2 := by
  simp only [undisturbed_iff, inNoRecord_iff]; decide +kernel
/-- An advance within the frame, over it, and at the upper limit. -/
theorem witness_BoundaryTrackers_advance :
    [((10 : Int), 0), (10, 1), (999998, 1), (999999, 1)].all (fun x => (found4 (lockedAt x.1 x.2 1001 none) Pins.rest).all (fun z =>
      z.tr[(0 : Proj)].lock = .locked && z.tr[(0 : Proj)].pos = some ⟨x.1, x.2, .even⟩ && z.tr[(0 : Proj)].frame = x.1
        && z.ch[(0 : Proj)].state ≠ .ready && z.ch[(0 : Proj)].sampling && z.det[(0 : Proj)].history.length + 1 < z.det[(0 : Proj)].sigLen)) = true
      ∧ ∀ z ∈ found4 (lockedAt 10 1 1001 none) Pins.rest, Undisturbed z 0 ∧ InNoRecord z 0 := by
  simp only [undisturbed_iff, inNoRecord_iff]; decide +kernel

/-- The tally of R98, the drift of R85, the two faults of R31 and the cadence of R55 at a boundary. -/
theorem test_pulse_is_a_boundary :
    ([none, some ⟨996, 1, .host⟩, some ⟨997, 1, .host⟩, some ⟨1000, 1, .host⟩].map (fun l =>
        let s := { withIsl 0 { base.isl[0] with tally := some true } (atField .sync) with take := { base.take with last := l } }
        ((after (.fldPulse (later 768000) BoundaryOrder.plain) s).alarm.get (.isl 0 .tallyChange)).set) = [true, true, false, false])
    ∧ (let t := after (.fldPulse ⟨768000, pinsAt 0 ⟨1, false⟩⟩ BoundaryOrder.plain) (mirrorRead none 0 (atField .sync));
      t.isl[0].mismatch = true ∧ (t.alarm.get (.isl 0 .mirrorMismatch)).set = true ∧ t.isl[0].settled = none)
    ∧ (let t := after (.fldPulse ⟨768000, pinsOf 0 ⟨false, true, true, false, true⟩⟩ BoundaryOrder.plain)
        (withTr 0 (trLocked 10 1000) (watchedAt chRun (atField .sync)));
      t.ch[0].cause = .loopLoss ∧ t.ch[0].lamp = false
        ∧ [ProjAlarm.loopLoss, .runout, .lampFail].map (fun k => (t.alarm.get (.proj 0 k)).set) = [true, true, true])
    ∧ ([((10 : Int), 0), (10, 1), (999999, 1)].map (fun x =>
        (after (.fldPulse (later 768000) BoundaryOrder.plain) (lockedAt x.1 x.2 1001 none (atField .sync))).tr[0].pos)
        = [some ⟨10, 1, .even⟩, some ⟨11, 0, .even⟩, some ⟨999999, 0, .even⟩]) := by
  decide +kernel
/-- The record of cue 7 in a state, P1 and P3 undisturbed. -/
theorem witness_BoundaryTakes_records :
    [RecState.armed, .starting, .locked].all (fun st => (found4 (withRec 0 { switchRec with state := st }) Pins.rest).all (fun z =>
        decide (z.eng.records[(0 : Rec)] = some { switchRec with state := st }))) = true
      ∧ (∀ z ∈ found4 (withRec 0 switchRec) Pins.rest, Undisturbed.Record z 0 switchRec ∧ RecordsDisjoint z)
      ∧ ∀ z ∈ found4 (withRec 0 { mirrorRec with state := .locked }) Pins.rest,
          z.eng.records[(0 : Rec)] = some { mirrorRec with state := .locked }
            ∧ Undisturbed.Record z 0 { mirrorRec with state := .locked } ∧ RecordsDisjoint z := by
  simp only [undisturbedRecord_iff, undisturbed_iff, drifts_iff, recordsDisjoint_iff]; decide +kernel
/-- A host request due now, one posted in this field, and changeover requests that no arbitration takes up out of SYNC. -/
theorem witness_BoundaryTakes :
    (∀ z ∈ found4 (fun s => { s with take := { s.take with host := some ⟨7, 1000, 1001⟩, strobe := true } }) Pins.rest,
        (∀ p : Proj, Undisturbed z p) ∧ (∀ i : Isl, ¬Drifts z i) ∧ (∀ r : Rec, z.eng.records[r] = none)
          ∧ z.take.host = some ⟨7, 1000, 1001⟩ ∧ requestReady 1000 1001 1001 ∧ ¬requestReady 1001 1001 1001 ∧ ¬requestReady 1000 1002 1001
          ∧ z.take.strobe = true)
      ∧ (∀ z ∈ found4 (fun s => { s with take := { s.take with protective := some ⟨0, none, 1000, 1001⟩ } }) Pins.rest,
          z.take.protective = some ⟨0, none, 1000, 1001⟩)
      ∧ (∀ z ∈ found4 (fun s => { s with take := { s.take with slots := s.take.slots.set 1 (some ⟨2, 1, 1000, 1001, 254⟩) } }) Pins.rest,
          z.take.protective = none ∧ z.take.host = none ∧ z.take.slots[(1 : Rec)] = some ⟨2, 1, 1000, 1001, 254⟩
            ∧ z.take.slots[(0 : Rec)] = none)
      ∧ ∀ z ∈ found4 (fun s => { s with take := { s.take with
            window := some ⟨996, none, Vector.replicate 4 false, false, Vector.replicate 4 false⟩ } }) Pins.rest,
          z.take.window = some ⟨996, none, Vector.replicate 4 false, false, Vector.replicate 4 false⟩ ∧ fieldDiff 1001 996 = 5 := by
  simp only [undisturbed_iff, drifts_iff, requestReady]; decide +kernel
theorem test_deferral_out_of_sync :
    let s := { atField .acquire with take := { base.take with slots := base.take.slots.set 1 (some ⟨2, 1, 1000, 1001, 254⟩) } }
    (after (.internalTick Pins.rest BoundaryOrder.plain) s).take.slots[1] = some ⟨2, 1, 1000, 1001, 255⟩
      ∧ .takeGrant ∉ (after (.internalTick Pins.rest BoundaryOrder.plain) s).due := by decide +kernel
theorem witness_BoundaryMakes_order :
    MovesBlocksAlone BoundaryOrder.plain ∧ MovesBlocksAlone ⟨[.islands, .channel 7, .tracker 0]⟩
      ∧ .take ∉ (⟨[.arming 0, .step .takeGrant]⟩ : BoundaryOrder).parts
      ∧ .step .windowJudged ∉ (⟨[.arming 0, .step .takeGrant]⟩ : BoundaryOrder).parts := by
  unfold MovesBlocksAlone; decide

/-- P1 in RUN at the last field of frame 19 with entries. -/
def reachingAt (mode : Mode) (list : List CueEntry) (s : State) : State :=
  list.foldl (fun s e => withCue 0 e s) (withCh 0 { chRun with mode := mode } (lockedAt 19 1 1001 none s))

theorem found_whole {f : State → State} {pins : Pins}
    (h : ∀ z ∈ found4 f pins, z.cues.free + z.cues.total = 256 ∧ (∀ p : Proj, z.cues.lists[p].Pairwise (fun x y => x.pos < y.pos))
      ∧ (∀ p q : Proj, ∀ x ∈ z.cues.lists[p], ∀ y ∈ z.cues.lists[q], x.number = y.number → p = q ∧ x = y)
      ∧ (∀ p : Proj, ∀ x ∈ z.cues.lists[p], inRangeB x = true) ∧ ∀ p : Proj, z.cues.low[p] ≤ 15) :
    ∀ z ∈ found4 f pins, z.cues.Whole := fun z hz => whole_of_eval _ (h z hz)

/-- Entries at the frame that the advance reaches and behind it; a STOP and a MARK window just passed, a CHANGE, a QUIET alone. -/
theorem witness_BoundaryReaches :
    ∀ list ∈ [[⟨4, 17, .mark 2⟩, stopCue 5 20, stopCue 6 21], [changeCue 3 20 2 50], [⟨8, 20, .quiet 30⟩]],
      (∀ z ∈ found4 (reachingAt .auto list) Pins.rest, z.cues.Whole)
      ∧ ∀ z ∈ found4 (reachingAt .auto list) Pins.rest,
          Advances z 0 1001 ⟨19, 1, .even⟩ ∧ z.pins.proj[(0 : Proj)].loop = false ∧ z.pins.proj[(0 : Proj)].tail = false
            ∧ z.det[(0 : Proj)].found = none ∧ ¬Completes z.det[(0 : Proj)] (sampled z.det[(0 : Proj)].history z.det[(0 : Proj)].latch)
            ∧ (∀ e ∈ z.cues.lists[(0 : Proj)], e.kind.tag = .change → (e.pos : Int) ≤ 19 + 1) ∧ z.estop = false
            ∧ z.cues.lists[(0 : Proj)] = list ∧ z.ch[(0 : Proj)].mode = .auto := by
  intro list h
  refine ⟨found_whole ?_, ?_⟩
  · revert list; decide +kernel
  · simp only [advances_iff, completes_iff]; revert list; decide +kernel
theorem witness_BoundaryReaches_manual :
    ∀ z ∈ found4 (reachingAt .manual [stopCue 5 20]) Pins.rest,
      Advances z 0 1001 ⟨19, 1, .even⟩ ∧ InNoRecord z 0 ∧ z.ch[(0 : Proj)].mode ≠ .auto := by
  simp only [advances_iff, inNoRecord_iff]; decide +kernel
/-- P1 in TAILOUT, its stop point at 120, at the last field of a frame. -/
def tailAt (f : Int) (s : State) : State :=
  withRec 0 { planned switchRec 990 with state := .tailout, cutMade := some 990 } (lockedAt f 1 1001 none s)
/-- The advance before the stop point, and the one that reaches it. -/
theorem witness_BoundaryStops :
    ∀ f ∈ [(118 : Int), 119], ∀ z ∈ found4 (tailAt f) Pins.rest,
      RecordsDisjoint z ∧ z.estop = false ∧ (∀ p : Proj, z.cues.lists[p] = [])
        ∧ z.eng.records[(0 : Rec)] = some { planned switchRec 990 with state := .tailout, cutMade := some 990 }
        ∧ Undisturbed z 0 ∧ Advances z 0 1001 ⟨f, 1, .even⟩ := by
  simp only [recordsDisjoint_iff, undisturbed_iff, advances_iff]; decide +kernel
theorem witness_BoundaryStops_quiet :
    (118 + 1 < (100 : Int) + 20 ∧ (100 : Int) + 20 ≤ 119 + 1) ∧ (planned switchRec 990).result = some .onTime
      ∧ ∀ z ∈ found4 (tailAt 119) Pins.rest, z.line.queue.length ≤ 12 ∧ (∀ p : Proj, Undisturbed z p)
        ∧ (∀ p : Proj, p ≠ 0 → z.tr[p].lock ≠ .locked) ∧ (∀ i : Isl, ¬Drifts z i)
        ∧ ∀ i : Isl, z.isl[i].tally ≠ some (!z.pins.isl[i].tly) := by
  simp only [undisturbed_iff, drifts_iff]; decide +kernel
/-- R157 and R118 at a pulse in SYNC. -/
theorem test_advance_reaches_and_stops :
    ([(118 : Int), 119].map (fun f =>
        let t := after (.fldPulse (later 768000) BoundaryOrder.plain) (tailAt f (atField .sync))
        ((t.eng.records[(0 : Rec)]).isSome, t.ch[(0 : Proj)].state, t.tr[(0 : Proj)].frame)) = [(true, .run, 119), (false, .coast, 120)])
    ∧ ([Mode.auto, .manual].map (fun mode =>
        let t := after (.fldPulse (later 768000) BoundaryOrder.plain)
          (reachingAt mode [⟨4, 17, .mark 2⟩, stopCue 5 20, stopCue 6 21] (atField .sync))
        (t.cues.lists[(0 : Proj)], t.ch[(0 : Proj)].state)) = [([stopCue 6 21], .coast), ([stopCue 6 21], .run)]) := by
  decide +kernel
theorem witness_PulseOutOfSyncCounts :
    let s := timed .acquire 14 (some 768000) none
    s.resetHeld = false ∧ (s.arrive (later 768000)).tb.state ≠ .sync
      ∧ runCountAfter (s.arrive (later 768000)).tb (s.arrive (later 768000)).now = 15 := by decide +kernel
/-- The spacings at and beyond the two ends of the window of R2. -/
theorem witness_PulseOutOfSyncCounts_ends :
    [719999, 720000, 816000, 816001].map (fun n =>
      let u := (timed .lost 15 (some 768000) none).arrive (later n)
      runCountAfter u.tb u.now) = [1, 16, 16, 1] := by decide +kernel
theorem witness_SixteenthPulseEntersSync :
    let s := timed .acquire 15 (some 768000) (some 0)
    let u := s.arrive (later 768000)
    s.resetHeld = false ∧ u.tb.state ≠ .sync ∧ runCountAfter u.tb u.now = 16
      ∧ ¬2 * (u.now - 0) < u.tb.standard.period := by decide +kernel
theorem witness_SixteenthPulseEntersSync_merged_from_lost :
    let s := timed .lost 15 (some 1000000) (some 400000)
    let u := s.arrive (later 720000)
    s.resetHeld = false ∧ u.tb.state = .lost ∧ runCountAfter u.tb u.now = 16 ∧ u.tb.lastTick = some 400000
      ∧ 2 * (u.now - 400000) < u.tb.standard.period := by decide +kernel
theorem test_half_period_is_not_merged :
    (timed .lost 15 none (some 336000)).tb.merges 720000 = false ∧ (timed .lost 15 none (some 336001)).tb.merges 720000 = true := by
  decide +kernel
theorem witness_InternalTickMakesBoundary :
    base.resetHeld = false ∧ base.tb.tick = some 768000 ∧ (timed .sync 16 none none).tb.tick = none := by decide +kernel
theorem witness_SyncLossMakesBoundary :
    (timed .sync 16 none none).resetHeld = false ∧ (timed .sync 16 none none).tb.state = .sync
      ∧ (timed .sync 16 none none).tb.lastPulse = some 0 ∧ base.tb.state ≠ .sync := by decide +kernel
theorem test_tick_is_a_boundary : (after (.internalTick Pins.rest BoundaryOrder.plain) base).tb.field = 1 := by decide +kernel
theorem test_sync_loss_at_three_periods :
    (after (.syncLost Pins.rest BoundaryOrder.plain) (timed .sync 16 none none)).now = 2304000
      ∧ (after (.syncLost Pins.rest BoundaryOrder.plain) (timed .sync 16 none none)).tb.state = .lost := by decide +kernel

/-! ### Witnesses: film -/

theorem witness_PerforationMovesPhase_motor_on :
    (running 10).resetHeld = false ∧ ((running 10).arrive still).tr[(0 : Proj)].motor = true := by decide +kernel
theorem witness_PerforationMovesPhase_no_carry :
    base.resetHeld = false ∧ still.pins.proj[(0 : Proj)].forward = true
      ∧ (base.arrive still).tr[(0 : Proj)].phase + 1 < (base.arrive still).ch[(0 : Proj)].config.gauge.perfs := by decide +kernel

/-- P1 at rest at the last perforation of a frame. -/
def atCarry (frame : Int) (phase : Nat) : State := withTr 0 { Tracker.powerOn with frame := frame, phase := phase } base
/-- DIR of P1 reads reverse. -/
def reversed : Moment := ⟨0, pinsOf 0 ⟨false, false, false, false, false⟩⟩

theorem witness_PerforationMovesPhase_carry :
    let u := (atCarry 999998 3).arrive still
    (atCarry 999998 3).resetHeld = false ∧ u.tr[(0 : Proj)].motor = false ∧ ¬u.tr[(0 : Proj)].phase + 1 < 4
      ∧ AtRest u.ch[(0 : Proj)] ∧ u.tr[(0 : Proj)].frame + 1 ≤ 999999 ∧ u.det[(0 : Proj)].found = none := by
  simp only [atRest_iff]; decide +kernel
theorem witness_PerforationMovesPhase_upper_limit :
    let u := (atCarry 999999 3).arrive still
    u.tr[(0 : Proj)].motor = false ∧ ¬u.tr[(0 : Proj)].phase + 1 < 4 ∧ AtRest u.ch[(0 : Proj)] ∧ u.tr[(0 : Proj)].frame = 999999 := by
  simp only [atRest_iff]; decide +kernel
theorem witness_PerforationMovesPhase_lower_limit :
    let u := (atCarry (-99999) 0).arrive reversed
    reversed.pins.proj[(0 : Proj)].forward = false ∧ u.tr[(0 : Proj)].motor = false ∧ u.tr[(0 : Proj)].phase = 0
      ∧ AtRest u.ch[(0 : Proj)] ∧ u.tr[(0 : Proj)].frame = -99999 := by
  simp only [atRest_iff]; decide +kernel
theorem witness_PerforationMovesPhase_report :
    let u := (withTr 0 { Tracker.powerOn with frame := 19, phase := 3, period := 20 } base).arrive still
    u.tr[(0 : Proj)].motor = false ∧ ¬u.tr[(0 : Proj)].phase + 1 < 4 ∧ (u.tr[(0 : Proj)].frame + 1) % u.tr[(0 : Proj)].period = 0
      ∧ u.tr[(0 : Proj)].period ≠ 0 ∧ u.line.queue.length < 16 := by decide +kernel
theorem witness_PerforationMovesPhase_reverse :
    let u := (atCarry (-99998) 0).arrive reversed
    reversed.pins.proj[(0 : Proj)].forward = false ∧ u.tr[(0 : Proj)].motor = false ∧ u.tr[(0 : Proj)].phase = 0
      ∧ -99999 ≤ u.tr[(0 : Proj)].frame - 1 := by decide +kernel

/-- P1 in INCH at the last perforation of frame 99, its history one sample short of its signature or not, a match of frame 99 waiting or
not, with a list. -/
def inching (whole : Bool) (found : Option Int) (list : List CueEntry) : State :=
  list.foldl (fun s e => withCue 0 e s) (withCh 0 chInch
    { atCarry 99 3 with
      det := base.det.set 0 { base.det[0] with history := if whole then [false, true, true, true] else [], found := found } })
/-- The match or the waiting match of P1 is not taken at this event. -/
def lateFor (p : Proj) : Moment := ⟨0, { Pins.rest with late := [p] }⟩

theorem witness_PerforationMovesPhase_inch :
    let u := (inching false none [⟨9, 97, .mark 2⟩]).arrive still
    u.tr[(0 : Proj)].motor = false ∧ u.ch[(0 : Proj)].state = .inch ∧ ¬u.tr[(0 : Proj)].phase + 1 < 4
      ∧ ¬Completes u.det[(0 : Proj)] (sampled u.det[(0 : Proj)].history u.det[(0 : Proj)].latch) ∧ u.det[(0 : Proj)].found = none
      ∧ u.cues.Whole ∧ ∃ e ∈ u.cues.lists[(0 : Proj)], passedMark e 100 = true := by
  simp only [completes_iff]
  exact ⟨by decide +kernel, by decide +kernel, by decide +kernel, by decide +kernel, by decide +kernel, whole_of_eval _ (by decide +kernel),
    by decide +kernel⟩
/-- The window of a MARK entry at 102 begins at the detected frame 100, that of one at 103 after it. -/
theorem witness_PerforationMovesPhase_match :
    let u := (inching true none [⟨9, 102, .mark 2⟩]).arrive still
    Completes u.det[(0 : Proj)] (sampled u.det[(0 : Proj)].history u.det[(0 : Proj)].latch) ∧ u.det[(0 : Proj)].found = none
      ∧ (0 : Proj) ∉ still.pins.late ∧ (∀ e ∈ u.cues.lists[(0 : Proj)], passedMark e 100 = false)
      ∧ u.cues.lists[(0 : Proj)] = [⟨9, 102, .mark 2⟩] ∧ OpenAt ⟨9, 102, .mark 2⟩ 100 ∧ u.line.queue.length ≤ 13
      ∧ ∀ e ∈ ((inching true none [⟨9, 103, .mark 2⟩]).arrive still).cues.lists[(0 : Proj)], ¬OpenAt e 100 ∧ passedMark e 100 = false := by
  simp only [completes_iff, openAt_iff]; decide +kernel
theorem witness_PerforationMovesPhase_late :
    let u := (inching true none []).arrive (lateFor 0)
    Completes u.det[(0 : Proj)] (sampled u.det[(0 : Proj)].history u.det[(0 : Proj)].latch) ∧ u.det[(0 : Proj)].found = none
      ∧ (0 : Proj) ∈ (lateFor 0).pins.late := by
  simp only [completes_iff]; decide +kernel
/-- A match at X + T = 99 waits past the advance to 100. -/
theorem witness_PerforationMovesPhase_race :
    let u := (inching false (some 99) [⟨9, 97, .mark 2⟩]).arrive (lateFor 0)
    ¬Completes u.det[(0 : Proj)] (sampled u.det[(0 : Proj)].history u.det[(0 : Proj)].latch) ∧ u.det[(0 : Proj)].found = some 99
      ∧ u.cues.lists[(0 : Proj)] = [⟨9, 97, .mark 2⟩] ∧ (99 : Int) = 97 + 2 ∧ u.tr[(0 : Proj)].frame = 99 ∧ u.line.queue.length ≤ 13 := by
  simp only [completes_iff]; decide +kernel
/-- R71: the match taken first corrects the frame count; the advance taken first makes the entry MISSING and the match stray. -/
theorem test_match_and_advance_race :
    let s := inching false (some 99) [⟨9, 97, .mark 2⟩]
    let first := after (.perfPulse still 0) s
    let second := after (.perfPulse (lateFor 0) 0) s
    first.tr[0].frame = 98 ∧ first.tr[0].corrections = 1 ∧ (first.alarm.get (.proj 0 .markMissing)).set = false
      ∧ second.tr[0].frame = 100 ∧ second.tr[0].strayMarks = 1 ∧ (second.alarm.get (.proj 0 .markMissing)).set = true := by decide +kernel
/-- R63: forward while the motor flag is on, else the direction of the last perforation. -/
theorem test_motion_direction :
    { Tracker.powerOn with motor := true, forward := false }.direction = true
      ∧ { Tracker.powerOn with motor := false, forward := false }.direction = false := by decide +kernel
theorem test_carry_at_the_limit :
    (after (.perfPulse still 0) (atCarry 999999 3)).tr[0].frame = 999999
      ∧ (after (.perfPulse still 0) (atCarry 999999 3)).tr[0].phase = 0
      ∧ ((after (.perfPulse still 0) (atCarry 999999 3)).alarm.get (.proj 0 .counterLimit)).set = true := by decide +kernel
theorem test_reverse_borrows :
    (after (.perfPulse reversed 0) (atCarry 5 0)).tr[0].frame = 4 ∧ (after (.perfPulse reversed 0) (atCarry 5 0)).tr[0].phase = 3 := by
  decide +kernel
theorem witness_CueInputAndIdleShutter :
    base.resetHeld = false ∧ base.due = [] ∧ (base.arrive still).tr[(0 : Proj)].motor = false := by decide +kernel

theorem witness_LockedEdgeIsClassed_slip :
    let s := droppingState 40
    let t := (s.arrive still).tr[(0 : Proj)]
    s.resetHeld = false ∧ s.due = [] ∧ t.motor = true ∧ t.lock = .locked ∧ t.pos = some ⟨400, 1, .long⟩ ∧ t.edgeDue = some 8003
      ∧ t.slipWait = none ∧ t.interval = some (s.arrive still).ch[(0 : Proj)].config.gauge.perfs ∧ t.empty < 3
      ∧ (s.arrive still).tb.field + 1 = (8003 : Field) - 1 ∧ t.out + 1 < t.m ∧ t.m ≤ 7 := by decide +kernel
/-- The offset of an edge at the window's edge: phase error W inside and W + 1 outside, in the field of the edge due. -/
theorem witness_LockedEdgeIsClassed_window_ends :
    let s (a : Nat) : State := { withTr 0 (trLocked 400 998) (withCh 0 chRun (withField 1000 base)) with now := a * 12000 }
    let u (a : Nat) := (s a).arrive still
    ((u 6).now - (u 6).tb.fieldStart) * 64 / (u 6).tb.standard.period = 6
      ∧ ((u 7).now - (u 7).tb.fieldStart) * 64 / (u 7).tb.standard.period = 7
      ∧ (u 6).tr[(0 : Proj)].w = 6 ∧ (u 6).tr[(0 : Proj)].edgeDue = some (u 6).tb.field ∧ (s 6).resetHeld = false ∧ (s 6).due = []
      ∧ (u 6).tr[(0 : Proj)].motor = true ∧ (u 6).tr[(0 : Proj)].lock = .locked ∧ (u 6).tr[(0 : Proj)].slipWait = none
      ∧ (u 6).tr[(0 : Proj)].interval = some (u 6).ch[(0 : Proj)].config.gauge.perfs ∧ (u 6).tr[(0 : Proj)].empty < 3 := by
  decide +kernel
/-- Loss of lock: an edge two boundaries off, one while a correction waits, and one that brings the out counter
to M = 3, out of the window or as a DROP. -/
theorem witness_LockedEdgeIsClassed_loss :
    let lost (t : Tracker) : State := withTr 0 t (withCh 0 chRun (withField 1000 base))
    let ok (s : State) : Bool :=
      let t := (s.arrive still).tr[(0 : Proj)]
      t.motor && t.lock = .locked && t.pos = some ⟨400, 0, .even⟩ && t.interval = some 4 && decide ((checkedEdge 4 t).empty < 3)
        && s.due = [] && !s.resetHeld
    ok (lost (trLocked 400 1000)) = true ∧ (lost (trLocked 400 1000)).tr[(0 : Proj)].edgeDue = some 1002
      ∧ ok (lost { trLocked 400 998 with slipWait := some ⟨1001, 401, 0, .even⟩ }) = true
      ∧ ok (withTr 0 { trLocked 400 998 with out := 2 } (lost (trLocked 400 998)) |> fun s => { s with now := 7 * 12000 }) = true
      ∧ ok (lost { trLocked 400 999 with out := 2 }) = true ∧ (trLocked 400 999).edgeDue = some ((1000 : Field) + 1)
      ∧ (trLocked 400 999).m = 3 ∧ ((base.arrive still).ch[(0 : Proj)]).state ≠ .run := by decide +kernel
/-- An interval of 3 within the quiet window and outside it, and the third empty interval in RUN. -/
theorem witness_LockedEdgeIsClassed_defects :
    let s (q : Option (Int × Int)) : State :=
      withTr 0 { trLocked 400 998 with interval := some 3, quiet := q } (withCh 0 chRun (withField 1000 base))
    let t (q : Option (Int × Int)) := ((s q).arrive still).tr[(0 : Proj)]
    (t none).interval ≠ none ∧ (t none).interval ≠ some 4 ∧ (checkedEdge 4 (t none)).empty < 3 ∧ (t none).slipWait = none
      ∧ (t none).edgeDue = some 1000 ∧ inQuiet (t none).quiet (t none).frame = false
      ∧ inQuiet (t (some (400, 401))).quiet (t (some (400, 401))).frame = true
      ∧ (breakingState.arrive still).tr[(1 : Proj)].interval = some 0 ∧ (breakingState.arrive still).tr[(1 : Proj)].empty = 2
      ∧ (breakingState.arrive still).ch[(1 : Proj)].state = .run := by decide +kernel

/-- An interval of 3 with an edge out of the window, a DROP, and each of them bringing the out counter to M = 3. -/
theorem witness_LockedEdgeIsClassed_defect_and_class :
    let s (t : Tracker) (a : Nat) : State :=
      { withTr 0 { t with interval := some 3 } (withCh 0 chRun (withField 1000 base)) with now := a * 12000 }
    let t (x : State) := (x.arrive still).tr[(0 : Proj)]
    [s (trLocked 400 998) 7, s (trLocked 400 999) 0, s { trLocked 400 998 with out := 2 } 7, s { trLocked 400 999 with out := 2 } 0].all
        (fun x => (t x).motor && (t x).lock = .locked && (t x).pos = some ⟨400, 0, .even⟩ && (t x).interval = some 3 && (t x).slipWait = none
          && decide ((checkedEdge 4 (t x)).empty < 3) && x.due = [] && !x.resetHeld && decide ((t x).m = 3)) = true
      ∧ (t (s (trLocked 400 998) 7)).out + 1 < 3 ∧ (t (s { trLocked 400 999 with out := 2 } 0)).out + 1 = 3
      ∧ (trLocked 400 999).edgeDue = some ((1000 : Field) + 1) ∧ (trLocked 400 998).edgeDue = some 1000 := by decide +kernel
theorem test_defect_beside_a_slip :
    let t := after (.shutterEdge still 0) (withTr 0 { trLocked 400 999 with interval := some 3 } (withCh 0 chRun (withField 1000 base)))
    t.tr[0].slips = 1 ∧ t.tr[0].perfDefects = 1
      ∧ [ProjAlarm.slip, .perfDefect].map (fun k => (t.alarm.get (.proj 0 k)).set) = [true, true] := by decide +kernel
theorem witness_SearchEdgeFollowsTable_exec :
    let s := withTr 0 (seeking 999998 0 none) (withCh 0 chRunup base)
    let u := s.arrive still
    s.resetHeld = false ∧ s.due = [] ∧ u.tr[(0 : Proj)].motor = true ∧ u.tr[(0 : Proj)].lock = .search ∧ u.tr[(0 : Proj)].interval = none
      ∧ (checkedEdge 4 u.tr[(0 : Proj)]).empty < 3 ∧ u.tr[(0 : Proj)].frame < 999999 ∧ u.ch[(0 : Proj)].state = .runup
      ∧ u.cues.lists[(0 : Proj)] = [] ∧ InNoRecord u 0 ∧ u.tr[(0 : Proj)].period = 0 ∧ u.det[(0 : Proj)].found = none
      ∧ u.det[(0 : Proj)].history.length + 1 < u.det[(0 : Proj)].sigLen ∧ u.det[(0 : Proj)].history.length < 8
      ∧ ((withTr 0 (seeking 999999 0 none) (withCh 0 chRunup base)).arrive still).tr[(0 : Proj)].frame = 999999 := by
  simp only [inNoRecord_iff]; decide +kernel
/-- Edges at and beyond the window, those that lose lock, one in SEARCH, and the third empty interval of a run-up. -/
theorem test_edges_in_and_out_of_lock :
    (let s (a : Nat) : State := { withTr 0 (trLocked 400 998) (withCh 0 chRun (withField 1000 base)) with now := a * 12000 };
      (after (.shutterEdge still 0) (s 6)).tr[0].out = 0 ∧ (after (.shutterEdge still 0) (s 7)).tr[0].out = 1)
    ∧ (let lost (t : Tracker) : State := after (.shutterEdge still 0) (withTr 0 t (withCh 0 chRun (withField 1000 base)));
      [trLocked 400 1000, { trLocked 400 998 with slipWait := some ⟨1001, 401, 0, .even⟩ }, { trLocked 400 999 with out := 2 }].map
          (fun t => ((lost t).tr[(0 : Proj)].lock, (lost t).ch[(0 : Proj)].state, (lost t).tr[(0 : Proj)].slips))
        = [(.search, .runup, 0), (.search, .runup, 0), (.search, .runup, 1)])
    ∧ (let t := after (.shutterEdge still 0) (withTr 0 (seeking 77 3 (some 5012)) (withCh 0 chRunup (withField 5014 base)));
      t.tr[0].frame = 78 ∧ t.tr[0].run = 4 ∧ t.tr[0].pendingLock = some ⟨5015, 78, 1, .even⟩ ∧ t.det[0].history = [false])
    ∧ (let t := after (.shutterEdge still 0) (withTr 0 { seeking 400 0 none with interval := some 0, empty := 2 } (withCh 0 chRunup base));
      t.ch[0].state = .fault ∧ t.ch[0].cause = .filmBreak ∧ t.tr[0].lock = .unlocked ∧ t.tr[0].frame = 401
        ∧ [ProjAlarm.perfDefect, .filmBreak].map (fun k => (t.alarm.get (.proj 0 k)).set) = [true, true]) := by
  decide +kernel
theorem witness_SearchEdgeFollowsTable :
    (62 : Nat) ≤ 63 ∧ |phaseError 62| ≤ ((seeking 77 3 (some 5012)).w : Int) ∧ (seeking 77 3 (some 5012)).lastIn = some 5012
      ∧ fieldDiff 5014 5012 = 2 ∧ (seeking 77 3 (some 5012)).run + 1 = (seeking 77 3 (some 5012)).k
      ∧ (seeking 77 3 (some 5012)).k ≤ 15 := by decide +kernel
/-- P1 in RUNUP, in SEARCH at a frame, its interval and empty count as given, with a quiet window. -/
def seekingAt (frame : Int) (interval empty : Nat) (quiet : Option (Int × Int)) : State :=
  withTr 0 { seeking frame 0 none with interval := some interval, empty := empty, quiet := quiet } (withCh 0 chRunup base)

/-- In SEARCH: an interval of 3 outside the quiet window and at its first frame, at the highest frame that an edge raises and at the limit,
and the third empty interval. -/
theorem witness_SearchEdgeFollowsTable_defects :
    let t (s : State) := (s.arrive still).tr[(0 : Proj)]
    let bare (s : State) : Bool :=
      let u := s.arrive still
      !s.resetHeld && s.due = [] && (t s).motor && (t s).lock = .search && u.ch[(0 : Proj)].state = .runup && u.cues.lists[(0 : Proj)] = []
        && (t s).period = 0 && u.det[(0 : Proj)].found = none && decide (u.det[(0 : Proj)].history.length + 1 < u.det[(0 : Proj)].sigLen)
        && decide (u.det[(0 : Proj)].history.length < 8) && u.ch[(0 : Proj)].config.gauge.perfs = 4
    [seekingAt 400 3 0 none, seekingAt 400 3 0 (some (401, 402)), seekingAt 999998 3 0 none, seekingAt 999999 3 0 none,
        seekingAt 400 0 2 none].all bare = true
      ∧ InNoRecord ((seekingAt 400 3 0 none).arrive still) 0 ∧ InNoRecord ((seekingAt 400 0 2 none).arrive still) 0
      ∧ (t (seekingAt 400 3 0 none)).interval = some 3 ∧ (checkedEdge 4 (t (seekingAt 400 3 0 none))).empty < 3
      ∧ inQuiet (t (seekingAt 400 3 0 none)).quiet 401 = false ∧ inQuiet (t (seekingAt 400 3 0 (some (401, 402)))).quiet 401 = true
      ∧ (t (seekingAt 999998 3 0 none)).frame < 999999 ∧ (t (seekingAt 999999 3 0 none)).frame = 999999
      ∧ (t (seekingAt 400 0 2 none)).interval = some 0 ∧ (t (seekingAt 400 0 2 none)).empty = 2 := by
  simp only [inNoRecord_iff]; decide +kernel
/-- Errors +6 and −6 lie in the window, +7 and −7 outside it. -/
theorem witness_SearchEdgeFollowsTable_window_ends :
    [6, 58, 7, 57].map phaseError = [6, -6, 7, -7] ∧ Tracker.powerOn.w = 6 := by decide +kernel

/-! ### Witnesses: channel steps -/

/-- P1 at the end of its strike, with the lamp current as given. -/
def striking (lampok : Bool) : State :=
  withDue (.strikeEnd 0) (withCh 0 chStrike
    { base with alarm := { base.alarm with flags := base.alarm.flags.set 0 ⟨lampok, false, false⟩ } })

theorem witness_StrikeAndCoastEnd :
    (striking true).resetHeld = false ∧ .strikeEnd 0 ∈ (striking true).due ∧ (striking true).ch[(0 : Proj)].state = .strike
      ∧ (striking true).alarm.flags[(0 : Proj)].lampok = true := by decide +kernel
theorem witness_StrikeAndCoastEnd_fails :
    .strikeEnd 0 ∈ (striking false).due ∧ (striking false).ch[(0 : Proj)].state = .strike
      ∧ (striking false).alarm.flags[(0 : Proj)].lampok = false ∧ InNoRecord (striking false) 0
      ∧ ∀ q ∈ (striking false).take.protective, q.target ≠ some 0 := by
  simp only [inNoRecord_iff]; decide +kernel
theorem witness_StrikeAndCoastEnd_coast :
    let s := withDue (.coastEnd 0) (withCh 0 chCoast base)
    s.resetHeld = false ∧ .coastEnd 0 ∈ s.due ∧ s.ch[(0 : Proj)].state = .coast ∧ .coastEnd 0 ∉ base.due ∧ .strikeEnd 0 ∉ base.due := by
  decide +kernel
theorem test_strike_fails_without_lamp_current :
    (after (.strikeEnd 0) (striking false)).ch[0].cause = .lampFail ∧ (after (.strikeEnd 0) (striking false)).ch[0].lamp = false := by
  decide +kernel

/-- P1 in RUNUP with both its lamp failed and its run-up timer out, the rows given waiting. -/
def failing (due : List Due) : State :=
  { withCh 0 { chRunup with lampFails := 2, runup := some ⟨0, 300, 300⟩ } (withTr 0 trSearch base) with due := due }

theorem witness_LampAndRunupFaults_lamp :
    let s := failing [.lampFail 0]
    s.resetHeld = false ∧ .lampFail 0 ∈ s.due ∧ s.ch[(0 : Proj)].state = .runup ∧ s.ch[(0 : Proj)].lampFails = 2
      ∧ .runupTimeout 0 ∉ s.due := by decide +kernel
theorem witness_LampAndRunupFaults_late :
    let s := failing [.runupTimeout 0]
    .runupTimeout 0 ∈ s.due ∧ s.ch[(0 : Proj)].state = .runup ∧ s.ch[(0 : Proj)].runup = some ⟨0, 300, 300⟩ ∧ .lampFail 0 ∉ s.due := by
  decide +kernel
theorem witness_LampAndRunupFaults_both :
    let s := failing [.lampFail 0, .runupTimeout 0]
    .lampFail 0 ∈ s.due ∧ .runupTimeout 0 ∈ s.due ∧ s.ch[(0 : Proj)].state = .runup ∧ s.ch[(0 : Proj)].lampFails = 2
      ∧ s.ch[(0 : Proj)].runup = some ⟨0, 300, 300⟩ := by decide +kernel
/-- The lock of that boundary came first: RUN with the count at 0; and a channel that is no longer watched. -/
theorem witness_LampAndRunupFaults_count_again :
    let s (c : Channel) : State := withDue (.lampFail 0) (withCh 0 c base)
    .lampFail 0 ∈ (s chRun).due ∧ (s chRun).ch[(0 : Proj)].state = .run ∧ (s chRun).ch[(0 : Proj)].lampFails = 0
      ∧ (s chCoast).ch[(0 : Proj)].state = .coast ∧ .runupTimeout 0 ∉ (s chCoast).due := by decide +kernel
/-- R24: in the order in which the lock comes first this boundary begins the count at 1. -/
theorem test_lamp_count_after_the_lock :
    let s := { failing [.lockDeclared 0, .lampFail 0] with tb := { base.tb with field := 1000 } }
    let t := after (.lampFail 0) (after (.lockDeclared 0) (withTr 0 { seeking 78 4 (some 1000) with pendingLock := some ⟨1000, 78, 0, .even⟩ } s))
    t.ch[0].state = .run ∧ t.ch[0].lampFails = 1 ∧ (t.alarm.get (.proj 0 .lampFail)).set = false := by decide +kernel
theorem test_both_faults_give_lamp_fail :
    let t := after (.runupTimeout 0) (failing [.lampFail 0, .runupTimeout 0])
    t.ch[0].cause = .lampFail ∧ (t.alarm.get (.proj 0 .lockFail)).set = true ∧ t.due = [] := by decide +kernel

/-- P1 in RUN and on air at I1 with its lamp failed. -/
def lampGone (rec0 : Option Record) : State :=
  { withDue (.lampFail 0) (withTr 0 (trLocked 10 1000) (withCh 0 { chRun with lampFails := 2 } (withField 1000 base))) with
    isl := base.isl.set 0 { base.isl[0] with tally := some true, settled := some 0 }
    eng := { base.eng with records := base.eng.records.set 0 rec0 } }

theorem witness_ProtectiveEventsFollowTable_safety :
    let s := lampGone none
    s.resetHeld = false ∧ .lampFail 0 ∈ s.due ∧ .runupTimeout 0 ∉ s.due ∧ s.ch[(0 : Proj)].state = .run
      ∧ s.ch[(0 : Proj)].lampFails = 2 ∧ s.take.protective = none ∧ s.take.protectSet.getLsbD 3 = true ∧ s.onAir 0 = true
      ∧ InNoRecord s 0 := by
  simp only [inNoRecord_iff]; decide +kernel
theorem witness_ProtectiveEventsFollowTable_outside_the_set :
    let s := { lampGone none with take := { base.take with protectSet := 0x77 } }
    s.resetHeld = false ∧ .lampFail 0 ∈ s.due ∧ .runupTimeout 0 ∉ s.due ∧ s.ch[(0 : Proj)].state = .run
      ∧ s.ch[(0 : Proj)].lampFails = 2 ∧ s.take.protective = none ∧ s.take.protectSet.getLsbD 3 = false ∧ InNoRecord s 0 := by
  simp only [inNoRecord_iff]; decide +kernel
theorem witness_ProtectiveEventsFollowTable_switch :
    let s := lampGone (some (planned switchRec 1100))
    s.resetHeld = false ∧ .lampFail 0 ∈ s.due ∧ .runupTimeout 0 ∉ s.due ∧ s.ch[(0 : Proj)].state = .run
      ∧ s.ch[(0 : Proj)].lampFails = 2 ∧ s.take.protective = none ∧ RecordsDisjoint s ∧ s.take.protectSet.getLsbD 3 = true
      ∧ s.onAir 0 = true ∧ s.eng.records[(0 : Rec)] = some (planned switchRec 1100) ∧ (planned switchRec 1100).a = 0
      ∧ (planned switchRec 1100).state = .locked ∧ (planned switchRec 1100).method = .switch
      ∧ s.route[(planned switchRec 1100).b] = some (1, 0) ∧ s.line.queue.length ≤ 13 := by
  simp only [recordsDisjoint_iff]; decide +kernel
theorem witness_ProtectiveEventsFollowTable_mirror :
    let s := lampGone (some (planned mirrorRec 1100))
    RecordsDisjoint s ∧ s.take.protectSet.getLsbD 3 = true ∧ s.onAir 0 = true
      ∧ s.eng.records[(0 : Rec)] = some (planned mirrorRec 1100) ∧ (planned mirrorRec 1100).a = 0
      ∧ (planned mirrorRec 1100).state = .locked ∧ (planned mirrorRec 1100).method = .mirror
      ∧ s.route[(planned mirrorRec 1100).b] = some (0, 1) := by
  simp only [recordsDisjoint_iff]; decide +kernel
/-- The outgoing projector of the record in each other state, on air; the request that a failure of its target turns. -/
theorem witness_ProtectiveEventsFollowTable_outgoing :
    [RecState.armed, .starting, .cutting, .tailout].all (fun st =>
        let s := lampGone (some { planned switchRec 1100 with state := st })
        s.eng.records[(0 : Rec)] = some { planned switchRec 1100 with state := st } && s.onAir 0 && s.take.protectSet.getLsbD 3
          && decide (s.line.queue.length ≤ 13)) = true
      ∧ RecordsDisjoint (lampGone (some { planned switchRec 1100 with state := .tailout }))
      ∧ (planned switchRec 1100).a = 0 ∧ (planned switchRec 1100).result = some .onTime := by
  simp only [recordsDisjoint_iff]; decide +kernel
theorem witness_ProtectiveEventsFollowTable_targets :
    let s (target : Option Proj) (source : Source) : State :=
      { lampGone none with take := { base.take with protective := some ⟨source, target, 998, 1001⟩ } }
    (∃ q ∈ (s (some 0) 1).take.protective, q.target = some 0) ∧ (s (some 0) 1).onAir 0 = true ∧ (s none 0).onAir 0 = true
      ∧ (∃ q ∈ ({ s (some 0) 1 with isl := base.isl } : State).take.protective, q.target = some 0)
      ∧ ({ s (some 0) 1 with isl := base.isl } : State).onAir 0 = false := by decide +kernel
/-- P1 LOCKED with its edge missing, its channel as given. -/
def missing (c : Channel) : State :=
  withDue (.missingEdge 0) (withCh 0 c (withTr 0 { trLocked 400 996 with edgeDue := some 998 } (withField 1000 base)))

/-- The loss of lock in RUN, on air and not, within the protect set and not, with the record in LOCKED and in TAILOUT. -/
def lockGone (air : Bool) (set : BitVec 7) (rec0 : Option Record) : State :=
  { missing chRun with
    isl := base.isl.set 0 { base.isl[0] with tally := some air, settled := some 0 }
    eng := { base.eng with records := base.eng.records.set 0 rec0 }
    take := { base.take with protectSet := set } }
theorem witness_ProtectiveEventsFollowTable_lock :
    let s := lockGone true 0x7F (some (planned switchRec 1100))
    .missingEdge 0 ∈ s.due ∧ s.ch[(0 : Proj)].state = .run ∧ s.tr[(0 : Proj)].lock = .locked
      ∧ s.tr[(0 : Proj)].edgeDue = some (s.tb.field - 2) ∧ s.take.protectSet.getLsbD 6 = true ∧ s.onAir 0 = true ∧ RecordsDisjoint s
      ∧ s.eng.records[(0 : Rec)] = some (planned switchRec 1100) ∧ s.route[(planned switchRec 1100).b] = some (1, 0)
      ∧ (lockGone false 0x7F none).onAir 0 = false ∧ (lockGone true 0x3F none).take.protectSet.getLsbD 6 = false
      ∧ InNoRecord (lockGone true 0x7F none) 0 := by
  simp only [recordsDisjoint_iff, inNoRecord_iff]; decide +kernel
/-- The ESTOP line with P1 on air and not, kind ESTOP in the set and not, and a request that goes to a target. -/
theorem witness_ProtectiveEventsFollowTable_estop :
    let s (set : BitVec 7) : State := { lampGone none with take := { base.take with protectSet := set } }
    let q : State := { lampGone none with take := { base.take with protective := some ⟨2, some 2, 999, 1000⟩ } }
    ((s 0x7F).arrive still).estop = false ∧ ((s 0x7F).arrive still).take.protectSet.getLsbD 5 = true
      ∧ ((s 0x5F).arrive still).take.protectSet.getLsbD 5 = false ∧ ((s 0x7F).arrive still).onAir 0 = true
      ∧ (∀ p : Proj, (base.arrive still).onAir p = false) ∧ (q.arrive still).take.protective = some ⟨2, some 2, 999, 1000⟩ := by
  decide +kernel
theorem test_estop_protects :
    (after (.estopAsserted still) { lampGone none with due := [] }).take.protective = some ⟨0, none, 1000, 1001⟩
      ∧ (after (.estopAsserted still) { lampGone none with due := [], take := { base.take with protective := some ⟨2, some 2, 999, 1000⟩ } }).take.protective
        = some ⟨0, none, 999, 1000⟩ := by decide +kernel

/-- The cut of R101 and of R102, and the records that end OUTGOING_FAILED or with their result. -/
theorem test_lamp_failure_of_the_outgoing_projector :
    ((after (.lampFail 0) (lampGone (some (planned switchRec 1100)))).take.protective = some ⟨2, some 2, 1000, 1001⟩)
    ∧ (let t := after (.lampFail 0) (lampGone (some (planned mirrorRec 1100)))
      t.take.protective = none ∧ t.isl[0].commanded = 1 ∧ t.isl[0].pending = some ⟨1, 1014⟩
        ∧ .change ⟨0, 7, 0, 1, 100, 50, .mirror, .emergency, some 0, some 1100, none, 0, ⟨false, false, false, false⟩, none, 1000⟩
          ∈ t.line.queue)
    ∧ ([RecState.armed, .starting, .cutting, .tailout].map (fun st =>
        let t := after (.lampFail 0) (lampGone (some { planned switchRec 1100 with state := st }))
        (t.take.protective, t.line.queue.filterMap (fun n => match n with
          | .change c => some c.result
          | _ => none)))
        = [(some ⟨0, none, 1000, 1001⟩, [.outgoingFailed]), (some ⟨0, none, 1000, 1001⟩, [.outgoingFailed]),
            (some ⟨0, none, 1000, 1001⟩, [.outgoingFailed]), (some ⟨0, none, 1000, 1001⟩, [.onTime])]) := by
  decide +kernel

/-! ### Witnesses: tracker steps -/

/-- P1 in SEARCH with a pending lock that declares now, its channel as given. -/
def locking (c : Channel) : State :=
  withDue (.lockDeclared 0) (withCh 0 c (withTr 0 { seeking 78 4 (some 1000) with pendingLock := some ⟨1000, 78, 0, .even⟩ }
    (withField 1000 base)))

theorem witness_LockDeclaredBringsRun :
    let s := locking { chRunup with record := some ⟨950, 72, true⟩ }
    s.resetHeld = false ∧ .lockDeclared 0 ∈ s.due ∧ s.tr[(0 : Proj)].lock = .search
      ∧ s.tr[(0 : Proj)].pendingLock = some ⟨1000, 78, 0, .even⟩ ∧ s.tb.field = 1000 ∧ s.ch[(0 : Proj)].state = .runup
      ∧ s.ch[(0 : Proj)].record = some ⟨950, 72, true⟩ := by decide +kernel
theorem witness_LockDeclaredBringsRun_after_a_loss :
    let s := locking { chRunup with record := some ⟨950, 72, false⟩ }
    .lockDeclared 0 ∈ s.due ∧ s.tr[(0 : Proj)].lock = .search ∧ s.ch[(0 : Proj)].state = .runup
      ∧ ∀ x ∈ s.ch[(0 : Proj)].record, x.fromReady = false := by decide +kernel
theorem witness_LockDeclaredBringsRun_elsewhere :
    let s := locking chReady
    .lockDeclared 0 ∈ s.due ∧ s.tr[(0 : Proj)].lock = .search ∧ s.ch[(0 : Proj)].state ≠ .runup := by decide +kernel
theorem test_measured_run_up :
    (after (.lockDeclared 0) (locking { chRunup with record := some ⟨950, 72, true⟩ })).ch[0].history = [(50, 6)]
      ∧ (after (.lockDeclared 0) (locking { chRunup with record := some ⟨950, 72, true⟩ })).tr[0].edgeDue = some 1002 := by
  decide +kernel

/-- P1 LOCKED with a slip correction to a frame at this boundary. -/
def slipping (g : Int) : State :=
  withDue (.slipCorrection 0) (withCh 0 chRun (withTr 0 { trLocked 400 998 with slipWait := some ⟨1000, g, 0, .even⟩ }
    (withField 1000 base)))

theorem witness_SlipCorrectionMovesFrame :
    let s := slipping 401
    s.resetHeld = false ∧ .slipCorrection 0 ∈ s.due ∧ s.tr[(0 : Proj)].lock = .locked
      ∧ s.tr[(0 : Proj)].slipWait = some ⟨1000, 401, 0, .even⟩ ∧ s.tb.field = 1000 ∧ InNoRecord s 0
      ∧ s.tr[(0 : Proj)].frame < 401 ∧ s.ch[(0 : Proj)].state = .run ∧ s.cues.lists[(0 : Proj)] = [] ∧ s.tr[(0 : Proj)].period = 0
      ∧ s.det[(0 : Proj)].history.length + 1 < s.det[(0 : Proj)].sigLen ∧ s.det[(0 : Proj)].history.length < 8
      ∧ s.det[(0 : Proj)].found = none := by
  simp only [inNoRecord_iff]; decide +kernel
/-- Frames 1,496 and 1,504 lie at the ends of the window of the worked entry, 1,495 and 1,505 outside it. -/
theorem witness_SlipCorrectionMovesFrame_match :
    correcting.cues.Whole ∧ ⟨2, 1500, .mark 4⟩ ∈ correcting.cues.lists[(4 : Proj)] ∧ OpenAt ⟨2, 1500, .mark 4⟩ 1496
      ∧ OpenAt ⟨2, 1500, .mark 4⟩ 1504 ∧ (∀ y ∈ correcting.cues.lists[(4 : Proj)], OpenAt y 1497 → 1500 ≤ y.pos)
      ∧ (∀ e ∈ correcting.cues.lists[(4 : Proj)], ¬OpenAt e 1495 ∧ ¬OpenAt e 1505) ∧ correcting.line.queue.length < 16 := by
  simp only [openAt_iff]
  exact ⟨whole_of_eval _ (by decide +kernel), by decide +kernel⟩
/-- Corrections to the two ends of the range and to none, under a record in LOCKED. -/
theorem witness_SlipCorrectionMovesFrame_correction :
    let s := withRec 0 (planned switchRec 1100) (running 80)
    RecordsDisjoint s ∧ s.tr[(0 : Proj)].frame + 999919 = 999999 ∧ s.tr[(0 : Proj)].frame + (-100079) = -99999
      ∧ (∀ q ∈ s.tr[(0 : Proj)].pos, q.f = s.tr[(0 : Proj)].frame) ∧ (∀ q ∈ s.tr[(0 : Proj)].pendingLock, q.f = s.tr[(0 : Proj)].frame)
      ∧ (planned switchRec 1100).state ≠ .tailout ∧ s.cues.lists[(0 : Proj)] = [] := by
  simp only [recordsDisjoint_iff]; decide +kernel
theorem test_correction_flags_the_record :
    let s := withRec 0 (planned switchRec 1100) (running 80)
    let flag (p : Proj) (c : Int) := ((s.applyCorrection p c).eng.records[(0 : Rec)]).map (fun r => r.flags.corrected)
    [flag 0 3, flag 0 0, flag 1 3] = [some true, some false, some false] := by decide +kernel
theorem witness_SlipCorrectionMovesFrame_held :
    let s := slipping 400
    .slipCorrection 0 ∈ s.due ∧ s.tr[(0 : Proj)].slipWait = some ⟨1000, 400, 0, .even⟩ ∧ (400 : Int) ≤ s.tr[(0 : Proj)].frame
      ∧ InNoRecord s 0 := by
  simp only [inNoRecord_iff]; decide +kernel
theorem test_slip_correction_advances :
    (after (.slipCorrection 0) (slipping 401)).tr[0].frame = 401
      ∧ (after (.slipCorrection 0) (slipping 401)).det[0].history = [false] := by decide +kernel

theorem witness_MissingEdgeLosesLock :
    let s := { missing chRun with take := { base.take with protectSet := 0x3F } }
    s.resetHeld = false ∧ .missingEdge 0 ∈ s.due ∧ s.tr[(0 : Proj)].lock = .locked ∧ s.tr[(0 : Proj)].edgeDue = some 998
      ∧ s.tb.field = (998 : Field) + 2 ∧ s.ch[(0 : Proj)].state = .run ∧ s.take.protectSet.getLsbD 6 = false := by decide +kernel
theorem witness_MissingEdgeLosesLock_not_in_run :
    (missing chRunup).ch[(0 : Proj)].state ≠ .run ∧ .missingEdge 0 ∈ (missing chRunup).due
      ∧ (missing chRunup).tr[(0 : Proj)].lock = .locked := by decide +kernel
theorem test_missing_edge :
    (after (.missingEdge 0) (missing chRun)).ch[0].state = .runup ∧ (after (.missingEdge 0) (missing chRun)).ch[0].douse = true
      ∧ (after (.missingEdge 0) (missing chRun)).tr[0].lock = .search := by decide +kernel

/-! ### Witnesses: mirrors -/

/-- I1 with a command for port 1 and its readings, claimed or not. -/
def mirrored (d : Due) (settled : Option Port) (claim : Option Rec) (recs : Option Record) : State :=
  withDue d (withIsl 0 { base.isl[0] with commanded := 1, pending := some ⟨1, 1000⟩, settled := settled, claim := claim }
    { withField 1000 base with eng := { base.eng with records := base.eng.records.set 0 recs } })

theorem witness_MirrorCompletesOrFails_complete :
    let s := mirrored (.mirrorComplete 0) (some 1) none none
    s.resetHeld = false ∧ s.isl[(0 : Isl)].pending = some ⟨1, 1000⟩ ∧ .mirrorComplete 0 ∈ s.due
      ∧ s.isl[(0 : Isl)].settled = some 1 ∧ ∀ r, s.isl[(0 : Isl)].claim ≠ some r := by decide +kernel
theorem witness_MirrorCompletesOrFails_fail :
    let s := mirrored (.mirrorDeadline 0) (some 0) none none
    s.isl[(0 : Isl)].pending = some ⟨1, 1000⟩ ∧ .mirrorDeadline 0 ∈ s.due ∧ s.isl[(0 : Isl)].settled ≠ some 1
      ∧ fieldDiff 1000 s.tb.field ≤ 0 ∧ s.isl[(0 : Isl)].claim = none := by decide +kernel
theorem witness_MirrorCompletesOrFails_claimed :
    let s := mirrored (.mirrorDeadline 0) none (some 0) (some { planned mirrorRec 1000 with state := .cutting })
    .mirrorDeadline 0 ∈ s.due ∧ s.isl[(0 : Isl)].claim = some 0
      ∧ s.eng.records[(0 : Rec)] = some { planned mirrorRec 1000 with state := .cutting } ∧ s.line.queue.length ≤ 14 := by
  decide +kernel
theorem test_mirror_fail_ends_the_record :
    let t := after (.mirrorDeadline 0) (mirrored (.mirrorDeadline 0) none (some 0) (some { planned mirrorRec 1000 with state := .cutting }))
    t.eng.records[0] = none ∧ t.isl[0].claim = none ∧ t.isl[0].mismatch = true
      ∧ (t.alarm.get (.isl 0 .mirrorMismatch)).set = true := by decide +kernel

/-! ### Witnesses: takes -/

theorem witness_TakeGrantFollowsRank_protective :
    let s := contending 2001 (some ⟨2, 1, 1990, 2000, 1⟩) none (some ⟨0, none, 2000, 2001⟩) none
    s.resetHeld = false ∧ .takeGrant ∈ s.due ∧ .windowJudged ∉ s.due ∧ s.take.protective = some ⟨0, none, 2000, 2001⟩
      ∧ fieldDiff 2000 s.tb.field < 0 ∧ fieldDiff 2001 s.tb.field ≤ 0 := by decide +kernel
theorem witness_TakeGrantFollowsRank_host :
    let s := contending 2003 none none none (some ⟨7, 2002, 2003⟩)
    .takeGrant ∈ s.due ∧ s.take.protective = none ∧ s.tb.madeInSync = true ∧ (∀ x : Rec, s.take.slots[x] = none)
      ∧ s.take.host = some ⟨7, 2002, 2003⟩ ∧ fieldDiff 2002 s.tb.field < 0 ∧ fieldDiff 2003 s.tb.field ≤ 0 := by decide +kernel
/-- Two records in CUTTING, from P1 at frame f with a tail-out, and from P5, with due requests of one priority. -/
def rivals (tailOut : Option Nat) (f : Int) : State :=
  withTr 0 (trLocked f 2000) { contending 2000 (some ⟨2, 1, 1999, 2000, 3⟩) (some ⟨4, 1, 1990, 1999, 0⟩) none none with
    eng := { base.eng with
      records := #v[some { planned switchRec 2000 with state := .cutting, tailOut := tailOut }, none,
        some { planned switchRec 1999 with state := .cutting, cue := 8, a := 4, b := 6 }, none] } }

/-- Two due requests of one priority, the lower index granted: short of the stop point 120, at it, and with tail-out KEEP. -/
theorem witness_TakeGrantFollowsRank_record :
    ∀ x ∈ [((some 20 : Option Nat), (119 : Int)), (some 20, 120), (none, 119)],
      let s := rivals x.1 x.2
      s.resetHeld = false ∧ .takeGrant ∈ s.due ∧ .windowJudged ∉ s.due ∧ s.take.protective = none ∧ s.tb.madeInSync = true
        ∧ SlotsFitRecords s ∧ RecordsDisjoint s ∧ s.take.slots[(0 : Rec)] = some ⟨2, 1, 1999, 2000, 3⟩
        ∧ s.take.slots[(2 : Rec)] = some ⟨4, 1, 1990, 1999, 0⟩ ∧ s.take.slots[(1 : Rec)] = none ∧ s.take.slots[(3 : Rec)] = none
        ∧ fieldDiff 1999 s.tb.field < 0 ∧ fieldDiff 2000 s.tb.field ≤ 0
        ∧ s.eng.records[(0 : Rec)] = some { planned switchRec 2000 with state := .cutting, tailOut := x.1 } ∧ s.tr[(0 : Proj)].frame = x.2 := by
  simp only [slotsFitRecords_iff, recordsDisjoint_iff]; decide +kernel
theorem test_rank_with_the_cut :
    [((some 20 : Option Nat), (119 : Int)), (some 20, 120), (none, 119)].map (fun x =>
        let t := after .takeGrant (rivals x.1 x.2)
        ((t.eng.records[(0 : Rec)]).map (fun r => (r.state, r.cutMade, r.deferrals)), t.take.slots[(2 : Rec)]))
      = [(some (.tailout, some 2000, 3), some ⟨4, 1, 1990, 1999, 1⟩), (none, some ⟨4, 1, 1990, 1999, 1⟩),
          (none, some ⟨4, 1, 1990, 1999, 1⟩)] := by decide +kernel
theorem witness_TakeGrantFollowsRank_sources_distinct :
    ∀ x y : Isl, (contending 2000 none none none none).isl[x].source = (contending 2000 none none none none).isl[y].source → x = y := by
  decide +kernel
theorem test_equal_priority_lower_index :
    (after .takeGrant (contending 2000 (some ⟨2, 1, 1999, 2000, 0⟩) (some ⟨4, 1, 1990, 1999, 0⟩) none none)).take.last
      = some ⟨2000, 2, .record 0⟩ := by decide +kernel

/-- The record of cue 7 in CUTTING with its request due. -/
def cutting : State :=
  { contending 1100 (some ⟨2, 1, 1099, 1100, 0⟩) none none none with
    eng := { base.eng with records := base.eng.records.set 0 (some { planned switchRec 1100 with state := .cutting }) }
    tr := (base.tr.set 0 (trLocked 100 1100)).set 2 (trLocked 50 1100) }

theorem witness_CutMadeEntersTailout_switch :
    let rec0 := { planned switchRec 1100 with state := RecState.cutting }
    cutting.resetHeld = false ∧ .windowJudged ∉ cutting.due ∧ cutting.eng.records[(0 : Rec)] = some rec0
      ∧ cutting.tr[rec0.a].frame < rec0.p + 20 ∧ .takeGrant ∈ cutting.due ∧ cutting.take.protective = none
      ∧ cutting.tb.madeInSync = true ∧ cutting.take.slots[(0 : Rec)] = some ⟨2, 1, 1099, 1100, 0⟩
      ∧ fieldDiff 1099 cutting.tb.field < 0 ∧ fieldDiff 1100 cutting.tb.field ≤ 0
      ∧ ∀ x : Rec, x ≠ 0 → cutting.take.slots[x] = none := by decide +kernel
theorem witness_CutMadeEntersTailout_mirror :
    let rec0 := { planned mirrorRec 1000 with state := RecState.cutting, tailOut := none }
    let s := mirrored (.mirrorComplete 0) (some 1) (some 0) (some rec0)
    .windowJudged ∉ s.due ∧ s.eng.records[(0 : Rec)] = some rec0 ∧ .mirrorComplete 0 ∈ s.due ∧ s.isl[(0 : Isl)].claim = some 0
      ∧ s.isl[(0 : Isl)].pending = some ⟨1, 1000⟩ ∧ s.isl[(0 : Isl)].settled = some 1 ∧ rec0.tailOut = none
      ∧ rec0.result = some .onTime ∧ s.line.queue.length < 16 := by decide +kernel
/-- P1 past the stop point at the cut; P1 in TAILOUT with a slip correction that reaches it, and one that does not. -/
theorem witness_CutMadeEntersTailout_stop_at_the_cut :
    let rec0 := { planned mirrorRec 1000 with state := RecState.cutting }
    let s := withTr 0 (trLocked 120 1000) (withCh 0 chRun (mirrored (.mirrorComplete 0) (some 1) (some 0) (some rec0)))
    s.resetHeld = false ∧ s.estop = false ∧ RecordsDisjoint s ∧ s.eng.records[(0 : Rec)] = some rec0 ∧ rec0.tailOut = some 20
      ∧ rec0.result = some .onTime ∧ s.line.queue.length < 16 ∧ (rec0.p : Int) + 20 = s.tr[rec0.a].frame ∧ .mirrorComplete 0 ∈ s.due
      ∧ s.isl[(0 : Isl)].claim = some 0 ∧ s.isl[(0 : Isl)].pending = some ⟨1, 1000⟩ ∧ s.isl[(0 : Isl)].settled = some 1 := by
  simp only [recordsDisjoint_iff]; decide +kernel
/-- P1 at its stop point when its take alone is due. -/
theorem witness_CutMadeEntersTailout_stop_at_the_grant :
    let rec0 := { planned switchRec 1100 with state := RecState.cutting }
    let s := withTr 0 (trLocked 120 1100) cutting
    s.resetHeld = false ∧ s.estop = false ∧ RecordsDisjoint s ∧ s.eng.records[(0 : Rec)] = some rec0 ∧ rec0.tailOut = some 20
      ∧ rec0.result = some .onTime ∧ s.line.queue.length < 16 ∧ (rec0.p : Int) + 20 = s.tr[rec0.a].frame ∧ .takeGrant ∈ s.due
      ∧ .windowJudged ∉ s.due ∧ s.take.protective = none ∧ s.tb.madeInSync = true
      ∧ s.take.slots[(0 : Rec)] = some ⟨2, 1, 1099, 1100, 0⟩ ∧ requestReady 1099 1100 s.tb.field
      ∧ ∀ y : Rec, y ≠ 0 → s.take.slots[y] = none := by
  simp only [recordsDisjoint_iff, requestReady]; decide +kernel
/-- The record of cue 7 in TAILOUT, its stop point at 120: P1 in SEARCH at a frame, and P1 coasting at the last perforation of one. -/
def tailSeeking (f : Int) : State :=
  withRec 0 { planned switchRec 990 with state := .tailout, cutMade := some 990 } (withTr 0 (seeking f 0 none) (withCh 0 chRunup base))
def tailCarrying (f : Int) : State :=
  withRec 0 { planned switchRec 990 with state := .tailout, cutMade := some 990 } (withCh 0 chInch (atCarry f 3))
theorem witness_CutMadeEntersTailout_stop_by_film :
    [tailSeeking 118, tailSeeking 119, tailCarrying 118, tailCarrying 119].all (fun s =>
        let u := s.arrive still
        !s.resetHeld && s.due = [] && !u.estop && u.eng.records[(0 : Rec)] = some { planned switchRec 990 with state := .tailout, cutMade := some 990 }
          && decide (u.line.queue.length < 16) && u.cues.lists[(0 : Proj)] = [] && u.tr[(0 : Proj)].period = 0 && u.det[(0 : Proj)].found = none
          && decide (u.det[(0 : Proj)].history.length + 1 < u.det[(0 : Proj)].sigLen)) = true
      ∧ RecordsDisjoint ((tailSeeking 119).arrive still) ∧ RecordsDisjoint ((tailCarrying 119).arrive still)
      ∧ ((tailSeeking 119).arrive still).tr[(0 : Proj)] = seeking 119 0 none ∧ ((tailSeeking 119).arrive still).ch[(0 : Proj)].state = .runup
      ∧ (checkedEdge 4 (seeking 119 0 none)).empty < 3 ∧ still.pins.proj[(0 : Proj)].forward = true
      ∧ ((tailCarrying 119).arrive still).tr[(0 : Proj)].motor = false ∧ ((tailCarrying 119).arrive still).tr[(0 : Proj)].phase + 1 = 4
      ∧ ((tailCarrying 119).arrive still).ch[(0 : Proj)].state = .inch ∧ (100 : Int) + 20 = 119 + 1 := by
  simp only [recordsDisjoint_iff]; decide +kernel
/-- At the boundary of the cut of cue 7, by SWITCH to P3 or by MIRROR to P2, P1 at frame 80. -/
def racing (method : Method) : State :=
  let rec0 := { planned (if method = .mirror then mirrorRec else switchRec) 1001 with state := RecState.cutting }
  let s := withCh rec0.b { chRun with mode := .manual } (withRec 0 rec0 (lockedAt 80 0 1002 none (atField .sync)))
  match method with
  | .switch => { s with take := { s.take with slots := s.take.slots.set 0 (some ⟨2, 1, 1000, 1001, 0⟩) } }
  | .mirror => withIsl 0 { s.isl[0] with claim := some 0, pending := some ⟨0, 1010⟩, reading := some 0 } s
/-- LOOP of one projector is asserted at the boundary. -/
def looping (y : Proj) : Moment := ⟨768000, pinsOf y ⟨true, true, false, false, true⟩⟩
theorem witness_CutMadeEntersTailout_race :
    ∀ x ∈ [(Method.switch, (0 : Proj)), (.switch, 2), (.mirror, 0), (.mirror, 1)],
      let rec0 := { planned (if x.1 = .mirror then mirrorRec else switchRec) 1001 with state := RecState.cutting }
      let u := (racing x.1).arrive (looping x.2)
      (racing x.1).resetHeld = false ∧ u.tb.state = .sync ∧ u.tb.field + 1 = 1001 ∧ u.due = []
        ∧ u.eng.records = (Vector.replicate 4 none).set 0 (some rec0) ∧ u.tr[rec0.a].frame + 1 < (rec0.p : Int) + 20
        ∧ (∀ q ∈ u.tr[rec0.a].pos, q.f = u.tr[rec0.a].frame) ∧ rec0.a ≠ rec0.b ∧ (∀ p : Proj, u.cues.lists[p] = [])
        ∧ u.take.protective = none ∧ u.take.host = none ∧ (x.2 = rec0.a ∨ x.2 = rec0.b)
        ∧ (∀ p : Proj, u.pins.proj[p].tail = false ∧ (u.pins.proj[p].loop = true ↔ p = x.2)) ∧ u.ch[x.2].state = .run
        ∧ ∀ y ∈ u.ch[x.2].record, y.startField ≠ 1001 := by
  decide +kernel
theorem witness_CutMadeEntersTailout_race_methods :
    (let u := (racing .switch).arrive (looping 0);
      (∀ i : Isl, u.isl[i].claim ≠ some 0) ∧ requestReady 1000 1001 1001
        ∧ u.take.slots = (Vector.replicate 4 none).set 0 (some ⟨2, 1, 1000, 1001, 0⟩))
    ∧ (let u := (racing .mirror).arrive (looping 0);
      u.take.slots = Vector.replicate 4 none ∧ (∀ j : Isl, u.isl[j].claim = some 0 ↔ j = 0)
        ∧ u.isl[(0 : Isl)].pending = some ⟨0, 1010⟩ ∧ u.isl[(0 : Isl)].reading = some u.pins.isl[(0 : Isl)].mpos
        ∧ u.pins.isl[(0 : Isl)].mpos.val = (0 : Port).val) := by
  simp only [requestReady]; decide +kernel
/-- R158 and R159: the cut and the LOOP_LOSS of its boundary in both orders. -/
theorem test_cut_or_fault_first :
    ([(.switch, 2, []), (.switch, 2, [.take]), (.switch, 0, [.take]), (.mirror, 1, []),
        (.mirror, 1, [.islands, .step (.mirrorComplete 0)])] : List (Method × Proj × List Part)).map (fun x =>
      let t := after (.fldPulse (looping x.2.1) ⟨x.2.2⟩) (racing x.1)
      ((t.eng.records[(0 : Rec)]).map Record.state, t.take.last.map LastTake.field, t.ch[x.2.1].state))
    = [(none, none, .fault), (some .tailout, some 1001, .fault), (none, some 1001, .fault), (none, none, .fault),
        (some .tailout, none, .fault)] := by decide +kernel
/-- The record of cue 7 in TAILOUT, its stop point at 120, P1's slip correction to frame g. -/
def tailSlip (g : Int) : State :=
  withRec 0 { planned switchRec 990 with state := .tailout, cutMade := some 990 }
    (withTr 0 { trLocked 118 998 with slipWait := some ⟨1000, g, 0, .even⟩ } (slipping 0))
theorem witness_CutMadeEntersTailout_stop_later :
    let rec0 := { planned switchRec 990 with state := RecState.tailout, cutMade := some 990 }
    let s := tailSlip 120
    s.resetHeld = false ∧ s.estop = false ∧ RecordsDisjoint s ∧ s.eng.records[(0 : Rec)] = some rec0 ∧ s.line.queue.length < 16
      ∧ .slipCorrection rec0.a ∈ s.due ∧ s.tr[rec0.a].lock = .locked ∧ s.tr[rec0.a].slipWait = some ⟨1000, 120, 0, .even⟩
      ∧ s.tb.field = 1000 ∧ s.cues.lists[rec0.a] = [] ∧ s.tr[rec0.a].period = 0
      ∧ s.det[rec0.a].history.length + 1 < s.det[rec0.a].sigLen ∧ s.det[rec0.a].found = none ∧ (rec0.p : Int) + 20 = 120 := by
  simp only [recordsDisjoint_iff]; decide +kernel
theorem test_tail_out_stop :
    [(119 : Int), 120].map (fun g =>
      let t := after (.slipCorrection 0) (tailSlip g)
      ((t.eng.records[(0 : Rec)]).isSome, t.ch[(0 : Proj)].state)) = [(true, .run), (false, .coast)] := by decide +kernel
theorem test_cut_made :
    (after .takeGrant cutting).eng.records[0] = some { planned switchRec 1100 with state := .tailout, cutMade := some 1100 } := by
  decide +kernel
theorem test_cut_made_with_keep :
    let s := mirrored (.mirrorComplete 0) (some 1) (some 0) (some { planned mirrorRec 1000 with state := .cutting, tailOut := none })
    (after (.mirrorComplete 0) s).eng.records[0] = none ∧ (after (.mirrorComplete 0) s).isl[0].claim = none
      ∧ (after (.mirrorComplete 0) s).line.queue =
        [.change ⟨0, 7, 0, 1, 100, 50, .mirror, .onTime, some 0, some 1000, some 1000, 0, ⟨false, false, true, false⟩, none, 1000⟩] := by
  decide +kernel

/-- A window of a take to I2 from I1 in its last field, with what was seen of I2. -/
def judging (seenOn : Bool) : State :=
  { withDue .windowJudged (withDue .strobeDrop (withField 2005 base)) with
    take := { base.take with
      strobe := true
      window := some ⟨2000, some 1, #v[true, false, false, false], seenOn, #v[true, false, false, false]⟩ } }

theorem witness_StrobeDropsWindowJudged :
    (judging true).resetHeld = false ∧ .strobeDrop ∈ (judging true).due ∧ .windowJudged ∈ (judging true).due
      ∧ (judging true).take.window = some ⟨2000, some 1, #v[true, false, false, false], true, #v[true, false, false, false]⟩ := by
  decide +kernel
theorem test_unconfirmed_take :
    ((after .takeWindowJudged (judging false)).alarm.get (.isl 1 .takeUnconfirmed)).set = true
      ∧ ((after .takeWindowJudged (judging false)).alarm.get (.isl 0 .takeUnconfirmed)).set = false
      ∧ (after .takeWindowJudged (judging true)).alarm = base.alarm := by decide +kernel
theorem test_strobe_drops : (after .takeStrobeDrop (judging true)).take.strobe = false := by decide +kernel

/-! ### Witnesses: changeovers -/

/-- P1 LOCKED at frame f, P3 READY, the record of cue 7 in ARMED with lead 60. -/
def armed (f : Int) (c : Channel) : State :=
  withDue (.changeoverStart 0) (withRec 0 switchRec (withCh 2 c (running f)))

theorem witness_ChangeoverStartFollowsReach_at_the_lead :
    (armed 70 chReady).resetHeld = false ∧ .changeoverStart 0 ∈ (armed 70 chReady).due
      ∧ (armed 70 chReady).eng.records[(0 : Rec)] = some switchRec ∧ (armed 70 chReady).fieldPos 0 = some ⟨70, 0, .even⟩
      ∧ (⟨70, 0, .even⟩ : Pos).reach 100 = 60 ∧ (armed 70 chReady).estop = false ∧ (armed 70 chReady).ch[(2 : Proj)].state = .ready
      ∧ (∀ e ∈ (armed 70 chReady).cues.lists[(2 : Proj)], (armed 70 chReady).tr[(2 : Proj)].frame ≤ e.pos)
      ∧ (armed 70 chReady).tr[(2 : Proj)].phase = 0 := by decide +kernel
theorem witness_ChangeoverStartFollowsReach_above_the_lead :
    (armed 69 chReady).fieldPos 0 = some ⟨69, 0, .even⟩ ∧ (60 : Int) < (⟨69, 0, .even⟩ : Pos).reach 100 := by decide +kernel
theorem witness_ChangeoverStartFollowsReach_refused :
    (armed 70 chFault).ch[(2 : Proj)].state ≠ .ready ∧ (armed 70 chFault).line.queue.length < 16 := by decide +kernel
theorem witness_ChangeoverStartFollowsReach_unlocked :
    (withTr 0 trSearch (armed 70 chReady)).fieldPos 0 = none := by decide +kernel
theorem test_changeover_starts_at_the_lead :
    (after (.changeoverStart 0) (armed 70 chReady)).eng.records[0] = some { switchRec with state := .starting, startField := some 1000 }
      ∧ (after (.changeoverStart 0) (armed 70 chReady)).ch[2].state = .runup
      ∧ (after (.changeoverStart 0) (armed 69 chReady)).ch[2].state = .ready := by decide +kernel
theorem test_refused_start_ends_the_record :
    (after (.changeoverStart 0) (armed 70 chFault)).eng.records[0] = none
      ∧ (after (.changeoverStart 0) (armed 70 chFault)).line.queue =
        [.change ⟨0, 7, 0, 2, 100, 50, .switch, .incomingFailed, none, none, none, 0, ⟨false, false, false, false⟩, none, 1000⟩] := by
  decide +kernel

/-- Both projectors LOCKED and the record in STARTING: reach of P by P1 is 40, reach of Q by P3 is 2 (50 − f). -/
def deciding (f : Int) (rec0 : Record) : State :=
  withDue (.lockDecision 0) (withRec 0 { rec0 with state := .starting, startField := some 950 }
    (withTr 2 (trLocked f 1000) (withCh 2 { chRun with mode := .manual } (running 80))))

theorem witness_LockDecisionFollowsTable :
    let s := deciding 29 switchRec
    s.resetHeld = false ∧ .lockDecision 0 ∈ s.due
      ∧ s.eng.records[(0 : Rec)] = some { switchRec with state := .starting, startField := some 950 }
      ∧ s.tr[(0 : Proj)].lock = .locked ∧ s.tr[(2 : Proj)].lock = .locked ∧ s.fieldPos 0 = some ⟨80, 0, .even⟩
      ∧ s.fieldPos 2 = some ⟨29, 0, .even⟩
      ∧ (⟨29, 0, .even⟩ : Pos).reach 50 - (⟨80, 0, .even⟩ : Pos).reach 100 = switchRec.tolerance := by decide +kernel
/-- E at the end of each band: early, held at the margin, held short beyond it; and under each other policy. -/
theorem witness_LockDecisionFollowsTable_bands :
    [31, 30, 29, 28, 25, 24].map (fun f => (⟨f, 0, .even⟩ : Pos).reach 50 - (⟨80, 0, .even⟩ : Pos).reach 100) = [-2, 0, 2, 4, 10, 12]
      ∧ (⟨32, 0, .even⟩ : Pos).reach 50 - (⟨80, 0, .even⟩ : Pos).reach 100 < -(switchRec.tolerance : Int)
      ∧ switchRec.margin = 10 ∧ switchRec.policy = .hold := by decide +kernel
theorem test_decisions :
    [(29, switchRec), (32, switchRec), (25, switchRec), (24, switchRec), (28, { switchRec with policy := .cutOnTime })].map
        (fun x => ((after (.lockDecision 0) (deciding x.1 x.2)).eng.records[0]).map (fun r => (r.planned, r.result)))
      = [some (some 1040, some .onTime), some (some 1040, some .early), some (some 1050, some .held), some (some 1050, some .heldShort),
          some (some 1040, some .lateCut)] := by decide +kernel
theorem test_abandoned :
    let t := after (.lockDecision 0) (deciding 28 { switchRec with policy := .abandon })
    t.eng.records[0] = none ∧ (t.alarm.get (.proj 0 .changeAbandoned)).set = true ∧ t.ch[2].state = .coast ∧ t.ch[0].state = .run := by
  decide +kernel

/-- A LOCKED record of cue 7 at a boundary of field 1,000, its incoming channel as given. -/
def atCut (rec0 : Record) (d : Due) (c : Channel) : State :=
  withDue d (withRec 0 rec0 (withCh rec0.b c (withIsl 0 { base.isl[0] with claim := if rec0.method = .mirror then some 0 else none }
    (running 90))))

theorem witness_CutTestsFollowPlan_switch :
    let s := atCut (planned switchRec 1001) (.switchCut 0) chRun
    s.resetHeld = false ∧ s.eng.records[(0 : Rec)] = some (planned switchRec 1001) ∧ (planned switchRec 1001).planned = some 1001
      ∧ s.route[(planned switchRec 1001).b] = some (1, 0) ∧ .switchCut 0 ∈ s.due ∧ fieldDiff 1001 s.tb.field ≤ 1
      ∧ s.ch[(2 : Proj)].state = .run ∧ 1 < fieldDiff 1002 s.tb.field := by decide +kernel
theorem witness_CutTestsFollowPlan_mirror :
    let s := atCut (planned mirrorRec 1006) (.mirrorCut 0) chRun
    s.eng.records[(0 : Rec)] = some (planned mirrorRec 1006) ∧ s.route[(planned mirrorRec 1006).b] = some (0, 1) ∧ .mirrorCut 0 ∈ s.due
      ∧ s.isl[(0 : Isl)].claim = some 0 ∧ (∀ j : Isl, s.isl[j].claim = some 0 → j = 0)
      ∧ fieldDiff ((1006 : Field) - BitVec.ofNat 32 s.isl[(0 : Isl)].travel) s.tb.field = 0
      ∧ 0 < fieldDiff ((1007 : Field) - BitVec.ofNat 32 s.isl[(0 : Isl)].travel) s.tb.field := by decide +kernel
theorem witness_CutTestsFollowPlan_not_running :
    ¬((atCut (planned switchRec 1001) (.switchCut 0) chFault).ch[(2 : Proj)].state = .runup
      ∨ (atCut (planned switchRec 1001) (.switchCut 0) chFault).ch[(2 : Proj)].state = .run) := by decide +kernel
theorem test_switch_cut_posts :
    (after (.switchCutPost 0) (atCut (planned switchRec 1001) (.switchCut 0) chRun)).take.slots[0] = some ⟨2, 1, 1000, 1001, 0⟩
      ∧ (after (.switchCutPost 0) (atCut (planned switchRec 1002) (.switchCut 0) chRun)).take.slots[0] = none := by decide +kernel
theorem test_mirror_cut_commands :
    (after (.mirrorCut 0) (atCut (planned mirrorRec 1006) (.mirrorCut 0) chRun)).isl[0].pending = some ⟨1, 1014⟩
      ∧ ((after (.mirrorCut 0) (atCut (planned mirrorRec 1002) (.mirrorCut 0) chRun)).eng.records[0]).map Record.deferrals = some 4
      ∧ (after (.mirrorCut 0) (atCut (planned mirrorRec 1007) (.mirrorCut 0) chRun)).isl[0].commanded = 0 := by decide +kernel

/-! ### The invariants in a form that can be evaluated -/

theorem follows_of_eval (c : Channel)
    (h : c.motor = c.running ∧ (c.douse = true ↔ c.state = .run ∨ (c.state = .runup ∧ c.douseHeld = true))
      ∧ ((c.inchF = true ∨ c.inchR = true) ↔ c.state = .inch) ∧ ¬(c.inchF = true ∧ c.inchR = true)
      ∧ (c.state = .dark ∨ c.cause = .lampFail ∨ c.cause = .estop → c.lamp = false)
      ∧ (c.state = .strike ∨ c.state = .ready ∨ c.state = .runup ∨ c.state = .run → c.lamp = true)
      ∧ (c.cause = .none ↔ c.state ≠ .fault) ∧ (c.strike.isSome = true ↔ c.state = .strike)
      ∧ (c.runup.isSome = true ↔ c.state = .runup) ∧ (c.record.isSome = true ↔ c.state = .runup ∨ c.state = .run)) : c.Follows :=
  ⟨h.1, h.2.1, h.2.2.1, h.2.2.2.1, h.2.2.2.2.1, h.2.2.2.2.2.1, h.2.2.2.2.2.2.1, h.2.2.2.2.2.2.2.1, h.2.2.2.2.2.2.2.2.1,
    h.2.2.2.2.2.2.2.2.2⟩

/-- The steps of a standard (R1). -/
def usesB : Standard → Step → Bool
  | .s50, c => decide (c = .even)
  | .s60, c => decide (c = .long) || decide (c = .short)

theorem uses_of_eval (std : Standard) (c : Step) (h : usesB std c = true) : std.uses c := by
  cases std <;> simpa [Standard.uses, usesB] using h

/-- What R44 asks of a tracker. -/
def fitsB (std : Standard) (g : Nat) (st : ProjState) (t : Tracker) : Bool :=
  let runs := decide (st = .runup) || decide (st = .run)
  (t.motor == runs) && (decide (t.lock = .unlocked) == !runs) && (decide (t.lock = .search) == decide (st = .runup))
    && (decide (t.lock = .locked) == decide (st = .run)) && (t.pos.isSome == decide (t.lock = .locked))
    && (t.edgeDue.isSome == decide (t.lock = .locked)) && (!t.pendingLock.isSome || decide (t.lock = .search))
    && (!t.slipWait.isSome || decide (t.lock = .locked))
    && t.pos.all (fun q => decide (q.f = t.frame) && decide (q.i < q.c.len) && usesB std q.c)
    && t.pendingLock.all (fun q => decide (q.i ≤ 1) && usesB std q.c) && t.slipWait.all (fun w => decide (w.i ≤ 1) && usesB std w.c)
    && decide (-99999 ≤ t.frame) && decide (t.frame ≤ 999999) && decide (t.phase < g)

theorem fits_of_eval (std : Standard) (g : Nat) (st : ProjState) (t : Tracker) (h : fitsB std g st t = true) :
    TrackerFits std g st t := by
  unfold fitsB at h
  simp only [Bool.and_eq_true, Option.all_eq_true, decide_eq_true_eq] at h
  obtain ⟨⟨⟨⟨⟨⟨⟨⟨⟨⟨⟨⟨⟨h1, h2⟩, h3⟩, h4⟩, h5⟩, h6⟩, h7⟩, h8⟩, h9⟩, h10⟩, h11⟩, h12⟩, h13⟩, h14⟩ := h
  exact
    { motor := by rw [beq_iff_eq] at h1; rw [h1]; simp
      unlocked := by rw [beq_iff_eq] at h2; have := congrArg (· = true) h2; simpa using this
      search := by rw [beq_iff_eq] at h3; have := congrArg (· = true) h3; simpa using this
      locked := by rw [beq_iff_eq] at h4; have := congrArg (· = true) h4; simpa using this
      hasPos := by rw [beq_iff_eq] at h5; rw [h5]; simp
      hasDue := by rw [beq_iff_eq] at h6; rw [h6]; simp
      pendingInSearch := fun e => by simpa [e] using h7
      slipInLock := fun e => by simpa [e] using h8
      pos := fun q hq => ⟨(h9 q hq).1.1, (h9 q hq).1.2, uses_of_eval _ _ (h9 q hq).2⟩
      pending := fun q hq => ⟨(h10 q hq).1, uses_of_eval _ _ (h10 q hq).2⟩
      slip := fun w hw => ⟨(h11 w hw).1, uses_of_eval _ _ (h11 w hw).2⟩
      low := h12
      high := h13
      phase := h14 }

/-- P1 in RUN and LOCKED with an entry, P2 in READY, and a step that waits. -/
def working : State :=
  { withCue 0 (stopCue 5 20) (withCh 1 chReady (withTr 0 { trLocked 10 0 with edgeDue := some 2 } (withCh 0 chRun base))) with
    pending := [.poll still] }

theorem witness_OutputsFollowStateKept :
    OutputsFollowState working ∧ EstopHoldsOutputs working ∧ step working = .next (after (.poll still) { working with pending := [] }) :=
  ⟨fun p => follows_of_eval _ (by revert p; decide +kernel), fun h => absurd h (by decide +kernel), rfl⟩
theorem witness_EstopHoldsOutputs : EstopHoldsOutputs estopped ∧ estopped.estop = true :=
  ⟨fun _ => by decide +kernel, rfl⟩
theorem witness_TrackersFitKept : TrackersFit working :=
  fun p => fits_of_eval _ _ _ _ (by revert p; decide +kernel)
theorem witness_CueStoreKept : CuesWhole working := whole_of_eval _ (by decide +kernel)
theorem witness_AlarmLinesAndQueueKept : LinesFollowLatches twoSlips ∧ QueueBounded twoSlips := by
  refine ⟨?_, ?_⟩
  · unfold LinesFollowLatches
    rw [if_neg (by decide +kernel), ← shows_iff_anyLit, ← shows_iff_anyLit]
    decide +kernel
  · unfold QueueBounded; decide +kernel

/-- The record of cue 7 in LOCKED by MIRROR with its island claimed. -/
def claimed : State := atCut (planned mirrorRec 1006) (.mirrorCut 0) chRun

theorem witness_ChangeoverTablesKept_slots : SlotsFitRecords cutting ∧ cutting.take.slots[(0 : Rec)] ≠ none := by
  simp only [slotsFitRecords_iff]; decide +kernel
theorem witness_ChangeoverTablesKept : RecordsDisjoint claimed ∧ ClaimsFitRecords claimed ∧ PlacesDistinct claimed := by
  refine ⟨by rw [recordsDisjoint_iff]; decide +kernel, ?_, by unfold PlacesDistinct; decide +kernel⟩
  have h : ∀ (i : Isl) (r : Rec), claimed.isl[i].claim = some r → i = 0 ∧ r = 0 := by decide +kernel
  intro i r hr
  obtain ⟨rfl, rfl⟩ := h i r hr
  exact ⟨planned mirrorRec 1006, by decide +kernel⟩
theorem witness_SettingsChangeOnlyBySettings :
    ¬maySet (.restart still .group) ∧ exec (.restart still .group) base = .next (after (.restart still .group) base) :=
  ⟨id, rfl⟩
/-- The frames at the two ends of the range of R13. -/
theorem witness_CadenceSumAndReach :
    (1 : Nat) ≤ 1099998 ∧ (-99999 : Int) < 999999 ∧ (⟨-99999, 0, .long⟩ : Pos).i < (⟨-99999, 0, .long⟩ : Pos).c.len
      ∧ (⟨-99999, 0, .long⟩ : Pos).reach 999999 ≤ 2750001 := by decide +kernel

/-! ### Witnesses: arming -/

/-- A table with no FREE record. -/
def lateFull : State := { base with eng := { base.eng with records := Vector.replicate 4 (some switchRec) } }

/-- P1 at frame f with its CHANGE entry at 100 for P3 in READY, target 50; the run-up of P3 is 60 fields and 8 frames. -/
def arming (f : Int) (frameB : Int) : State :=
  withCue 0 (changeCue 7 100 2 50) (withTr 2 { Tracker.powerOn with frame := frameB } (withCh 2 chReady (running f)))

theorem witness_ArmingFollowsChecks :
    let s := arming 10 42
    s.cues.Whole ∧ s.ch[(0 : Proj)].state = .run ∧ s.ch[(0 : Proj)].mode = .auto ∧ s.fieldPos 0 = some ⟨10, 0, .even⟩
      ∧ changeCue 7 100 2 50 ∈ s.cues.lists[(0 : Proj)]
      ∧ (∀ x ∈ s.cues.lists[(0 : Proj)], (10 : Int) < x.pos → x.pos < 100 → x.kind.tag ≠ .change)
      ∧ (100 : Int) - 10 ≤ s.eng.horizon ∧ s.eng.records[(0 : Rec)] = none ∧ (∀ x : Rec, x < 0 → s.eng.records[x] ≠ none)
      ∧ InNoRecord s 0 ∧ InNoRecord s 2 ∧ s.ch[(2 : Proj)].state = .ready
      ∧ (50 : Int) - s.tr[(2 : Proj)].frame - s.ch[(2 : Proj)].dEff = 0 ∧ s.route[(2 : Proj)] = some (1, 0)
      ∧ (∀ x ∈ s.route[(0 : Proj)], x.1 ≠ 1) ∧ MethodFor s 0 1 .switch
      ∧ (s.ch[(2 : Proj)].uEff + cad 0 .even : Nat) < (⟨10, 0, .even⟩ : Pos).reach 100 := by
  simp only [inNoRecord_iff, MethodFor]
  exact ⟨whole_of_eval _ (by decide +kernel), by decide +kernel⟩
/-- The failing checks: beyond the horizon, no FREE record, P3 unrouted, the island of P2 claimed, the tally of I2 asserted. -/
theorem witness_ArmingFollowsChecks_fails :
    ((arming 10 42).eng.horizon : Int) < 491 - 10 ∧ (∀ x : Rec, lateFull.eng.records[x] ≠ none)
      ∧ ({ arming 10 42 with route := base.route.set 2 none } : State).route[(2 : Proj)] = none
      ∧ (∀ method, ¬MethodFor (withIsl 0 { base.isl[0] with claim := some 3 } (arming 10 42)) 0 0 method)
      ∧ ∀ method, ¬MethodFor { arming 10 42 with pins := pinsAt 1 ⟨0, true⟩ } 0 1 method := by
  refine ⟨by decide +kernel, by decide +kernel, by decide +kernel, ?_, ?_⟩ <;>
    (simp only [MethodFor]; intro method; cases method <;> decide +kernel)
/-- P1 with its CHANGE entry for P2 at the same island, at the lead and one field below it, under a late policy. -/
def armingMirror (f : Int) (policy : Policy) : State :=
  withCue 0 ⟨7, 100, .change ⟨1, 50, 2, policy, 1, 0, 10, some 20⟩⟩
    (withTr 1 { Tracker.powerOn with frame := 42 } (withCh 1 chReady (running f)))
theorem witness_ArmingFollowsChecks_mirror :
    let s := armingMirror 70 .hold
    s.cues.Whole ∧ s.ch[(0 : Proj)].state = .run ∧ s.fieldPos 0 = some ⟨70, 0, .even⟩ ∧ MethodFor s 0 0 .mirror
      ∧ s.route[(1 : Proj)] = some (0, 1) ∧ (⟨70, 0, .even⟩ : Pos).reach 100 = 60
      ∧ (armedRecord s 0 ⟨70, 0, .even⟩ ⟨7, 100, .change ⟨1, 50, 2, .hold, 1, 0, 10, some 20⟩⟩ ⟨1, 50, 2, .hold, 1, 0, 10, some 20⟩ .mirror).lead = 60
      ∧ s.tr[(1 : Proj)].phase = 0 ∧ (∀ x ∈ s.cues.lists[(1 : Proj)], s.tr[(1 : Proj)].frame ≤ x.pos) ∧ s.estop = false := by
  simp only [MethodFor]
  exact ⟨whole_of_eval _ (by decide +kernel), by decide +kernel⟩
theorem witness_ArmingFollowsChecks_late :
    let s := armingMirror 71 .abandon
    s.fieldPos 0 = some ⟨71, 0, .even⟩ ∧ (⟨71, 0, .even⟩ : Pos).reach 100 = 58 ∧ (∀ j : Isl, s.isl[j].claim ≠ some 0)
      ∧ s.line.queue.length ≤ 12 := by decide +kernel
theorem test_arming_at_the_lead_and_late :
    let made (f : Int) (policy : Policy) : Option (RecState × Bool) × ProjState × Option Rec :=
      let t := (armingMirror f policy).armAttempt 0
      ((t.eng.records[(0 : Rec)]).map (fun r => (r.state, r.flags.lateStart)), t.ch[(1 : Proj)].state, t.isl[(0 : Isl)].claim)
    [made 69 .hold, made 70 .abandon, made 71 .hold, made 71 .abandon]
      = [(some (.armed, false), .ready, some 0), (some (.starting, false), .runup, some 0), (some (.starting, true), .runup, some 0),
          (none, .ready, none)] := by decide +kernel
/-- P1 with the entry at the boundary of a pulse in SYNC. -/
def armingAt (f : Int) : State :=
  let s := arming f 42
  { withTr 0 { trLocked f 1000 with edgeDue := some 1002 } s with tb := { s.tb with state := .sync, lastPulse := some 0 } }
theorem witness_ArmingFollowsChecks_at_a_pulse :
    let u := (armingAt 10).arrive (later 768000)
    (armingAt 10).resetHeld = false ∧ u.due = [] ∧ u.tb.state = .sync ∧ (∀ x : Rec, u.eng.records[x] = none)
      ∧ u.cues.lists[(0 : Proj)] = [changeCue 7 100 2 50] ∧ (∀ x : Proj, x ≠ 0 → u.cues.lists[x] = [])
      ∧ (∀ x : Proj, u.pins.proj[x].loop = false ∧ u.pins.proj[x].tail = false) ∧ u.ch[(0 : Proj)].state = .run
      ∧ u.ch[(0 : Proj)].mode = .auto ∧ u.tr[(0 : Proj)].lock = .locked ∧ u.tr[(0 : Proj)].pos = some ⟨10, 0, .even⟩
      ∧ u.tr[(0 : Proj)].frame = 10 ∧ u.tr[(0 : Proj)].slipWait = none ∧ u.tr[(0 : Proj)].edgeDue = some 1002
      ∧ u.tb.field + 1 ≠ 1002 + 2 ∧ (100 : Int) - 10 ≤ u.eng.horizon ∧ u.ch[(2 : Proj)].state = .ready
      ∧ u.tr[(2 : Proj)].lock = .unlocked ∧ u.route[(2 : Proj)] = some (1, 0) ∧ 0 ≤ (50 : Int) - u.tr[(2 : Proj)].frame - u.ch[(2 : Proj)].dEff
      ∧ MethodFor u 0 1 .switch ∧ (60 : Int) < (⟨10, 1, .even⟩ : Pos).reach 100 := by
  simp only [MethodFor]; decide +kernel
theorem witness_ArmingFollowsChecks_no_preroll :
    let s := arming 10 43
    s.cues.Whole ∧ (50 : Int) - s.tr[(2 : Proj)].frame - s.ch[(2 : Proj)].dEff = -1 ∧ s.route[(2 : Proj)] ≠ none :=
  ⟨whole_of_eval _ (by decide +kernel), by decide +kernel⟩
theorem test_arming_without_preroll :
    ((arming 10 43).armAttempt 0).cues.lists[0] = [] ∧ ((arming 10 43).armAttempt 0).eng = (arming 10 43).eng
      ∧ (((arming 10 43).armAttempt 0).alarm.get (.proj 0 .changeMissed)).set = true := by decide +kernel
theorem test_arming_waits :
    (((arming 10 42).armAttempt 0).eng.records[0]).map (fun r => (r.state, r.method, r.lead)) = some (.armed, .switch, 60) := by
  decide +kernel

/-- A pulse in SYNC arms; check 6 of R131 reads the tally for the field that begins, in whatever order the blocks take the boundary. -/
theorem test_pulse_arms :
    (let t := after (.fldPulse (later 768000) BoundaryOrder.plain) (armingAt 10);
      (t.eng.records[0]).map (fun r => (r.state, r.method)) = some (.armed, .switch) ∧ t.cues.lists[0] = [])
    ∧ ([BoundaryOrder.plain, ⟨[.arming 0, .islands]⟩, ⟨[.arming 0]⟩].map (fun o =>
        [false, true].map (fun tly =>
          ((after (.fldPulse ⟨768000, pinsAt 1 ⟨0, tly⟩⟩ o) (withIsl 1 { base.isl[1] with tally := some (!tly) } (armingAt 10))).eng.records[0]).isSome))
        = [[true, false], [true, false], [true, false]]) := by
  decide +kernel

/-! ### Witnesses: the line -/

theorem witness_ReceiverReadsFrame_in_time :
    let u := base.arrive (later 176000)
    base.resetHeld = false ∧ u.line.rate.toNat = 0 ∧ u.now = u.line.lastByte + 4 * 44000 := by decide +kernel
theorem witness_ReceiverReadsFrame :
    base.line.rx = .idle ∧ (List.replicate 63 (0 : Byte)).length + 1 ≤ 64 ∧ (0x00 : Byte) = BitVec.ofNat 8 base.line.own.toNat := by
  decide +kernel
theorem witness_ReceiverReadsFrame_group :
    let own : Byte := BitVec.ofNat 8 busyLine.line.own.toNat
    let mask : Byte := BitVec.ofNat 8 busyLine.line.mask.toNat
    busyLine.line.rx = .idle ∧ (21 : Byte) ≠ own ∧ mask ≠ 0 ∧ ((21 : Byte) ^^^ own) &&& ~~~mask = 0 := by decide +kernel
theorem witness_MessageRowIsItsFrame :
    frameOf (.lampOn still .group 0) = some (still, .group, 0x20, [0, 1])
      ∧ frameOf (.setHorizon still 480) = some (still, .individual, 0x16, [0x01, 0xE0]) := by
  refine ⟨rfl, ?_⟩; decide +kernel
theorem witness_RefusedCommandChangesNothing_no_code :
    base.replyPending = false ∧ ∀ n, ¬∃ i m via b, frameOf i = some (m, via, 0x7F, b) ∧ b.length = n := by
  refine ⟨by decide +kernel, ?_⟩
  rintro n ⟨i, m, via, b, h, -⟩
  cases i <;> simp [frameOf] at h
theorem witness_RefusedCommandChangesNothing_wrong_length :
    (∃ n, ∃ i m via b, frameOf i = some (m, via, 0x65, b) ∧ b.length = n)
      ∧ ¬∃ i m via b, frameOf i = some (m, via, 0x65, b) ∧ b.length = [(0 : Byte)].length := by
  refine ⟨⟨0, .poll still, still, .individual, [], rfl, rfl⟩, ?_⟩
  rintro ⟨i, m, via, b, h, hb⟩
  cases i <;> simp [frameOf] at h
  simp [← h.2.2] at hb
theorem witness_RefusedCommandChangesNothing_refused :
    statusOf (base.frameComplete .individual 0x19 [64]) = some 0x12 ∧ ¬((0x19 : Byte).toNat ∈ [0x20, 0x21, 0x22]) := by
  decide +kernel
theorem test_code_and_length_refusals :
    statusOf (base.frameComplete .individual 0x7F []) = some 0x11 ∧ statusOf (base.frameComplete .individual 0x65 [0]) = some 0x10 := by
  decide +kernel

/-- A reply waits. -/
def replying : State := withLine (fun l => { l with reply := some aReply }) base

theorem witness_OverrunsAndDroppedGroups :
    replying.resetHeld = false ∧ frameOf (.poll still) = some (still, .individual, 0x65, []) ∧ (replying.arrive still).replyPending = true := by
  refine ⟨rfl, rfl, ?_⟩; decide +kernel
theorem witness_OverrunsAndDroppedGroups_group :
    (0x65 : Byte).toNat ∉ [0x20, 0x21, 0x22, 0x25, 0x66]
      ∧ ∀ i m b, frameOf i = some (m, .group, 0x66, b) → b.length ≠ [(0 : Byte)].length := by
  refine ⟨by decide, ?_⟩
  intro i m b h
  cases i <;> simp [frameOf] at h
  simp [← h.2.2]
theorem test_overrun :
    (after (.poll still) replying).line.overruns = 1 ∧ (after (.poll still) replying).line.taken = 0
      ∧ ((after (.poll still) replying).alarm.get (.dev .lineOverrun)).set = true := by decide +kernel
theorem test_dropped_group :
    (base.frameComplete .group 0x65 []).line.faults = 1 ∧ (base.frameComplete .group 0x65 []).line.taken = 0 := by decide +kernel

/-- The receiver in a state at rate 9600, four character times after the last character. -/
def receiving (rx : RxState) (buffer : List Byte) : State := withLine (fun l => { l with rx := rx, buffer := buffer }) base

theorem witness_ReceiverTable :
    let u := (receiving .idle []).arrive (later 176000)
    (receiving .idle []).resetHeld = false ∧ u.now ≤ u.line.lastByte + 4 * 44000 ∧ u.line.rx = .idle := by decide +kernel
theorem witness_ReceiverTable_receive :
    let u := (receiving (.receive (some .individual)) [0]).arrive (later 176000)
    u.line.rx = .receive (some .individual) ∧ u.line.buffer = [0] ∧ u.now ≤ u.line.lastByte + 4 * 44000
      ∧ 64 < (goodChar 65).data.toNat ∧ ((receiving (.receive none) []).arrive (later 176000)).line.rx = .receive none := by
  decide +kernel
/-- The lengths 1 and 64; the code of a frame of length 2, and its last byte; the code of a frame of length 1. -/
theorem witness_ReceiverTable_frame :
    let u (b : List Byte) := (receiving (.receive (some .individual)) b).arrive (later 176000)
    [[(0 : Byte)], [0, 2], [0, 2, 0x22], [0, 1]].all (fun b => (u b).line.rx = .receive (some .individual) && (u b).line.buffer = b
        && decide ((u b).now ≤ (u b).line.lastByte + 4 * 44000)) = true
      ∧ 1 ≤ (goodChar 1).data.toNat ∧ (goodChar 64).data.toNat ≤ 64 ∧ ([] : List Byte).length + 1 ≠ (2 : Byte).toNat
      ∧ [(0x22 : Byte)] ++ [(goodChar 0).data] = 0x22 :: [0] ∧ [(0 : Byte)].length + 1 = (2 : Byte).toNat
      ∧ [] ++ [(goodChar 0x65).data] = 0x65 :: [] ∧ ([] : List Byte).length + 1 = (1 : Byte).toNat := by decide +kernel
theorem witness_ReceiverTable_foreign :
    ((receiving (.foreign none) []).arrive still).line.rx = .foreign none
      ∧ ((receiving (.foreign (some 1)) []).arrive still).line.rx = .foreign (some 1)
      ∧ ((receiving (.foreign (some 2)) []).arrive still).line.rx = .foreign (some 2)
      ∧ ((receiving .discard []).arrive still).line.rx = .discard := by decide +kernel
theorem test_receiver_lengths :
    [1, 64, 0, 65].map (fun (n : Byte) => (after (.lineByte still (goodChar n)) (receiving (.receive (some .individual)) [0])).line.rx)
      = [.receive (some .individual), .receive (some .individual), .discard, .discard] := by decide +kernel
theorem test_silence_after_a_gap :
    (after (.lineByte (later 176001) (goodChar 0x01)) (receiving (.receive none) [])).line.faults = 1
      ∧ (after (.lineByte (later 176001) (goodChar 0x01)) (receiving (.receive none) [])).line.rx = .receive none
      ∧ (after .lineSilenceTimeout (receiving (.receive none) [])).line.rx = .idle
      ∧ (after .lineSilenceTimeout (receiving (.receive none) [])).now = 132000 := by decide +kernel

/-- R181: the pair is driven to the last stop bit of the reply begun at 44000, five characters of 44000, and no longer. -/
theorem test_return_pair_is_driven_to_the_last_stop_bit :
    [44000, 264000, 264001].map (fun t =>
      { withLine (fun l => { l with reply := some { aReply with started := some 44000 } }) base with now := t }.drivesReturn)
        = [true, true, false] ∧ replying.drivesReturn = false := by decide +kernel
theorem witness_ReplyTimes : replying.resetHeld = false ∧ replying.line.reply = some aReply ∧ aReply.started = none := by
  decide +kernel
theorem witness_ReplyTimes_none : base.resetHeld = false ∧ base.line.reply = none := by decide +kernel
theorem witness_ReplyTimes_started :
    (withLine (fun l => { l with reply := some { aReply with started := some 44000 } }) base).line.reply
      = some { aReply with started := some 44000 } := by decide +kernel
/-- A row that comes after the last moment begins the reply at the present time. -/
theorem test_late_reply_start :
    (after (.replyStart 44000) { replying with now := 200000 }).line.reply = some { aReply with started := some 200000 } := by decide +kernel
theorem test_reply_times :
    (after (.replyStart 0) replying).now = 44000 ∧ (after (.replyStart 999999) replying).now = 176000
      ∧ (after .replyComplete (after (.replyStart 44000) replying)).now = 6 * 44000
      ∧ (after .replyComplete (after (.replyStart 44000) replying)).line.reply = none := by decide +kernel

/-! ### Witnesses: setting commands -/

theorem witness_hears : Hears base still .individual ∧ Hears replying still .group := by
  simp only [hears_iff]; decide +kernel

theorem witness_SetStandardRow :
    let u := base.arrive still
    Hears base still .individual ∧ u.tb.standard = .s50 ∧ (∀ p : Proj, AtRest u.ch[p]) ∧ (∀ r : Rec, u.eng.records[r] = none)
      ∧ ¬1 < (1 : Byte).toNat ∧ 1 < (2 : Byte).toNat := by
  simp only [hears_iff, atRest_iff]; decide +kernel
theorem witness_SetStandardRow_busy :
    Hears (running 10) still .individual ∧ ¬AtRest ((running 10).arrive still).ch[(0 : Proj)]
      ∧ ((running 10).arrive still).tb.standard ≠ .s60 := by
  simp only [hears_iff, atRest_iff]; decide +kernel
theorem test_set_standard :
    [(base, 2), (base, 0), (base, 1), (running 10, 1)].map (fun (x : State × Byte) => statusOf (after (.setStandard still x.2) x.1))
      = [some 0x12, some 0x00, some 0x00, some 0x13]
      ∧ (after (.setStandard still 1) base).tb.tick = some 640000 := by decide +kernel

theorem witness_RouteAndIslandRows :
    let u := base.arrive still
    Hears base still .individual ∧ InNoRecord u 7 ∧ AtRest u.ch[(7 : Proj)] ∧ (8 : Byte) = projByte 7 ∧ (4 : Byte) = islByte 3
      ∧ (2 : Byte) = BitVec.ofNat 8 (2 : Port).val ∧ ∀ x : Proj, x ≠ 7 → u.route[x] ≠ some (3, 2) := by
  simp only [hears_iff, inNoRecord_iff, atRest_iff]; decide +kernel
theorem witness_RouteAndIslandRows_held :
    let u := (withRec 0 switchRec base).arrive still
    ¬InNoRecord u 0 ∧ ¬AtRest ((running 10).arrive still).ch[(0 : Proj)] ∧ u.route[(0 : Proj)] = some (0, 0)
      ∧ u.route[(1 : Proj)] = some (0, 1) := by
  simp only [inNoRecord_iff, atRest_iff]; decide +kernel
theorem witness_RouteAndIslandRows_island :
    let u := base.arrive still
    (31 : Byte) = BitVec.ofNat 8 (31 : Source).val ∧ (∀ x : Isl, u.isl[x].source ≠ 31) ∧ u.take.safety ≠ 31
      ∧ u.isl[(1 : Isl)].source = 2 ∧ u.take.safety = 0 := by decide +kernel
theorem test_set_route :
    [((8 : Byte), (4 : Byte), (2 : Byte)), (8, 4, 0), (8, 0, 9), (8, 5, 0), (8, 4, 3), (9, 1, 1)].map
        (fun x => statusOf (after (.setRoute still x.1 x.2.1 x.2.2) base))
      = [some 0x00, some 0x1A, some 0x00, some 0x12, some 0x12, some 0x12] := by decide +kernel
theorem test_set_island :
    [((4 : Byte), (31 : Byte), (15 : Byte)), (4, 31, 16), (4, 31, 0), (4, 1, 6), (4, 0, 6), (4, 32, 6)].map
        (fun x => statusOf (after (.setIsland still x.1 x.2.1 x.2.2) base))
      = [some 0x00, some 0x01, some 0x01, some 0x1A, some 0x1A, some 0x12] := by decide +kernel

/-- The body of SET_PROJECTOR for P8 with each value at the upper end of its range, but for what is given. -/
def bodyOf (gauge : Byte) (strike : BitVec 16) (k : Byte) : ProjectorBody := ⟨8, gauge, strike, 1023, 63, 1023, 255, 8, 16, k, 7⟩

theorem witness_ProjectorAndSignatureRows :
    let u := base.arrive still
    let b := bodyOf 1 1023 15
    Hears base still .individual ∧ 1 ≤ b.projector.toNat ∧ b.projector.toNat ≤ 8 ∧ b.gauge.toNat ≤ 1 ∧ b.adaptDepth.toNat ∈ [0, 2, 4, 8]
      ∧ b.projector = projByte 7 ∧ InNoRecord u 7 ∧ AtRest u.ch[(7 : Proj)] := by
  simp only [hears_iff, inNoRecord_iff, atRest_iff]; decide +kernel
theorem witness_ProjectorAndSignatureRows_signature :
    1 ≤ (8 : Byte).toNat ∧ (8 : Byte).toNat ≤ 8 ∧ 5 ≤ (5 : Byte).toNat ∧ (5 : Byte).toNat ≤ 8
      ∧ true ∈ (List.range (5 : Byte).toNat).map (fun k => (0x08 : Byte).getLsbD (7 - k)) := by decide +kernel
theorem test_set_projector :
    [bodyOf 1 1023 15, bodyOf 1 1024 15, bodyOf 1 9 15, bodyOf 1 100 1, bodyOf 2 100 4].map
        (fun b => statusOf (after (.setProjector still b) base)) = [some 0x00, some 0x01, some 0x01, some 0x01, some 0x12]
      ∧ (after (.setProjector still (bodyOf 1 9 1)) base).ch[7].config = ⟨.g16, 10, 1023, 63, 1023, 255, 8⟩
      ∧ (after (.setProjector still (bodyOf 1 9 1)) base).tr[7].k = 2 := by decide +kernel
theorem test_set_signature :
    (after (.setSignature still 8 5 0x70) base).det[7].sigPat = [false, true, true, true, false]
      ∧ statusOf (after (.setSignature still 8 5 0x07) base) = some 0x12 := by decide +kernel

theorem witness_SafetyHorizonReportGroupRows :
    let u := base.arrive still
    Hears base still .individual ∧ (31 : Byte) = BitVec.ofNat 8 (31 : Source).val ∧ (127 : Byte).toNat ≤ 127
      ∧ (∀ i : Isl, u.isl[i].source ≠ 31) ∧ u.isl[(3 : Isl)].source = 4 ∧ 31 < (32 : Byte).toNat ∧ 127 < (128 : Byte).toNat
      ∧ 63 < (64 : Byte).toNat ∧ (63 : Byte).toNat ≤ 63 ∧ 8 < (9 : Byte).toNat := by
  simp only [hears_iff]; decide +kernel
theorem test_horizon_and_report_clamp :
    [23, 24, 9999, 10000].map (fun (h : BitVec 16) => (after (.setHorizon still h) base).eng.horizon) = [24, 24, 9999, 9999]
      ∧ [0, 1, 16, 4096, 4097].map (fun (v : BitVec 16) => (after (.setReport still 1 v) base).tr[0].period) = [0, 16, 16, 4096, 4096]
      ∧ [0, 1, 16, 4096, 4097].map (fun (v : BitVec 16) => statusOf (after (.setReport still 1 v) base))
        = [some 0, some 1, some 0, some 0, some 1] := by decide +kernel
theorem test_safety_and_group :
    [(0, 0x7F), (4, 0), (32, 0), (31, 0x80)].map (fun (x : Byte × Byte) => statusOf (after (.setSafety still x.1 x.2) base))
        = [some 0x00, some 0x1A, some 0x12, some 0x12]
      ∧ statusOf (after (.setGroup still 64) base) = some 0x12 ∧ (after (.setGroup still 63) base).line.mask = 63 := by decide +kernel

/-- The last bit of the kinds field that names a kind of a projector, an island and DEVICE, and every kind of every unit. -/
theorem witness_MaskAndAckRows :
    Hears twoSlips still .individual ∧ (0x10000 : BitVec 32).toNat < 2 ^ 27 ∧ (AlarmId.proj 0 .cueUnderrun).kindCode = 17
      ∧ (AlarmId.isl 3 .tallyChange).kindCode = 20 ∧ (AlarmId.isl 3 .tallyChange).unitCode = 12 ∧ (AlarmId.dev .noticeLost).kindCode = 27
      ∧ (AlarmId.dev .noticeLost).unitCode = 13 ∧ (1 : Byte).toNat ≤ 1 ∧ ¬(0x8000000 : BitVec 32).toNat < 2 ^ 27 := by
  simp only [hears_iff]; decide +kernel
theorem test_mask_units_and_kinds :
    [((8 : Byte), (0x10000 : BitVec 32)), (8, 0x20000), (12, 0x80000), (13, 0x4000000), (13, 0x8000000), (0xFF, 0xFFFFFFFF), (0xFF, 0x7FFFFFF),
      (14, 1), (0, 1)].map (fun x => statusOf (after (.setMask still x.1 x.2 1) base))
      = [some 0, some 0x12, some 0, some 0, some 0x12, some 0, some 0, some 0x12, some 0x12] := by decide +kernel

/-! ### Witnesses: operating commands -/

/-- The record of cue 7, whose incoming projector is P3, P3 in READY. -/
def incoming : State := withRec 0 switchRec (withCh 2 chReady base)

theorem witness_LampRows :
    let u := base.arrive still
    Hears base still .individual ∧ u.estop = false ∧ NotIncoming u 0 ∧ 8 < (9 : Byte).toNat := by
  simp only [hears_iff, notIncoming_iff]; decide +kernel
theorem witness_LampRows_others :
    Hears estopped still .group ∧ (estopped.arrive still).estop = true ∧ ¬NotIncoming (incoming.arrive still) 2
      ∧ (incoming.arrive still).estop = false := by
  simp only [hears_iff, notIncoming_iff]; decide +kernel
theorem test_lamp_on_strikes :
    (after (.lampOn still .individual 1) base).ch[0].strike = some ⟨0, 0, 100⟩ ∧ (after (.lampOn still .individual 1) base).ch[0].state = .strike := by
  decide +kernel
theorem test_lamp_off_all :
    replyBytesOf (after (.lampOff still .individual 0) (withCh 0 chRun incoming)) = [0x01, 0, 10, 0xA0, 0x13, 0x13, 0, 0x15, 0, 0, 0, 0, 0] := by
  decide +kernel

theorem witness_StartRows :
    let s := withCh 1 chReady base
    let u := s.arrive still
    Hears s still .individual ∧ u.estop = false ∧ NotIncoming u 1 ∧ u.ch[(1 : Proj)].state = .ready ∧ u.tr[(1 : Proj)].phase = 0
      ∧ (∀ e ∈ u.cues.lists[(1 : Proj)], u.tr[(1 : Proj)].frame ≤ e.pos) := by
  simp only [hears_iff, notIncoming_iff]; decide +kernel
/-- P2 in READY between perforations, with an entry behind its frame count and one at it. -/
def offFrame : State :=
  withCue 1 (stopCue 5 99) (withCue 1 (stopCue 6 100) (withTr 1 { Tracker.powerOn with frame := 100, phase := 3 } (withCh 1 chReady base)))
theorem witness_StartRows_skips :
    let u := offFrame.arrive still
    u.estop = false ∧ NotIncoming u 1 ∧ u.ch[(1 : Proj)].state = .ready ∧ u.tr[(1 : Proj)].phase ≠ 0 ∧ u.cues.Whole := by
  refine ⟨by decide +kernel, by rw [notIncoming_iff]; decide +kernel, by decide +kernel, by decide +kernel, whole_of_eval _ (by decide +kernel)⟩
theorem test_start_skips_and_frames :
    let t := after (.start still .individual 2) offFrame
    t.cues.lists[1] = [stopCue 6 100] ∧ t.cues.free = 255 ∧ (t.alarm.get (.proj 1 .framing)).set = true
      ∧ t.ch[1].record = some ⟨0, 100, true⟩ ∧ t.tr[1].phase = 3 := by decide +kernel
theorem test_start_refusals :
    statusOf (after (.start still .individual 3) incoming) = some 0x15 ∧ statusOf (after (.start still .individual 1) base) = some 0x13
      ∧ statusOf (after (.start still .individual 1) estopped) = some 0x14 ∧ statusOf (after (.start still .individual 9) base) = some 0x12 := by
  decide +kernel

theorem witness_StopRows :
    let u := (running 10).arrive still
    Hears (running 10) still .individual ∧ u.estop = false ∧ InNoRecord u 0 := by
  simp only [hears_iff, inNoRecord_iff]; decide +kernel
/-- P1 in RUN as the outgoing projector of the record of cue 7, in TAILOUT with a result, P3 in RUN. -/
def tailing : State :=
  withRec 0 { planned switchRec 990 with state := .tailout, cutMade := some 990 } (withCh 2 chRun (withTr 2 (trLocked 55 1000) (running 105)))
theorem witness_StopRows_record :
    let u := tailing.arrive still
    u.estop = false ∧ RecordsDisjoint u
      ∧ u.eng.records[(0 : Rec)] = some { planned switchRec 990 with state := .tailout, cutMade := some 990 }
      ∧ u.line.queue.length < 16 ∧ (planned switchRec 990).a = 0 ∧ (planned switchRec 990).b = 2 := by
  simp only [recordsDisjoint_iff]; decide +kernel
theorem test_stop_in_tailout :
    (after (.stop still .individual 1) tailing).eng.records[0] = none
      ∧ ((after (.stop still .individual 1) tailing).line.queue.map (fun n => match n with
          | .change c => some c.result
          | _ => none)) = [some .onTime]
      ∧ (after (.stop still .individual 3) tailing).eng = tailing.eng := by decide +kernel
theorem test_stop_of_an_armed_record :
    ((after (.stop still .individual 1) incoming).line.queue.map (fun n => match n with
          | .change c => some c.result
          | _ => none)) = [some .outgoingFailed]
      ∧ ((after (.stop still .individual 3) incoming).line.queue.map (fun n => match n with
          | .change c => some c.result
          | _ => none)) = [some .incomingFailed]
      ∧ (after (.stop still .individual 3) incoming).ch[2].state = .ready := by decide +kernel

theorem witness_InchRows :
    let u := (withCh 1 chInch base).arrive still
    Hears (withCh 1 chInch base) still .individual ∧ u.estop = false ∧ NotIncoming u 0 ∧ u.ch[(0 : Proj)].state = .dark
      ∧ u.ch[(1 : Proj)].state = .inch := by
  simp only [hears_iff, notIncoming_iff]; decide +kernel
theorem test_inch :
    (after (.inchReverse still 1) base).ch[0].inchR = true ∧ (after (.inchForward still 1) base).ch[0].inchF = true
      ∧ (after (.inchStop still 2) (withCh 1 chInch base)).ch[1] = { chCoast with } ∧ statusOf (after (.inchStop still 1) base) = some 0x13 := by
  decide +kernel

/-- P1 in FAULT with its lamp lit and its film still for exactly the stillness interval. -/
def clearing (n : Nat) (lamp : Bool) : State := withCh 0 { chFault with lamp := lamp, still := n } base
/-- P1's LAMPOK asserted, with TAIL as given. -/
def lampLit (tail : Bool) : Moment := ⟨0, pinsOf 0 ⟨true, false, tail, false, true⟩⟩

theorem witness_ClearModePresetRows :
    let u := (clearing 10 true).arrive (lampLit false)
    Hears (clearing 10 true) (lampLit false) .individual ∧ u.estop = false ∧ u.ch[(0 : Proj)].state = .fault
      ∧ u.ch[(0 : Proj)].config.stillness = u.ch[(0 : Proj)].still ∧ (lampLit false).pins.proj[(0 : Proj)].tail = false
      ∧ (lampLit false).pins.proj[(0 : Proj)].loop = false ∧ NotIncoming u 0 ∧ (0x0F423F : BitVec 24).toInt = 999999
      ∧ (0xFE7961 : BitVec 24).toInt = -99999 ∧ NoFall u 0 u.cues.lists[(0 : Proj)] 999999 := by
  simp only [hears_iff, notIncoming_iff, noFall_iff]; decide +kernel
theorem witness_ClearModePresetRows_fall :
    let s := withCue 0 (stopCue 1 10) (withCue 0 (stopCue 2 20) (clearing 10 false))
    ¬NoFall (s.arrive still) 0 (s.arrive still).cues.lists[(0 : Proj)] 10 := by
  simp only [noFall_iff]; decide +kernel
theorem test_clear :
    [(clearing 10 true, lampLit false), (clearing 9 true, lampLit false), (clearing 10 true, lampLit true), (base, still)].map
        (fun x => statusOf (after (.clear x.2 1) x.1)) = [some 0x00, some 0x17, some 0x13, some 0x13]
      ∧ (after (.clear (lampLit false) 1) (clearing 10 true)).ch[0].state = .ready
      ∧ (after (.clear still 1) (clearing 10 true)).ch[0].lamp = false := by decide +kernel
theorem test_preset :
    (after (.preset still 1 0xFE7961) base).tr[0].frame = -99999 ∧ statusOf (after (.preset still 1 0xFE7960) base) = some 0x12
      ∧ statusOf (after (.preset still 1 0x0F423F) base) = some 0x00 ∧ statusOf (after (.preset still 1 0x0F4240) base) = some 0x12 := by
  decide +kernel
theorem test_set_mode :
    (after (.setMode still .group 8 1) base).ch[7].mode = .auto ∧ statusOf (after (.setMode still .individual 0 1) base) = some 0x12
      ∧ statusOf (after (.setMode still .individual 8 2) base) = some 0x12 := by decide +kernel

/-! ### Witnesses: cues -/

theorem witness_LoadCuesRow :
    Hears loading still .individual ∧ 1 ≤ (0x42 : Byte).toNat % 16 ∧ (0x42 : Byte).toNat % 16 ≤ 8 ∧ 1 ≤ (0x42 : Byte).toNat / 16
      ∧ (0x42 : Byte).toNat / 16 ≤ 4 ∧ (1 : Proj).val + 1 = (0x42 : Byte).toNat % 16 ∧ ¬(0x52 : Byte).toNat / 16 ≤ 4
      ∧ ¬(16 : Byte).toNat ≤ 15 ∧ (15 : Byte).toNat ≤ 15 := by
  simp only [hears_iff]; decide +kernel
theorem witness_LoadCuesRow_entries :
    ∀ e ∈ [stopCue 65535 16777215, changeCue 14 1600 1 0, ⟨13, 110, .mark 4⟩, ⟨1, 0, .quiet 65535⟩], spells e := by
  simp [spells, stopCue, changeCue]
theorem test_load_field_checks :
    [(0x52, 0xFF), (0x40, 0xFF), (0x49, 0xFF), (0x12, 16), (0x02, 0xFF)].map
        (fun (x : Byte × Byte) => statusOf (after (.loadCues still x.1 x.2 (stopCue 1 1).bytes) base))
      = [some 0x12, some 0x12, some 0x12, some 0x12, some 0x12]
      ∧ statusOf (after (.loadCues still 0x12 15 ((stopCue 1 1).bytes ++ [0])) base) = some 0x10
      ∧ (after (.loadCues still 0x12 15 (stopCue 1 1).bytes) base).cues.low[1] = 15 := by decide +kernel

/-- P1's list with two entries, the watermark at 2. -/
def listed : State := withCue 0 (stopCue 5 20) (withCue 0 (stopCue 6 30) base)

theorem witness_CueEditRows :
    let u := listed.arrive still
    Hears listed still .individual ∧ stopCue 5 20 ∈ u.cues.lists[(0 : Proj)] ∧ (stopCue 5 20).number = (5 : BitVec 16).toNat
      ∧ (∀ p : Proj, ∀ e ∈ u.cues.lists[p], e.number ≠ (7 : BitVec 16).toNat) ∧ ¬NoFall u 0 [] u.tr[(0 : Proj)].frame
      ∧ NoFall u 1 [] u.tr[(1 : Proj)].frame := by
  simp only [hears_iff, noFall_iff]; decide +kernel
theorem witness_CueEditRows_whole : (listed.arrive still).cues.Whole := whole_of_eval _ (by decide +kernel)
theorem test_delete_and_clear :
    (after (.deleteCue still 5) listed).cues.lists[0] = [stopCue 6 30]
      ∧ ((after (.deleteCue still 5) listed).alarm.get (.proj 0 .cueLow)).set = true
      ∧ statusOf (after (.deleteCue still 7) listed) = some 0x18
      ∧ replyBytesOf (after (.clearCues still 1) listed) = [0x01, 0, 4, 0xB2, 0, 0, 2]
      ∧ (after (.clearCues still 1) listed).cues.free = 256 := by decide +kernel
theorem test_query_cues :
    replyBytesOf (after (.queryCues still 1 1) listed) = [0x01, 0, 11, 0xB3, 0, 0, 2, 1] ++ (stopCue 6 30).bytes := by decide +kernel

/-- P1 in RUN at frame 20 with entries of each kind at or below it. -/
def reaching (mode : Mode) : State :=
  withCue 0 (changeCue 3 10 2 50) (withCue 0 ⟨4, 15, .mark 4⟩ (withCue 0 (stopCue 5 20) (withCue 0 (stopCue 6 21)
    (withTr 0 (trLocked 20 1000) (withCh 0 { chRun with mode := mode } (withField 1000 base))))))

theorem witness_ReachPassConsumes :
    (reaching .auto).cues.Whole ∧ (reaching .auto).ch[(0 : Proj)].state = .run ∧ (reaching .auto).ch[(0 : Proj)].mode = .auto
      ∧ (reaching .auto).estop = false ∧ stopCue 5 20 ∈ (reaching .auto).cues.lists[(0 : Proj)]
      ∧ changeCue 3 10 2 50 ∈ (reaching .auto).cues.lists[(0 : Proj)] ∧ (reaching .manual).ch[(0 : Proj)].mode ≠ .auto :=
  ⟨whole_of_eval _ (by decide +kernel), by decide +kernel⟩
/-- P1 in RUNUP and SEARCH at frame 19 with entries. -/
def seekingCues (mode : Mode) (list : List CueEntry) : State :=
  list.foldl (fun s e => withCue 0 e s) (withTr 0 (seeking 19 0 none) (withCh 0 { chRunup with mode := mode } base))
/-- An edge that reaches entries at frame 20, and single entries of each kind. -/
theorem witness_ReachPassConsumes_edge :
    ∀ list ∈ [[⟨4, 17, .mark 2⟩, changeCue 3 19 2 50, stopCue 5 20, stopCue 6 21], [stopCue 5 20], [⟨8, 20, .quiet 30⟩], [changeCue 3 20 2 50]],
      let s := seekingCues .auto list
      let u := s.arrive still
      u.cues.Whole ∧ s.resetHeld = false ∧ s.due = [] ∧ u.ch[(0 : Proj)].state = .runup ∧ u.tr[(0 : Proj)].motor = true
        ∧ u.tr[(0 : Proj)].lock = .search ∧ u.tr[(0 : Proj)].frame < 999999 ∧ (checkedEdge 4 u.tr[(0 : Proj)]).empty < 3
        ∧ u.det[(0 : Proj)].found = none ∧ ¬Completes u.det[(0 : Proj)] (sampled u.det[(0 : Proj)].history u.det[(0 : Proj)].latch)
        ∧ u.cues.lists[(0 : Proj)] = list ∧ u.line.queue.length ≤ 12 ∧ u.estop = false ∧ InNoRecord u 0 := by
  intro list h
  refine ⟨whole_of_eval _ ?_, ?_⟩
  · revert list; decide +kernel
  · simp only [completes_iff, inNoRecord_iff]; revert list; decide +kernel
theorem test_edge_reaches :
    ([Mode.auto, .manual].map (fun mode =>
        let t := after (.shutterEdge still 0) (seekingCues mode [⟨4, 17, .mark 2⟩, changeCue 3 19 2 50, stopCue 5 20, stopCue 6 21])
        (t.cues.lists[(0 : Proj)], t.ch[(0 : Proj)].state, (t.alarm.get (.proj 0 .changeMissed)).set))
      = [([stopCue 6 21], .coast, true), ([stopCue 6 21], .runup, false)])
    ∧ (after (.shutterEdge still 0) (seekingCues .auto [⟨8, 20, .quiet 30⟩])).tr[0].quiet = some (20, 50) := by decide +kernel
theorem test_reach_pass :
    ((reaching .auto).reachPass 0).cues.lists[0] = [⟨4, 15, .mark 4⟩, stopCue 6 21] ∧ ((reaching .auto).reachPass 0).ch[0].state = .coast
      ∧ (((reaching .auto).reachPass 0).alarm.get (.proj 0 .changeMissed)).set = true
      ∧ ((reaching .manual).reachPass 0).cues.lists[0] = [⟨4, 15, .mark 4⟩, stopCue 6 21]
      ∧ ((reaching .manual).reachPass 0).ch[0].state = .run := by decide +kernel

/-! ### Witnesses: takes, mirrors and changeovers from the host -/

theorem witness_TakeAndMirrorRows :
    let u := base.arrive still
    Hears base still .individual ∧ u.take.host = none ∧ u.isl[(0 : Isl)].claim = none ∧ 31 < (32 : Byte).toNat ∧ 4 < (5 : Byte).toNat
      ∧ 2 < (3 : Byte).toNat ∧ claimed.isl[(0 : Isl)].claim ≠ none := by
  simp only [hears_iff]; decide +kernel
theorem witness_TakeAndMirrorRows_busy :
    ({ base with take := { base.take with host := some ⟨7, 0, 1⟩ } }.arrive still).take.host ≠ none := by decide +kernel
theorem test_take :
    (after (.take still 31) base).take.host = some ⟨31, 0, 1⟩ ∧ statusOf (after (.take still 32) base) = some 0x12
      ∧ statusOf (after (.take still 7) { base with take := { base.take with host := some ⟨7, 0, 1⟩ } }) = some 0x13 := by decide +kernel
theorem test_mirror :
    (after (.mirror still 4 2) (withField 1000 base)).isl[3].pending = some ⟨2, 1014⟩
      ∧ statusOf (after (.mirror still 1 2) claimed) = some 0x16 ∧ statusOf (after (.mirror still 4 3) base) = some 0x12 := by decide +kernel

theorem witness_AbortChangeRow :
    let u := tailing.arrive still
    Hears tailing still .individual ∧ (7 : BitVec 16) ≠ 0 ∧ u.eng.records[(0 : Rec)] = some { planned switchRec 990 with state := .tailout, cutMade := some 990 }
      ∧ (planned switchRec 990).cue = (7 : BitVec 16).toNat ∧ RecordsDisjoint u ∧ u.line.queue.length < 16
      ∧ ∀ r : Rec, (u.eng.records[r]).all (fun rec => decide (rec.cue ≠ (8 : BitVec 16).toNat)) = true := by
  simp only [hears_iff, recordsDisjoint_iff]; decide +kernel
/-- The record of cue 7 in a state with P3 running. -/
def aborting (st : RecState) : State := withRec 0 { planned switchRec 1100 with state := st } (withCh 2 chRun (running 80))
theorem witness_AbortChangeRow_states :
    [RecState.armed, .starting, .locked, .cutting].all (fun st =>
      ((aborting st).arrive still).eng.records[(0 : Rec)] = some { planned switchRec 1100 with state := st }
        && ((aborting st).arrive still).estop = false) = true := by decide +kernel
theorem test_abort_states :
    [RecState.armed, .starting, .locked, .cutting, .tailout].map (fun st =>
        let t := after (.abortChange still 7) (aborting st)
        (statusOf t, (t.eng.records[(0 : Rec)]).isSome, t.ch[(2 : Proj)].state))
      = [(some 0x00, false, .run), (some 0x00, false, .coast), (some 0x00, false, .coast), (some 0x19, true, .run),
          (some 0x00, false, .run)] := by decide +kernel
theorem test_abort_unknown :
    statusOf (after (.abortChange still 8) (aborting .armed)) = some 0x18 ∧ statusOf (after (.abortChange still 0) base) = some 0x18
      ∧ (replyBytesOf (after (.abortChange still 7) (aborting .cutting))).drop 4 = [0x19, 0] := by decide +kernel

/-! ### Witnesses: queries, POLL and RESTART -/

theorem witness_QueryAndPollRows :
    let u := twoSlips.arrive still
    Hears twoSlips still .individual ∧ u.ch[(7 : Proj)].history.length ≤ 8 ∧ u.line.queue = [.alarm (.proj 3 .slip) 3000 (some 1210)]
      ∧ (base.arrive still).line.queue = [] ∧ (∀ r : Rec, u.eng.records[r] = none) ∧ (AlarmId.proj 3 .slip).unitCode = 4
      ∧ 13 < (14 : Byte).toNat ∧ (13 : Byte).toNat ≤ 13 ∧ 1 < (2 : Byte).toNat := by
  simp only [hears_iff]; decide +kernel
theorem witness_QueryAndPollRows_notices :
    let q (n : Notice) : State := withLine (fun l => { l with queue := [n] }) base
    let cue : Notice := .cue ⟨4, 2, .mark, 1500, .matched, 3, 30011, 1497⟩
    let change : Notice := changeNotice 1 (planned switchRec 1100) .onTime 1120
    ((q cue).arrive still).line.queue = [cue] ∧ ((q change).arrive still).line.queue = [change]
      ∧ (lateArming.arrive still).eng.records[(0 : Rec)] ≠ none := by decide +kernel
/-- The CUE notice of the worked correction, and the CHANGE notice of a record, byte by byte in the layouts of R186. -/
theorem test_poll_cue_and_change :
    let q (n : Notice) : State := withLine (fun l => { l with queue := [n] }) base
    replyBytesOf (after (.poll still) (q (.cue ⟨4, 2, .mark, 1500, .matched, 3, 30011, 1497⟩)))
        = [0x01, 0, 19, 0xE5, 0, 2, 5, 0, 2, 4, 0, 0x05, 0xDC, 6, 3, 0, 0, 0x75, 0x3B, 0, 0x05, 0xD9]
      ∧ replyBytesOf (after (.poll still) (q (changeNotice 1 (planned switchRec 1100) .onTime 1120)))
        = [0x01, 0, 39, 0xE5, 0, 3, 1, 0, 7, 1, 3, 0, 0, 100, 0, 0, 50, 0, 1, 3, 0, 0, 0, 0, 0, 0, 0x04, 0x4C, 0, 0, 0, 0, 0, 0, 0, 0, 0, 0,
            0, 0, 0x04, 0x60] := by decide +kernel
theorem test_query_clears :
    (after (.queryProjector still 2 1) breakingState).tr[1].perfDefects = 0
      ∧ ((replyBytesOf (after (.queryProjector still 2 1) breakingState)).drop (5 + 85)).take 2 = [0, 15]
      ∧ (after (.queryProjector still 2 0) breakingState).tr[1].perfDefects = 15 := by decide +kernel
theorem test_query_alarms_of_p4 :
    ((replyBytesOf (after (.queryAlarms still 4) twoSlips)).drop 5).take 5 = [2, 0, 0, 0, 6]
      ∧ ((replyBytesOf (after (.queryAlarms still 4) twoSlips)).drop (5 + 14 + 18)).take 2 = [3, 2] := by decide +kernel
theorem test_query_changes_sizes :
    (replyBytesOf (after (.queryChanges still) lateArming)).length = 5 + 2 + 44 + 44 + 1 + 1 := by decide +kernel
theorem test_query_island_map :
    (replyBytesOf (after (.queryIsland still 1) base)).drop (5 + 18) = [0x10, 0x11, 0x20, 0x21, 0x30, 0x31, 0x40, 0x41] := by decide +kernel
theorem test_poll_empty : replyBytesOf (after (.poll still) base) = [0x01, 0, 2, 0xE5, 0] := by decide +kernel
theorem test_poll_position :
    replyBytesOf (after (.poll still) (withLine (fun l => { l with queue := [.position ⟨6, -2, 3, .locked, 9⟩] }) base))
      = [0x01, 0, 13, 0xE5, 0, 4, 7, 0xFF, 0xFF, 0xFE, 3, 2, 0, 0, 0, 9] := by decide +kernel

theorem witness_RestartRow :
    let u := claimed.arrive still
    Hears claimed still .group ∧ u.eng.records[(0 : Rec)] = some (planned mirrorRec 1006) ∧ u.isl[(0 : Isl)].claim = some 0
      ∧ u.line.queue.length + 4 ≤ 16 ∧ u.ch[(0 : Proj)].state = .run := by
  simp only [hears_iff]; decide +kernel
theorem test_restart :
    let t := after (.restart still .individual) claimed
    t.ch[0].state = .coast ∧ t.ch[0].lamp = true ∧ t.tr[0].lock = .unlocked ∧ t.tr[0].frame = 90 ∧ t.isl[0].claim = none
      ∧ t.eng.records[0] = none ∧ t.tb = claimed.tb := by decide +kernel

end Sys2Proof.Tests
end

section
/-! The cadence sum and the reach (R10 to R12). -/

namespace Sys2Proof.Machine

@[simp] theorem Step.flip_flip (c : Step) : c.flip.flip = c := by cases c <;> rfl

/-- The first of n frames split off (R10). -/
theorem cad_succ_first (n : Nat) (c : Step) : cad (n + 1) c = c.len + cad n c.flip := by
  cases c with
  | even => simp only [cad, Step.len, Step.flip]; omega
  | long | short =>
    rcases Nat.mod_two_eq_zero_or_one n with h | h
    · have h' : (n + 1) % 2 = 1 := by omega
      simp only [cad, Step.len, Step.flip, h, h', zero_ne_one, reduceIte]; omega
    · have h' : (n + 1) % 2 = 0 := by omega
      simp only [cad, Step.len, Step.flip, h, h', zero_ne_one, reduceIte]; omega

/-- The last of n frames split off (R10). -/
theorem cad_succ_last (n : Nat) (c : Step) :
    cad (n + 1) c = cad n c + (if (n + 1) % 2 = 1 then c else c.flip).len := by
  rcases Nat.mod_two_eq_zero_or_one n with h | h
  · have h' : (n + 1) % 2 = 1 := by omega
    cases c <;> simp only [cad, Step.len, h, h', zero_ne_one, reduceIte] <;> omega
  · have h' : (n + 1) % 2 = 0 := by omega
    cases c <;> simp only [cad, Step.len, Step.flip, h, h', zero_ne_one, reduceIte] <;> omega

@[simp] theorem cad_zero (c : Step) : cad 0 c = 0 := by cases c <;> rfl

/-- Two frames last at most five fields, so n frames last at most five halves of n, and half a field more. -/
theorem two_mul_cad_le (n : Nat) (c : Step) : 2 * cad n c ≤ 5 * n + 1 := by
  cases c with
  | even => simp only [cad]; omega
  | long | short => simp only [cad, Step.len]; split <;> omega

theorem Step.len_le (c : Step) : c.len ≤ 3 := by cases c <;> decide

theorem Pos.reach_of_ahead {q : Pos} {x : Int} (h : q.f < x) :
    q.reach x = ((q.c.len : Int) - q.i) + cad (x - q.f - 1).toNat q.c.flip := if_pos h

theorem Pos.reach_of_behind {q : Pos} {x : Int} (h : x ≤ q.f) :
    q.reach x = -((cad (q.f - x).toNat (if (q.f - x) % 2 = 0 then q.c else q.c.flip) : Int) + q.i) := by
  have hp : (x - q.f).natAbs % 2 = 0 ↔ (q.f - x) % 2 = 0 := by omega
  simp only [Pos.reach, Pos.stepOf, hp, if_neg (not_lt.2 h)]

/-- The reach of the frame begun n frames ahead of the next one. -/
theorem Pos.reach_ahead (q : Pos) (n : Nat) :
    q.reach (q.f + 1 + n) = ((q.c.len : Int) - q.i) + cad n q.c.flip := by
  rw [Pos.reach_of_ahead (by omega), show (q.f + 1 + (n : Int) - q.f - 1).toNat = n by omega]

/-- The reach of the frame n frames behind. -/
theorem Pos.reach_behind (q : Pos) (n : Nat) :
    q.reach (q.f - n) = -((cad n (if n % 2 = 0 then q.c else q.c.flip) : Int) + q.i) := by
  have hp : (q.f - (q.f - (n : Int))) % 2 = 0 ↔ n % 2 = 0 := by omega
  rw [Pos.reach_of_behind (by omega), show (q.f - (q.f - (n : Int))).toNat = n by omega]
  simp only [hp]

/-- From one boundary to the next the reach of every frame falls by one (R12). -/
theorem Pos.reach_advance (q : Pos) (x : Int) (hi : q.i < q.c.len) : q.advance.reach x = q.reach x - 1 := by
  unfold Pos.advance
  split
  · rcases lt_or_ge q.f x with h | h
    · rw [Pos.reach_of_ahead h, Pos.reach_of_ahead (by exact h)]; push_cast; ring
    · rw [Pos.reach_of_behind h, Pos.reach_of_behind (by exact h)]; push_cast; ring
  · have hlen : (q.c.len : Int) = q.i + 1 := by omega
    rcases lt_trichotomy x (q.f + 1) with h | h | h
    · obtain ⟨n, rfl⟩ : ∃ n : Nat, x = q.f - n := ⟨(q.f - x).toNat, by omega⟩
      have hb := Pos.reach_behind ⟨q.f + 1, 0, q.c.flip⟩ (n + 1)
      rw [show (⟨q.f + 1, 0, q.c.flip⟩ : Pos).f - ((n + 1 : Nat) : Int) = q.f - n by simp] at hb
      rw [hb, Pos.reach_behind, cad_succ_last]
      rcases Nat.mod_two_eq_zero_or_one n with hn | hn
      · have hn' : (n + 1) % 2 = 1 := by omega
        simp only [hn, hn', Step.flip_flip]; simp; omega
      · have hn' : (n + 1) % 2 = 0 := by omega
        simp only [hn, hn', Step.flip_flip]; simp; omega
    · subst h
      rw [Pos.reach_of_behind (by simp), Pos.reach_of_ahead (by omega)]
      simp; omega
    · obtain ⟨n, rfl⟩ : ∃ n : Nat, x = q.f + 1 + 1 + n := ⟨(x - q.f - 2).toNat, by omega⟩
      have ha := Pos.reach_ahead q (n + 1)
      rw [show q.f + 1 + ((n + 1 : Nat) : Int) = q.f + 1 + 1 + n by push_cast; ring] at ha
      rw [ha, Pos.reach_ahead ⟨q.f + 1, 0, q.c.flip⟩ n, cad_succ_first]
      push_cast; omega

/-- Over the frame counts and cue positions there are, the reach stays within 2,750,001 fields (R12). -/
theorem Pos.abs_reach_le {q : Pos} {x : Int} (hx : -99999 ≤ x) (hx' : x ≤ 999999) (hf : -99999 ≤ q.f) (hf' : q.f ≤ 999999)
    (hi : q.i < q.c.len) : |q.reach x| ≤ 2750001 := by
  have hlen := q.c.len_le
  rcases lt_or_ge q.f x with h | h
  · have hc := two_mul_cad_le (x - q.f - 1).toNat q.c.flip
    rw [Pos.reach_of_ahead h, abs_le]
    omega
  · have hc := two_mul_cad_le (q.f - x).toNat (if (q.f - x) % 2 = 0 then q.c else q.c.flip)
    rw [Pos.reach_of_behind h, abs_le]
    omega

end Sys2Proof.Machine

section
open Sys2Proof Sys2Proof.Machine Sys2Proof.Claims

/-- Settles O60: the sum from the two ways of splitting a frame off, the reach from its two forms, and its fall by one from the
case split of the advance. -/
theorem cadenceSumAndReach : Obligations.CadenceSumAndReach := by
  unfold Obligations.CadenceSumAndReach
  refine ⟨fun n c => ⟨?_, ?_, ?_, ?_, ?_, cad_zero c⟩, by decide, by decide, fun q x => ⟨Pos.reach_of_ahead, Pos.reach_of_behind, ?_, ?_,
    Pos.reach_advance q x, Pos.abs_reach_le⟩⟩
  · rintro rfl; rfl
  · intro hc hn
    cases c <;> simp_all [cad]
  · intro hc hn
    cases c <;> simp_all [cad]
  · intro hn
    obtain ⟨k, rfl⟩ : ∃ k, n = k + 1 := ⟨n - 1, by omega⟩
    exact cad_succ_first k c
  · intro hn
    obtain ⟨k, rfl⟩ : ∃ k, n = k + 1 := ⟨n - 1, by omega⟩
    exact cad_succ_last k c
  · simpa using Pos.reach_ahead q 0
  · simpa using Pos.reach_behind q 0

end
end

section
/-! Pulses out of SYNC (R2, R3). -/

namespace Sys2Proof.Machine
open Sys2Proof.Claims

/-- The run count after a pulse, its spacing measured in units (R2). -/
theorem runAfter_eq (b : Timebase) (now : Nat) : b.runAfter now = runCountAfter b now := by
  unfold Timebase.runAfter runCountAfter
  cases b.lastPulse with
  | none => rfl
  | some l =>
    have hgood : b.standard.goodSpacing (now - l) = true ↔
        16 * ((now - l : Nat) : Int) ≤ 17 * (match b.standard with | .s50 => 38400000 / 50 | .s60 => 38400000 / 60)
          ∧ 15 * (match b.standard with | .s50 => 38400000 / 50 | .s60 => 38400000 / 60) ≤ 16 * ((now - l : Nat) : Int) := by
      simp only [Standard.goodSpacing, Bool.and_eq_true, decide_eq_true_eq]
      cases b.standard <;> simp only [Standard.period] <;> omega
    simp only [hgood] <;> rfl

/-- A pulse that finds the timebase out of SYNC and does not complete the run (R2). -/
theorem pulse_of_counting (u : State) (o : BoundaryOrder) (hs : u.tb.state ≠ .sync) (hr : runCountAfter u.tb u.now ≠ 16) :
    u.pulse o = { u with tb := { u.tb with runCount := runCountAfter u.tb u.now, lastPulse := some u.now } } := by
  simp only [State.pulse, if_neg hs, runAfter_eq, if_neg hr]
  rfl

/-- A pulse that completes the run (R4). -/
theorem pulse_of_completing (u : State) (o : BoundaryOrder) (hs : u.tb.state ≠ .sync) (hr : runCountAfter u.tb u.now = 16) :
    u.pulse o = u.enterSync o := by
  simp only [State.pulse, if_neg hs, runAfter_eq, if_pos hr]

/-- A pulse in SYNC is a boundary (R6). -/
theorem pulse_of_sync (u : State) (o : BoundaryOrder) (hs : u.tb.state = .sync) :
    u.pulse o = (u.updTb (fun t => { t with lastPulse := some u.now })).boundary true o := if_pos hs

theorem exec_fldPulse (m : Moment) (o : BoundaryOrder) {s : State} (h : s.resetHeld = false) :
    exec (.fldPulse m o) s = .next ((s.arrive m).pulse o) := by
  rw [show exec (.fldPulse m o) s = s.event (fun s => (s.arrive m).pulse o) from rfl, event_of_running s _ h]

end Sys2Proof.Machine

section
open Sys2Proof Sys2Proof.Machine Sys2Proof.Claims

/-- Settles O8: the branch of the pulse that neither finds SYNC nor completes the run. -/
theorem pulseOutOfSyncCounts : Obligations.PulseOutOfSyncCounts := by
  intro s m o h u hs hr
  rw [exec_fldPulse m o h, pulse_of_counting u o hs hr]

end

/-! The change of standard (R14). -/

namespace Sys2Proof.Machine
open Sys2Proof.Claims

/-- The states in which a channel is not in motion are those at rest. -/
theorem inMotion_eq_false_iff (c : Channel) : c.inMotion = false ↔ AtRest c := by
  unfold Channel.inMotion Channel.sampling AtRest
  cases c.state <;> decide

theorem standardBusy_eq_false_iff (s : State) :
    s.standardBusy = false ↔ (∀ p : Proj, AtRest s.ch[p]) ∧ ∀ r : Rec, s.eng.records[r] = none := by
  simp only [State.standardBusy, Bool.or_eq_false_iff, List.any_eq_false, mem_allProj, mem_allRec, true_implies,
    Bool.not_eq_true, inMotion_eq_false_iff, Option.isSome_eq_false_iff, Option.isNone_iff_eq_none]

/-- A byte that names a standard. -/
theorem standardOf_of_le {b : Byte} (h : b.toNat ≤ 1) : standardOf b = some (if b = 0 then .s50 else .s60) := by
  have h01 : b = 0 ∨ b = 1 := by
    rcases Nat.le_one_iff_eq_zero_or_eq_one.1 h with h | h
    · exact .inl (BitVec.eq_of_toNat_eq h)
    · exact .inr (BitVec.eq_of_toNat_eq h)
  rcases h01 with rfl | rfl <;> rfl

/-- A byte that names no standard. -/
theorem standardOf_of_gt {b : Byte} (h : 1 < b.toNat) : standardOf b = none := by
  have h0 : b ≠ 0 := by rintro rfl; simp at h
  have h1 : b ≠ 1 := by rintro rfl; simp at h
  simp only [standardOf, if_neg h0, if_neg h1]

/-- The command of SET_STANDARD in the order of its checks (R14). -/
theorem cmdSetStandard_cases (b : Byte) (s : State) :
    (1 < b.toNat → cmdSetStandard b s = s.answer .badField)
    ∧ ∀ std, standardOf b = some std →
        (std = s.tb.standard → cmdSetStandard b s = s.answer .accepted)
        ∧ (std ≠ s.tb.standard → s.standardBusy = true → cmdSetStandard b s = s.answer .busy)
        ∧ (std ≠ s.tb.standard → s.standardBusy = false → cmdSetStandard b s = (s.changeStandard std).answer .accepted) := by
  refine ⟨fun h => ?_, fun std hs => ⟨fun h => ?_, fun h hb => ?_, fun h hb => ?_⟩⟩
  · simp only [cmdSetStandard, standardOf_of_gt h]
  · simp only [cmdSetStandard, hs, if_pos h]
  · simp only [cmdSetStandard, hs, if_neg h, hb, reduceIte]
  · simp only [cmdSetStandard, hs, if_neg h, hb, Bool.false_eq_true, reduceIte]

end Sys2Proof.Machine

section
open Sys2Proof Sys2Proof.Machine Sys2Proof.Claims

/-- Settles O36: one case per check of the command, on the state as the frame's command finds it. -/
theorem setStandardRow : Obligations.SetStandardRow := by
  intro s m b hears u
  obtain ⟨r, hr⟩ : ∃ r, exec (.setStandard m b) s = .next ((cmdSetStandard b (u.asFound r)).state.putReply 0x10
      (cmdSetStandard b (u.asFound r)).status (cmdSetStandard b (u.asFound r)).body) :=
    (message_individual_asFound s m hears.1 (hears.2 rfl)).imp fun r hr => hr 0x10 (cmdSetStandard b)
  clear_value u
  intro reply std free
  obtain ⟨hbad, hok⟩ := cmdSetStandard_cases b (u.asFound r)
  have hbusy : (u.asFound r).standardBusy = false ↔ free := standardBusy_eq_false_iff _
  refine ⟨fun h => ?_, fun h he => ?_, fun h he hf => ?_, fun h he hf => ?_⟩
  · show exec (.setStandard m b) s = _
    rw [hr, hbad h]; rfl
  · show exec (.setStandard m b) s = _
    rw [hr, (hok std (standardOf_of_le h)).1 he]; rfl
  · show exec (.setStandard m b) s = _
    have hb : (u.asFound r).standardBusy = true := by simpa using mt hbusy.1 hf
    rw [hr, (hok std (standardOf_of_le h)).2.1 he hb]; rfl
  · refine ⟨map8 Tracker.unsetCadence u.tr, fun p => getElem_map8 _ _ _ p.isLt, ?_, rfl, rfl, rfl, rfl⟩
    show exec (.setStandard m b) s = _
    have hperiod : std.period = if b = 0 then 38400000 / 50 else 38400000 / 60 := by
      show (if b = 0 then Standard.s50 else Standard.s60).period = _
      split <;> rfl
    rw [hr, (hok std (standardOf_of_le h)).2.2 he (hbusy.2 hf), ← hperiod]
    rfl

end
end

section
/-! What the operations of the blocks keep: the settings, the clock, the inputs, the timebase, what only a boundary's own reactions read
or count, and everything of the projectors that they do not touch. -/

namespace Sys2Proof.Machine

/-! ### The alarm pair that only an island's reading may change (R98) -/

theorem passNoticeLost_get_other (s : State) {b : AlarmId} (hb : b ≠ .dev .noticeLost) :
    s.passNoticeLost.alarm.get b = s.alarm.get b := by
  unfold State.passNoticeLost
  simp only
  split
  · simp [AlarmUnit.get_put_other _ _ hb]
  · split <;> simp [State.countDiscard, AlarmUnit.get_put_other _ _ hb]

/-- Posting a notice changes no pair but NOTICE_LOST (R185). -/
theorem post_get_other (s : State) (n : Notice) {b : AlarmId} (hb : b ≠ .dev .noticeLost) :
    (s.post n).alarm.get b = s.alarm.get b := by
  unfold State.post
  split
  · rfl
  · exact passNoticeLost_get_other _ hb

/-- Passing an event changes no pair but its own and NOTICE_LOST (R166, R185). -/
theorem pass_get_other (s : State) {a b : AlarmId} (hba : b ≠ a) (hb : b ≠ .dev .noticeLost) :
    (s.pass a).alarm.get b = s.alarm.get b := by
  unfold State.pass
  simp only
  split
  · simp [AlarmUnit.get_put_other _ _ hba]
  · split
    · rw [post_get_other _ _ hb]; simp [AlarmUnit.get_put_other _ _ hba]
    · simp [AlarmUnit.get_put_other _ _ hba]

/-- An event other than TALLY_CHANGE. -/
def AlarmId.notTally (a : AlarmId) : Prop := ∀ i : Isl, a ≠ .isl i .tallyChange

theorem notTally_proj (p : Proj) (k : ProjAlarm) : (AlarmId.proj p k).notTally := fun _ h => nomatch h

theorem notTally_dev (k : DevAlarm) : (AlarmId.dev k).notTally := fun _ h => nomatch h

theorem notTally_mismatch (i : Isl) : (AlarmId.isl i .mirrorMismatch).notTally := fun _ h => nomatch h

theorem notTally_unconfirmed (i : Isl) : (AlarmId.isl i .takeUnconfirmed).notTally := fun _ h => nomatch h

/-! ### The frame -/

/-- What a channel keeps of itself: its configuration and its still count. -/
def Channel.Same (c d : Channel) : Prop := d.config = c.config ∧ d.still = c.still

/-- What a tracker keeps of itself: its lock parameters and its report period. -/
def Tracker.Same (x y : Tracker) : Prop := y.w = x.w ∧ y.k = x.k ∧ y.m = x.m ∧ y.period = x.period

/-- What a detector keeps of itself: its signature. -/
def Detector.Same (x y : Detector) : Prop := y.sigLen = x.sigLen ∧ y.sigPat = x.sigPat

/-- What an island keeps of itself: its settings and its readings. -/
def Island.Same (x y : Island) : Prop :=
  y = { x with commanded := y.commanded, pending := y.pending, claim := y.claim, mismatch := y.mismatch }

/-- Whether a waiting step is a mirror's. -/
def Due.ofMirror : Due → Bool
  | .mirrorComplete _ | .mirrorDeadline _ => true
  | _ => false

/-- A waiting step of a projector or of the take port. -/
def Due.Free (d : Due) : Prop := d.ofMirror = false ∧ ∀ r : Rec, d.ofRec r = false

/-- No LOCKED record may command a mirror in an emergency (R102). -/
def NoMirrorLock (s : State) : Prop :=
  ∀ (r : Rec) (rec : Record), s.eng.records[r] = some rec → ¬(rec.method = .mirror ∧ rec.state = .locked)

/-- What an operation may touch: the film blocks of some projectors, the records of some, the take port, the waiting steps and the
mirrors, and the engine's table beyond the ending of records. -/
structure Scope where
  film : Proj → Prop
  recs : Proj → Prop
  takes : Prop
  steps : Prop
  arms : Prop

/-- A projector of which the film and the records may be touched. -/
structure Scope.Has (S : Scope) (p : Proj) : Prop where
  film : S.film p
  recs : S.recs p

/-- A scope that leaves nothing out but the take port. -/
structure Scope.Open (S : Scope) : Prop where
  film : ∀ p, S.film p
  recs : ∀ p, S.recs p
  steps : S.steps
  arms : S.arms

theorem Scope.Open.has {S : Scope} (h : S.Open) (p : Proj) : S.Has p := ⟨h.film p, h.recs p⟩

/-- A record that a scope lets be touched. -/
def Scope.Takes (S : Scope) (rec : Record) : Prop := S.recs rec.a ∨ S.recs rec.b

/-- What an operation within a scope keeps: everything but the film blocks, the records, the requests and takes, the claims and commands
of the islands, the latches, the queue and the waiting steps; of these the settings, the still counts, the readings, the condition flags
and TALLY_CHANGE; and what its scope leaves out. -/
structure Steady (S : Scope) (s t : State) : Prop where
  eq : t = { s with
    ch := t.ch, tr := t.tr, det := t.det, cues := t.cues, eng := t.eng, isl := t.isl, take := t.take, alarm := t.alarm
    line := { s.line with queue := t.line.queue, discarded := t.line.discarded }, due := t.due }
  horizon : t.eng.horizon = s.eng.horizon
  safety : t.take.safety = s.take.safety ∧ t.take.protectSet = s.take.protectSet
  low : t.cues.low = s.cues.low
  same_ch : ∀ p : Proj, s.ch[p].Same t.ch[p]
  same_tr : ∀ p : Proj, s.tr[p].Same t.tr[p]
  same_det : ∀ p : Proj, s.det[p].Same t.det[p]
  same_isl : ∀ i : Isl, s.isl[i].Same t.isl[i]
  flags : t.alarm.flags = s.alarm.flags
  enabled : ∀ a, (t.alarm.get a).enabled = (s.alarm.get a).enabled
  latched : ∀ a, (s.alarm.get a).set = true → (t.alarm.get a).set = true
  tally : ∀ i, t.alarm.get (.isl i .tallyChange) = s.alarm.get (.isl i .tallyChange)
  others : ∀ p : Proj, ¬S.film p →
    t.ch[p] = s.ch[p] ∧ t.tr[p] = s.tr[p] ∧ t.det[p] = s.det[p] ∧ t.cues.lists[p] = s.cues.lists[p]
  shrink : ∀ p : Proj, ∀ e ∈ t.cues.lists[p], e ∈ s.cues.lists[p]
  /-- Without the take port no take is made and no arbitration comes to wait. -/
  calm : ¬S.takes → t.take = { s.take with slots := t.take.slots, protective := t.take.protective }
    ∧ (.takeGrant ∈ t.due → .takeGrant ∈ s.due)
  /-- The record of other projectors stays, with its request and its waiting steps. -/
  records : ∀ (r : Rec) (rec : Record), s.eng.records[r] = some rec → ¬S.Takes rec →
    t.eng.records[r] = some rec ∧ t.take.slots[r] = s.take.slots[r] ∧ ∀ d ∈ s.due, d.ofRec r = true → d ∈ t.due
  /-- Without the steps none comes to wait, and none is taken but with its record or by a mirror command. -/
  waits : ¬S.steps → (∀ d ∈ t.due, d ∈ s.due) ∧ ∀ d ∈ s.due, d.Free → d ∈ t.due
  /-- Without the steps the mirrors take commands from an emergency cut alone. -/
  mirrors : ¬S.steps → NoMirrorLock s → NoMirrorLock t
    ∧ (∀ i : Isl, t.isl[i].commanded = s.isl[i].commanded ∧ t.isl[i].pending = s.isl[i].pending
      ∧ t.isl[i].mismatch = s.isl[i].mismatch)
    ∧ ∀ d ∈ s.due, d.ofMirror = true → d ∈ t.due
  /-- Without the steps an island with no command pending has taken none. -/
  idle : ¬S.steps → ∀ i : Isl, t.isl[i].pending = none → s.isl[i].pending = none ∧ t.isl[i].commanded = s.isl[i].commanded
  /-- Without the arming and the steps of the engine no claim and no request is made, and a record may only end or be flagged. -/
  olds : ¬S.arms → (∀ (i : Isl) (r : Rec), t.isl[i].claim = some r → s.isl[i].claim = some r)
    ∧ (∀ (r : Rec) (rec : Record), t.eng.records[r] = some rec →
      ∃ old, s.eng.records[r] = some old ∧ rec = { old with flags := rec.flags })
    ∧ ∀ r : Rec, s.take.slots[r] = none → t.take.slots[r] = none

theorem Island.Same.refl (x : Island) : x.Same x := rfl

theorem Island.Same.trans {x y z : Island} (h : x.Same y) (k : y.Same z) : x.Same z := by
  unfold Island.Same at *
  rw [k, h]

namespace Steady
variable {S : Scope} {s t u : State}

theorem refl (s : State) : Steady S s s where
  eq := rfl
  horizon := rfl
  safety := ⟨rfl, rfl⟩
  low := rfl
  same_ch _ := ⟨rfl, rfl⟩
  same_tr _ := ⟨rfl, rfl, rfl, rfl⟩
  same_det _ := ⟨rfl, rfl⟩
  same_isl _ := rfl
  flags := rfl
  enabled _ := rfl
  latched _ h := h
  tally _ := rfl
  others _ _ := ⟨rfl, rfl, rfl, rfl⟩
  shrink _ _ h := h
  calm _ := ⟨rfl, id⟩
  records _ _ h _ := ⟨h, rfl, fun _ hd _ => hd⟩
  waits _ := ⟨fun _ h => h, fun _ h _ => h⟩
  mirrors _ h := ⟨h, fun _ => ⟨rfl, rfl, rfl⟩, fun _ hd _ => hd⟩
  idle _ _ h := ⟨h, rfl⟩
  olds _ := ⟨fun _ _ h => h, fun _ rec h => ⟨rec, h, rfl⟩, fun _ h => h⟩

theorem trans (h : Steady S s t) (k : Steady S t u) : Steady S s u where
  eq := by rw [k.eq, h.eq]
  horizon := k.horizon.trans h.horizon
  safety := ⟨k.safety.1.trans h.safety.1, k.safety.2.trans h.safety.2⟩
  low := k.low.trans h.low
  same_ch p := ⟨(k.same_ch p).1.trans (h.same_ch p).1, (k.same_ch p).2.trans (h.same_ch p).2⟩
  same_tr p := by
    obtain ⟨h1, h2, h3, h4⟩ := h.same_tr p
    obtain ⟨k1, k2, k3, k4⟩ := k.same_tr p
    exact ⟨k1.trans h1, k2.trans h2, k3.trans h3, k4.trans h4⟩
  same_det p := ⟨(k.same_det p).1.trans (h.same_det p).1, (k.same_det p).2.trans (h.same_det p).2⟩
  same_isl i := (h.same_isl i).trans (k.same_isl i)
  flags := k.flags.trans h.flags
  enabled a := (k.enabled a).trans (h.enabled a)
  latched a x := k.latched a (h.latched a x)
  tally i := (k.tally i).trans (h.tally i)
  others p hp := by
    obtain ⟨h1, h2, h3, h4⟩ := h.others p hp
    obtain ⟨k1, k2, k3, k4⟩ := k.others p hp
    exact ⟨k1.trans h1, k2.trans h2, k3.trans h3, k4.trans h4⟩
  shrink p e he := h.shrink p e (k.shrink p e he)
  calm hS := by
    obtain ⟨h1, h2⟩ := h.calm hS
    obtain ⟨k1, k2⟩ := k.calm hS
    exact ⟨by rw [k1, h1], fun hd => h2 (k2 hd)⟩
  records r rec hr hS := by
    obtain ⟨h1, h2, h3⟩ := h.records r rec hr hS
    obtain ⟨k1, k2, k3⟩ := k.records r rec h1 hS
    exact ⟨k1, k2.trans h2, fun d hd ho => k3 d (h3 d hd ho) ho⟩
  waits hS := by
    obtain ⟨h1, h2⟩ := h.waits hS
    obtain ⟨k1, k2⟩ := k.waits hS
    exact ⟨fun d hd => h1 d (k1 d hd), fun d hd hf => k2 d (h2 d hd hf) hf⟩
  mirrors hS hm := by
    obtain ⟨h1, h2, h3⟩ := h.mirrors hS hm
    obtain ⟨k1, k2, k3⟩ := k.mirrors hS h1
    exact ⟨k1, fun i => ⟨(k2 i).1.trans (h2 i).1, (k2 i).2.1.trans (h2 i).2.1, (k2 i).2.2.trans (h2 i).2.2⟩,
      fun d hd ho => k3 d (h3 d hd ho) ho⟩
  idle hS i hi := by
    obtain ⟨k1, k2⟩ := k.idle hS i hi
    obtain ⟨h1, h2⟩ := h.idle hS i k1
    exact ⟨h1, k2.trans h2⟩
  olds hS := by
    obtain ⟨h1, h2, h3⟩ := h.olds hS
    obtain ⟨k1, k2, k3⟩ := k.olds hS
    refine ⟨fun i r hr => h1 i r (k1 i r hr), fun r rec hr => ?_, fun r hr => k3 r (h3 r hr)⟩
    obtain ⟨mid, hmid, hrec⟩ := k2 r rec hr
    obtain ⟨old, hold, hmid'⟩ := h2 r mid hmid
    exact ⟨old, hold, by rw [hrec, hmid']⟩

variable (h : Steady S s t)
include h

theorem now : t.now = s.now := by rw [h.eq]
theorem pins : t.pins = s.pins := by rw [h.eq]
theorem resetHeld : t.resetHeld = s.resetHeld := by rw [h.eq]
theorem estop : t.estop = s.estop := by rw [h.eq]
theorem tb : t.tb = s.tb := by rw [h.eq]
theorem route : t.route = s.route := by rw [h.eq]
theorem unmoved : t.unmoved = s.unmoved := by rw [h.eq]
theorem pending : t.pending = s.pending := by rw [h.eq]
theorem line : ({ t.line with queue := s.line.queue, discarded := s.line.discarded } : Line) = s.line := by rw [h.eq]
theorem field : t.field = s.field := by rw [State.field, State.field, h.tb]

theorem source (i : Isl) : t.isl[i].source = s.isl[i].source := by rw [h.same_isl i]
theorem travel (i : Isl) : t.isl[i].travel = s.isl[i].travel := by rw [h.same_isl i]

/-- What keeps so much keeps every setting. -/
theorem settings : SameSettings s t where
  standard := by rw [h.tb]
  config p := (h.same_ch p).1
  lockParams p := ⟨(h.same_tr p).1, (h.same_tr p).2.1, (h.same_tr p).2.2.1⟩
  period p := (h.same_tr p).2.2.2
  signature := h.same_det
  route := h.route
  source i := ⟨h.source i, h.travel i⟩
  safety := h.safety
  low := h.low
  horizon := h.horizon
  enables := h.enabled
  line := by rw [h.eq]; exact ⟨rfl, rfl, rfl⟩

end Steady

variable {S : Scope}

/-- What holds of the new entry holds of every entry of an updated table. -/
theorem forall_set {α : Type} {n : Nat} {R : α → α → Prop} (refl : ∀ x, R x x) (v : Vector α n) (i : Fin n) {x : α}
    (h : R v[i] x) (j : Fin n) : R v[j] (v.set i x)[j] := by
  by_cases hj : j = i
  · subst hj; rw [getElem_set_same]; exact h
  · rw [getElem_set_other _ _ hj]; exact refl _

/-- An updated table at a place outside a set that holds the updated one. -/
theorem getElem_set_outside {α : Type} {A : Proj → Prop} {p q : Proj} (hp : A p) (hq : ¬A q) (v : Vector α 8) (x : α) :
    (v.set p x)[q] = v[q] := getElem_set_other v x (fun h => hq (h ▸ hp))

theorem foldl_steady {α : Type} {f : State → α → State} {l : List α} (hf : ∀ s, ∀ x ∈ l, Steady S s (f s x)) (s : State) :
    Steady S s (l.foldl f s) := by
  induction l generalizing s with
  | nil => exact Steady.refl s
  | cons x l ih =>
    exact (hf s x List.mem_cons_self).trans (ih (fun s y hy => hf s y (List.mem_cons_of_mem x hy)) _)

theorem ite_steady {s x y : State} {c : Prop} [Decidable c] (hx : c → Steady S s x) (hy : ¬c → Steady S s y) :
    Steady S s (if c then x else y) := by
  split
  · exact hx ‹_›
  · exact hy ‹_›

/-! ### The plain updates -/

theorem updCh_steady (s : State) {p : Proj} (hp : S.film p) (f : Channel → Channel) (hf : s.ch[p].Same (f s.ch[p])) :
    Steady S s (s.updCh p f) :=
  { Steady.refl (S := S) s with
    eq := rfl
    same_ch := forall_set (fun _ => ⟨rfl, rfl⟩) s.ch p hf
    others := fun _ hq => ⟨getElem_set_outside hp hq _ _, rfl, rfl, rfl⟩ }

theorem updTr_steady (s : State) {p : Proj} (hp : S.film p) (f : Tracker → Tracker) (hf : s.tr[p].Same (f s.tr[p])) :
    Steady S s (s.updTr p f) :=
  { Steady.refl (S := S) s with
    eq := rfl
    same_tr := forall_set (fun _ => ⟨rfl, rfl, rfl, rfl⟩) s.tr p hf
    others := fun _ hq => ⟨rfl, getElem_set_outside hp hq _ _, rfl, rfl⟩ }

theorem updDet_steady (s : State) {p : Proj} (hp : S.film p) (f : Detector → Detector) (hf : s.det[p].Same (f s.det[p])) :
    Steady S s (s.updDet p f) :=
  { Steady.refl (S := S) s with
    eq := rfl
    same_det := forall_set (fun _ => ⟨rfl, rfl⟩) s.det p hf
    others := fun _ hq => ⟨rfl, rfl, getElem_set_outside hp hq _ _, rfl⟩ }

/-- An island changed in what its settings and readings are not; its mirror only with the steps, its claim only with the engine's. -/
theorem updIsl_steady (s : State) (i : Isl) (f : Island → Island) (hf : s.isl[i].Same (f s.isl[i]))
    (hmirror : S.steps ∨ ((f s.isl[i]).commanded = s.isl[i].commanded ∧ (f s.isl[i]).pending = s.isl[i].pending
      ∧ (f s.isl[i]).mismatch = s.isl[i].mismatch) ∨ (¬NoMirrorLock s ∧ (f s.isl[i]).pending ≠ none))
    (hclaim : S.arms ∨ (f s.isl[i]).claim = s.isl[i].claim) : Steady S s (s.updIsl i f) :=
  { Steady.refl (S := S) s with
    eq := rfl
    same_isl := forall_set Island.Same.refl s.isl i hf
    mirrors := fun hS hm => by
      refine ⟨hm, ?_, fun _ hd _ => hd⟩
      rcases hmirror with h | h | h
      · exact absurd h hS
      · exact forall_set (R := fun x y : Island => y.commanded = x.commanded ∧ y.pending = x.pending ∧ y.mismatch = x.mismatch)
          (fun _ => ⟨rfl, rfl, rfl⟩) s.isl i h
      · exact absurd hm h.1
    idle := fun hS => by
      refine forall_set (R := fun x y : Island => y.pending = none → x.pending = none ∧ y.commanded = x.commanded)
        (fun _ h => ⟨h, rfl⟩) s.isl i fun hn => ?_
      rcases hmirror with h | h | h
      · exact absurd h hS
      · exact ⟨h.2.1.symm.trans hn, h.1⟩
      · exact absurd hn h.2
    olds := fun hS => by
      have hc := hclaim.resolve_left hS
      refine ⟨fun j r => ?_, fun _ rec h => ⟨rec, h, rfl⟩, fun _ h => h⟩
      have := forall_set (R := fun x y : Island => y.claim = x.claim) (fun _ => rfl) s.isl i hc j
      exact fun h => this.symm.trans h }

/-- The take port changed: only with it in anything but its requests. -/
theorem updTake_steady (s : State) (f : TakePort → TakePort)
    (hf : (f s.take).safety = s.take.safety ∧ (f s.take).protectSet = s.take.protectSet)
    (hcalm : S.takes ∨ f s.take = { s.take with slots := (f s.take).slots, protective := (f s.take).protective })
    (hslots : ∀ r : Rec, (∃ rec, s.eng.records[r] = some rec ∧ ¬S.Takes rec) → (f s.take).slots[r] = s.take.slots[r])
    (hnone : ¬S.arms → ∀ r : Rec, s.take.slots[r] = none → (f s.take).slots[r] = none) : Steady S s (s.updTake f) :=
  { Steady.refl (S := S) s with
    eq := rfl
    safety := hf
    calm := fun hS => ⟨hcalm.resolve_left hS, id⟩
    records := fun r rec h hS => ⟨h, hslots r ⟨rec, h, hS⟩, fun _ hd _ => hd⟩
    olds := fun hS => ⟨fun _ _ h => h, fun _ rec h => ⟨rec, h, rfl⟩, hnone hS⟩ }

/-- The take port changed in what is no changeover request. -/
theorem updTake_steady' (s : State) (f : TakePort → TakePort)
    (hf : (f s.take).safety = s.take.safety ∧ (f s.take).protectSet = s.take.protectSet ∧ (f s.take).slots = s.take.slots)
    (hcalm : S.takes ∨ f s.take = { s.take with slots := (f s.take).slots, protective := (f s.take).protective }) :
    Steady S s (s.updTake f) :=
  updTake_steady s f ⟨hf.1, hf.2.1⟩ hcalm (fun _ _ => by rw [hf.2.2]) (fun _ _ h => by rw [hf.2.2]; exact h)

/-- A record of the scope changed: only with the engine's steps in anything but its flags. -/
theorem updRec_steady (s : State) (r : Rec) (f : Record → Record)
    (hr : ∀ rec, s.eng.records[r] = some rec → S.Takes rec)
    (harms : S.arms ∨ ∀ rec, f rec = { rec with flags := (f rec).flags })
    (hlock : S.steps ∨ ∀ rec, (f rec).method = .mirror ∧ (f rec).state = .locked → rec.method = .mirror ∧ rec.state = .locked) :
    Steady S s (s.updRec r f) where
  eq := rfl
  horizon := rfl
  safety := ⟨rfl, rfl⟩
  low := rfl
  same_ch _ := ⟨rfl, rfl⟩
  same_tr _ := ⟨rfl, rfl, rfl, rfl⟩
  same_det _ := ⟨rfl, rfl⟩
  same_isl _ := rfl
  flags := rfl
  enabled _ := rfl
  latched _ h := h
  tally _ := rfl
  others _ _ := ⟨rfl, rfl, rfl, rfl⟩
  shrink _ _ h := h
  calm _ := ⟨rfl, id⟩
  records x rec hx hS := by
    have : x ≠ r := fun h => hS (hr rec (h ▸ hx))
    exact ⟨(getElem_set_other _ _ this).trans hx, rfl, fun _ hd _ => hd⟩
  waits _ := ⟨fun _ h => h, fun _ h _ => h⟩
  mirrors hS hm := by
    refine ⟨fun x rec hx => ?_, fun _ => ⟨rfl, rfl, rfl⟩, fun _ hd _ => hd⟩
    simp only [State.updRec_eng] at hx
    by_cases hxr : x = r
    · subst hxr
      rw [getElem_set_same, Option.map_eq_some_iff] at hx
      obtain ⟨old, hold, rfl⟩ := hx
      exact fun h => hm x old hold (hlock.resolve_left hS old h)
    · rw [getElem_set_other _ _ hxr] at hx
      exact hm x rec hx
  idle _ _ h := ⟨h, rfl⟩
  olds hS := by
    refine ⟨fun _ _ h => h, fun x rec hx => ?_, fun _ h => h⟩
    simp only [State.updRec_eng] at hx
    by_cases hxr : x = r
    · subst hxr
      rw [getElem_set_same, Option.map_eq_some_iff] at hx
      obtain ⟨old, hold, rfl⟩ := hx
      exact ⟨old, hold, harms.resolve_left hS old⟩
    · rw [getElem_set_other _ _ hxr] at hx
      exact ⟨rec, hx, rfl⟩

/-- A record of the scope made FREE. -/
theorem freeRec_steady (s : State) (r : Rec) (hr : ∀ rec, s.eng.records[r] = some rec → S.Takes rec) :
    Steady S s { s.setRec r none with due := s.due.filter (fun d => !d.ofRec r) } where
  eq := rfl
  horizon := rfl
  safety := ⟨rfl, rfl⟩
  low := rfl
  same_ch _ := ⟨rfl, rfl⟩
  same_tr _ := ⟨rfl, rfl, rfl, rfl⟩
  same_det _ := ⟨rfl, rfl⟩
  same_isl _ := rfl
  flags := rfl
  enabled _ := rfl
  latched _ h := h
  tally _ := rfl
  others _ _ := ⟨rfl, rfl, rfl, rfl⟩
  shrink _ _ h := h
  calm _ := ⟨rfl, fun hd => (List.mem_filter.1 hd).1⟩
  records x rec hx hS := by
    have hxr : x ≠ r := fun h => hS (hr rec (h ▸ hx))
    refine ⟨(getElem_set_other _ _ hxr).trans hx, rfl, fun d hd ho => List.mem_filter.2 ⟨hd, ?_⟩⟩
    cases d <;> simp_all [Due.ofRec]
  waits _ := ⟨fun _ hd => (List.mem_filter.1 hd).1, fun d hd hf => List.mem_filter.2 ⟨hd, by rw [hf.2 r]; rfl⟩⟩
  mirrors hS hm := by
    refine ⟨fun x rec hx => ?_, fun _ => ⟨rfl, rfl, rfl⟩, fun d hd ho => List.mem_filter.2 ⟨hd, ?_⟩⟩
    · by_cases hxr : x = r
      · subst hxr
        rw [State.setRec, getElem_set_same] at hx
        cases hx
      · rw [State.setRec, getElem_set_other _ _ hxr] at hx
        exact hm x rec hx
    · cases d <;> simp_all [Due.ofRec, Due.ofMirror]
  idle _ _ h := ⟨h, rfl⟩
  olds hS := by
    refine ⟨fun _ _ h => h, fun x rec hx => ?_, fun _ h => h⟩
    by_cases hxr : x = r
    · subst hxr
      rw [State.setRec, getElem_set_same] at hx
      cases hx
    · rw [State.setRec, getElem_set_other _ _ hxr] at hx
      exact ⟨rec, hx, rfl⟩

/-- A FREE record filled by an arming. -/
theorem fillRec_steady (s : State) (r : Rec) (rec : Record) (hr : s.eng.records[r] = none) (harms : S.arms)
    (hlock : rec.state ≠ .locked) : Steady S s (s.setRec r (some rec)) :=
  { Steady.refl (S := S) s with
    eq := rfl
    horizon := rfl
    records := fun x old hx _ => by
      have hxr : x ≠ r := fun h => by subst h; rw [hr] at hx; cases hx
      exact ⟨(getElem_set_other _ _ hxr).trans hx, rfl, fun _ hd _ => hd⟩
    mirrors := fun _ hm => by
      refine ⟨fun x old hx => ?_, fun _ => ⟨rfl, rfl, rfl⟩, fun _ hd _ => hd⟩
      by_cases hxr : x = r
      · subst hxr
        rw [State.setRec, getElem_set_same] at hx
        cases hx
        exact fun h => hlock h.2
      · rw [State.setRec, getElem_set_other _ _ hxr] at hx
        exact hm x old hx
    olds := fun hS => absurd harms hS }

theorem setCues_steady (s : State) {p : Proj} (hp : S.film p) (l : List CueEntry) (n : Nat)
    (hl : ∀ e ∈ l, e ∈ s.cues.lists[p]) : Steady S s (s.setCues p l n) :=
  { Steady.refl (S := S) s with
    eq := rfl
    low := rfl
    others := fun _ hq => ⟨rfl, rfl, rfl, getElem_set_outside hp hq _ _⟩
    shrink := forall_set (R := fun x y : List CueEntry => ∀ e ∈ y, e ∈ x) (fun _ _ h => h) s.cues.lists p hl }

/-- The waiting steps changed, which only the steps do. -/
theorem setDue_steady (s : State) (ds : List Due) (hS : S.steps) (hcalm : S.takes ∨ (.takeGrant ∈ ds → .takeGrant ∈ s.due))
    (hrec : ∀ (r : Rec) (rec : Record), s.eng.records[r] = some rec → ¬S.Takes rec → ∀ d ∈ s.due, d.ofRec r = true → d ∈ ds) :
    Steady S s { s with due := ds } :=
  { Steady.refl (S := S) s with
    eq := rfl
    calm := fun h => ⟨rfl, hcalm.resolve_left h⟩
    records := fun r rec h hS => ⟨h, rfl, hrec r rec h hS⟩
    waits := fun h => absurd hS h
    mirrors := fun h => absurd hS h }

theorem dropDue_steady (s : State) (d : Due) (hS : S.Open) : Steady S s (s.dropDue d) :=
  setDue_steady s _ hS.steps (.inr fun h => (List.mem_filter.1 h).1) fun _ rec _ hn => absurd (.inl (hS.recs rec.a)) hn

theorem addDue_steady (s : State) (d : Due) (hS : S.Open) (hd : S.takes ∨ d ≠ .takeGrant) : Steady S s (s.addDue d) :=
  setDue_steady s _ hS.steps
    (hd.imp_right fun hd h => by
      simp only [List.mem_append, List.mem_singleton] at h
      exact h.resolve_right (Ne.symm hd))
    fun _ rec _ hn => absurd (.inl (hS.recs rec.a)) hn

theorem addDueIf_steady (s : State) (c : Bool) (d : Due) (hS : S.Open) (hd : S.takes ∨ d ≠ .takeGrant) :
    Steady S s (s.addDueIf c d) :=
  ite_steady (fun _ => addDue_steady s d hS hd) (fun _ => Steady.refl s)

/-! ### Events and notices -/

theorem Notified.steady {s t : State} (h : Notified s t)
    (ht : ∀ i, t.alarm.get (.isl i .tallyChange) = s.alarm.get (.isl i .tallyChange)) : Steady S s t := by
  have hs := Steady.refl (S := S) s
  obtain ⟨heq, henabled, hlatched, hflags, -, -, -⟩ := h
  rw [heq] at ht henabled hlatched hflags ⊢
  exact { hs with
    eq := rfl
    flags := hflags
    enabled := henabled
    latched := hlatched
    tally := ht }

theorem post_steady (s : State) (n : Notice) (hn : ∀ p, n.isPositionOf p = false) : Steady S s (s.post n) :=
  (post_notified s n hn).steady fun _ => post_get_other s n nofun

theorem pass_steady (s : State) {a : AlarmId} (ha : a.notTally) : Steady S s (s.pass a) :=
  (pass_notified s a).steady fun i => pass_get_other s (ha i).symm nofun

theorem passIf_steady (s : State) (c : Bool) {a : AlarmId} (ha : a.notTally) : Steady S s (s.passIf c a) :=
  ite_steady (fun _ => pass_steady s ha) (fun _ => Steady.refl s)

theorem passUnlessQuiet_steady (s : State) (p : Proj) (k : ProjAlarm) : Steady S s (s.passUnlessQuiet p k) :=
  passIf_steady s _ (notTally_proj p k)

theorem postPosition_steady (s : State) (n : PosNotice) : Steady S s (s.postPosition n) :=
  ite_steady (fun _ => { Steady.refl (S := S) s with eq := rfl })
    (fun _ => ite_steady (fun _ => { Steady.refl (S := S) s with eq := rfl }) (fun _ => Steady.refl s))

/-! ### Look-ups of records (R129) -/

/-- The record that a look-up finds is one of the table that passes its test. -/
theorem findRec_some {s : State} {f : Record → Bool} {r : Rec} (h : s.findRec f = some r) :
    ∃ rec, s.eng.records[r] = some rec ∧ f rec = true := by
  have := List.find?_some h
  simpa only [Option.any_eq_true] using this

theorem asOutgoing_some {s : State} {p : Proj} {r : Rec} (h : s.asOutgoing p = some r) :
    ∃ rec, s.eng.records[r] = some rec ∧ rec.a = p := by
  simpa only [decide_eq_true_eq] using findRec_some h

theorem asIncoming_some {s : State} {p : Proj} {r : Rec} (h : s.asIncoming p = some r) :
    ∃ rec, s.eng.records[r] = some rec ∧ rec.b = p := by
  simpa only [decide_eq_true_eq] using findRec_some h

/-- A projector's record as outgoing lies in a scope that has the projector. -/
theorem asOutgoing_takes {s : State} {p : Proj} {r : Rec} (h : s.asOutgoing p = some r) (hp : S.recs p) :
    ∀ rec, s.eng.records[r] = some rec → S.Takes rec := by
  obtain ⟨rec, hrec, rfl⟩ := asOutgoing_some h
  intro rec' h'
  rw [hrec] at h'
  cases h'
  exact .inl hp

theorem asIncoming_takes {s : State} {p : Proj} {r : Rec} (h : s.asIncoming p = some r) (hp : S.recs p) :
    ∀ rec, s.eng.records[r] = some rec → S.Takes rec := by
  obtain ⟨rec, hrec, rfl⟩ := asIncoming_some h
  intro rec' h'
  rw [hrec] at h'
  cases h'
  exact .inr hp

/-! ### Records (R141, R150 to R163) -/

theorem withdraw_steady (s : State) (r : Rec) (hr : ∀ rec, s.eng.records[r] = some rec → S.Takes rec) :
    Steady S s (s.withdraw r) := by
  refine updTake_steady s _ ⟨rfl, rfl⟩ (.inr rfl) (fun x => ?_) (fun _ x hx => ?_)
  · rintro ⟨rec, hx, hn⟩
    exact getElem_set_other _ _ fun h => hn (hr rec (h ▸ hx))
  · exact forall_set (R := fun a b : Option ChangeReq => a = none → b = none) (fun _ h => h) s.take.slots r (fun _ => rfl) x hx

theorem releaseClaim_steady (s : State) (r : Rec) : Steady S s (s.releaseClaim r) := by
  have hisl : ∀ i : Isl, (s.releaseClaim r).isl[i] = if s.isl[i].claim = some r then { s.isl[i] with claim := none } else s.isl[i] := by
    intro i
    simp only [State.releaseClaim, Fin.getElem_fin, getElem_map4]
  exact { Steady.refl (S := S) s with
    eq := rfl
    same_isl := fun i => by
      rw [hisl]
      split <;> rfl
    mirrors := fun _ hm => ⟨hm, fun i => by rw [hisl]; split <;> exact ⟨rfl, rfl, rfl⟩, fun _ hd _ => hd⟩
    idle := fun _ i => by rw [hisl]; split <;> exact fun h => ⟨h, rfl⟩
    olds := fun _ => ⟨fun i x => by
      rw [hisl]
      split
      · exact fun h => nomatch h
      · exact id, fun _ rec h => ⟨rec, h, rfl⟩, fun _ h => h⟩ }

theorem endRecord_steady (s : State) (r : Rec) (res : Result) (hr : ∀ rec, s.eng.records[r] = some rec → S.Takes rec) :
    Steady S s (s.endRecord r res) := by
  unfold State.endRecord
  split
  · exact Steady.refl s
  · rename_i rec _
    have hpost := post_notified ((s.withdraw r).releaseClaim r) (.change (rec.notice r (rec.endResult res) s.field)) (fun _ => rfl)
    refine (((withdraw_steady s r hr).trans (releaseClaim_steady _ r)).trans (post_steady _ _ (fun _ => rfl))).trans
      (freeRec_steady _ r ?_)
    rw [hpost.eng]
    exact hr

theorem endAllRecords_steady (s : State) (res : Result) (hS : S.Open) : Steady S s (s.endAllRecords res) :=
  foldl_steady (fun s r _ => endRecord_steady s r res fun rec _ => .inl (hS.recs rec.a)) s

theorem engineStop_steady (s : State) {p : Proj} (hp : S.recs p) : Steady S s (s.engineStop p) := by
  unfold State.engineStop
  split
  · exact endRecord_steady _ _ _ (asOutgoing_takes ‹_› hp)
  · split
    · exact Steady.refl s
    · exact ite_steady (fun _ => Steady.refl s) (fun _ => endRecord_steady _ _ _ (asIncoming_takes ‹_› hp))

theorem engineFault_steady (s : State) {p : Proj} (hp : S.recs p) (e : Bool) : Steady S s (s.engineFault p e) := by
  unfold State.engineFault
  split
  · exact endRecord_steady _ _ _ (asOutgoing_takes ‹_› hp)
  · split
    · exact Steady.refl s
    · exact ite_steady (fun _ => Steady.refl s) (fun _ => endRecord_steady _ _ _ (asIncoming_takes ‹_› hp))

theorem engineLockLost_steady (s : State) {p : Proj} (hp : S.recs p) (a b : Bool) : Steady S s (s.engineLockLost p a b) := by
  unfold State.engineLockLost
  split
  · exact Steady.refl s
  · exact ite_steady (fun _ => endRecord_steady _ _ _ (asOutgoing_takes ‹_› hp)) (fun _ => Steady.refl s)

theorem engineMismatch_steady (s : State) (i : Isl)
    (hr : ∀ r rec, s.isl[i].claim = some r → s.eng.records[r] = some rec → rec.state ≠ .tailout → S.Takes rec) :
    Steady S s (s.engineMismatch i) := by
  unfold State.engineMismatch
  split
  · exact Steady.refl s
  · refine ite_steady (fun _ => Steady.refl s) (fun hn => endRecord_steady _ _ _ fun rec hrec => hr _ rec ‹_› hrec fun hst => hn ?_)
    rw [hrec]
    exact decide_eq_true hst

theorem engineCorrected_steady (s : State) {p : Proj} (hp : S.recs p) : Steady S s (s.engineCorrected p) := by
  have hmark : ∀ r, (∀ rec, s.eng.records[r] = some rec → S.Takes rec) → Steady S s (s.updRec r (fun rec =>
      if rec.state = .locked ∨ rec.state = .cutting ∨ rec.state = .tailout then
        { rec with flags := { rec.flags with corrected := true } } else rec)) := by
    intro r hr
    refine updRec_steady s r _ hr (.inr fun rec => ?_) (.inr fun rec h => ?_)
    · split <;> rfl
    · split at h <;> exact h
  unfold State.engineCorrected
  simp only
  split
  · exact hmark _ (asOutgoing_takes ‹_› hp)
  · split
    · exact hmark _ (asIncoming_takes ‹_› hp)
    · exact Steady.refl s

/-! ### Protection (R81, R100 to R104) -/

/-- A mirror command: of a step, or of an emergency cut, which only a LOCKED MIRROR record makes (R81, R102). -/
theorem mirrorCommand_steady (s : State) (i : Isl) (port : Port) (hS : S.steps ∨ ¬NoMirrorLock s) :
    Steady S s (s.mirrorCommand i port) := by
  let f : Island → Island := fun u => { u with commanded := port, pending := some ⟨port, fieldAdd s.field (u.travel + 8)⟩ }
  have h1 : Steady S s (s.updIsl i f) := updIsl_steady s i f rfl (hS.imp_right fun h => .inr ⟨h, nofun⟩) (.inr rfl)
  have hdrop : ∀ (t : State) (d : Due), d.ofMirror = true → NoMirrorLock t = NoMirrorLock s → Steady S t (t.dropDue d) := by
    intro t d hd ht
    have hkeep : ∀ x ∈ t.due, x ≠ d → x ∈ (t.dropDue d).due := fun x hx hne => List.mem_filter.2 ⟨hx, by simpa using hne⟩
    exact { Steady.refl (S := S) t with
      eq := rfl
      calm := fun _ => ⟨rfl, fun h => (List.mem_filter.1 h).1⟩
      records := fun r rec h _ => ⟨h, rfl, fun x hx ho => hkeep x hx fun hxd => by
        subst hxd; cases x <;> simp_all [Due.ofRec, Due.ofMirror]⟩
      waits := fun _ => ⟨fun x hx => (List.mem_filter.1 hx).1, fun x hx hf => hkeep x hx fun hxd => by
        subst hxd; rw [hf.1] at hd; cases hd⟩
      mirrors := fun hs hm => absurd (ht ▸ hm) (hS.resolve_left hs) }
  exact (h1.trans (hdrop _ (.mirrorComplete i) rfl rfl)).trans (hdrop _ (.mirrorDeadline i) rfl rfl)

theorem postProtective_steady (s : State) (c : Source) (p : Option Proj) : Steady S s (s.postProtective c p) := by
  refine updTake_steady' s _ ?_ (.inr ?_)
  · split
    · exact ⟨rfl, rfl, rfl⟩
    · split <;> exact ⟨rfl, rfl, rfl⟩
  · split
    · rfl
    · split <;> rfl

theorem emergencyCut_steady (s : State) (r : Rec) (hr : ∀ rec, s.eng.records[r] = some rec → rec.state = .locked) :
    Steady S s (s.emergencyCut r) := by
  unfold State.emergencyCut
  split
  · exact Steady.refl s
  · rename_i rec hrec
    split
    · exact Steady.refl s
    · split
      · exact postProtective_steady _ _ _
      · rename_i hm
        exact mirrorCommand_steady _ _ _ (.inr fun h => h r rec hrec ⟨hm, hr rec hrec⟩)

theorem retarget_steady (s : State) : Steady S s s.retarget := updTake_steady' s _ ⟨rfl, rfl, rfl⟩ (.inr rfl)

theorem emergencyRec_locked {s : State} {p : Proj} {k : ProtectKind} {r : Rec} (h : s.emergencyRec p k = some r) :
    ∀ rec, s.eng.records[r] = some rec → rec.state = .locked := by
  unfold State.emergencyRec at h
  split at h
  · cases h
  · obtain ⟨rec, hrec, hf⟩ := findRec_some h
    intro rec' h'
    rw [hrec] at h'
    cases h'
    simpa using (Bool.and_eq_true_iff.1 hf).2

theorem protect_steady (s : State) (p : Proj) (k : ProtectKind) : Steady S s (s.protect p k) := by
  unfold State.protect
  simp only
  have h1 : Steady S s (s.passIf (s.isProtective p k || s.strikesTarget p k) (.proj p .protect)) :=
    passIf_steady s _ (notTally_proj p _)
  have h2 := h1.trans (ite_steady (c := s.strikesTarget p k = true) (fun _ => retarget_steady _) (fun _ => Steady.refl _))
  refine ite_steady (fun _ => ?_) (fun _ => h2)
  split
  · exact h2.trans (emergencyCut_steady _ _ (emergencyRec_locked ‹_›))
  · exact h2.trans (postProtective_steady _ _ _)

/-! ### Channels (R22 to R31, R59) -/

theorem beforeFault_steady (s : State) {p : Proj} (hp : S.recs p) (faults : List ChanFault) : Steady S s (s.beforeFault p faults) :=
  ((foldl_steady (fun s f _ => pass_steady s (notTally_proj p f.alarm)) s).trans
    (foldl_steady (fun s f _ => protect_steady s p f.kind) _)).trans (engineFault_steady _ hp _)

theorem enterFault_steady (s : State) {p : Proj} (hp : S.Has p) (faults : List ChanFault) : Steady S s (s.enterFault p faults) := by
  cases faults with
  | nil => exact Steady.refl s
  | cons f fs =>
    rw [enterFault_eq]
    exact ((beforeFault_steady s hp.recs _).trans (updCh_steady _ hp.film _ ⟨rfl, rfl⟩)).trans
      (updTr_steady _ hp.film _ ⟨rfl, rfl, rfl, rfl⟩)

theorem doStop_steady (s : State) {p : Proj} (hp : S.Has p) : Steady S s (s.doStop p) := by
  unfold State.doStop
  refine Steady.trans ?_ (engineStop_steady _ hp.recs)
  refine ite_steady (fun _ => ?_) (fun _ => ite_steady (fun _ => ?_) (fun _ => Steady.refl s))
  · exact (updCh_steady s hp.film _ ⟨rfl, rfl⟩).trans (updTr_steady _ hp.film _ ⟨rfl, rfl, rfl, rfl⟩)
  · exact updCh_steady s hp.film _ ⟨rfl, rfl⟩

theorem requestStop_steady (s : State) {p : Proj} (hp : S.Has p) : Steady S s (s.requestStop p).1 := by
  unfold State.requestStop
  split
  · exact Steady.refl s
  · exact doStop_steady s hp

theorem giveStop_steady (s : State) {p : Proj} (hp : S.Has p) : Steady S s (s.giveStop p) := requestStop_steady s hp

theorem loseLock_steady (s : State) {p : Proj} (hp : S.Has p) : Steady S s (s.loseLock p) := by
  unfold State.loseLock
  have h1 : Steady S s (s.updTr p Tracker.toSearch) := updTr_steady s hp.film _ ⟨rfl, rfl, rfl, rfl⟩
  refine ite_steady (fun _ => ?_) (fun _ => h1)
  exact (((h1.trans (updCh_steady _ hp.film _ ⟨rfl, rfl⟩)).trans (pass_steady _ (notTally_proj p _))).trans
    (protect_steady _ p _)).trans (engineLockLost_steady _ hp.recs _ _)

/-! ### Cues (R70, R71, R116 to R125) -/

theorem removeCue_steady (s : State) {p : Proj} (hp : S.film p) (number : Nat) : Steady S s (s.removeCue p number) :=
  ite_steady (fun _ => setCues_steady s hp _ _ fun _ he => List.mem_of_mem_eraseP he) (fun _ => Steady.refl s)

/-- A channel put into MANUAL by an underrun (R124). -/
def Channel.toManual (c : Channel) : Channel := { c with mode := .manual }

/-- A consumption: the entry leaves the list, notices follow, and an underrun puts the channel into MANUAL (R116, R124). -/
theorem consume_cases (s : State) (p : Proj) (e : CueEntry) (o : CueOutcome) (v : Int) (b : Bool) :
    ∃ w, Notified (s.removeCue p e.number) w ∧ (∀ S, Steady S (s.removeCue p e.number) w) ∧ s.consume p e o v b =
      if (s.removeCue p e.number).cues.lists[p] = [] ∧ s.ch[p].mode = .auto ∧ b = true then w.updCh p Channel.toManual else w := by
  let n : Notice := .cue ⟨p, e.number, e.kind.tag, e.pos, o, v, s.field, s.tr[p].frame⟩
  have hn : Notified (s.removeCue p e.number) ((s.removeCue p e.number).post n) := post_notified _ n (fun _ => rfl)
  have hs : ∀ S, Steady S (s.removeCue p e.number) ((s.removeCue p e.number).post n) := fun S => post_steady _ n (fun _ => rfl)
  by_cases hc : (s.removeCue p e.number).cues.lists[p] = [] ∧ s.ch[p].mode = .auto ∧ b = true
  · refine ⟨((s.removeCue p e.number).post n).pass (.proj p .cueUnderrun), hn.trans (pass_notified _ _),
      fun S => (hs S).trans (pass_steady _ (notTally_proj p _)), ?_⟩
    rw [if_pos hc]
    refine if_pos ?_
    rw [hn.cues]
    simpa [and_assoc] using hc
  · refine ⟨_, hn, hs, ?_⟩
    rw [if_neg hc]
    refine if_neg ?_
    rw [hn.cues]
    simpa [and_assoc] using hc

theorem consume_steady (s : State) {p : Proj} (hp : S.film p) (e : CueEntry) (o : CueOutcome) (v : Int) (b : Bool) :
    Steady S s (s.consume p e o v b) := by
  obtain ⟨w, _, hw, h⟩ := consume_cases s p e o v b
  have h1 := (removeCue_steady s hp e.number).trans (hw S)
  rw [h]
  exact ite_steady (fun _ => h1.trans (updCh_steady _ hp _ ⟨rfl, rfl⟩)) (fun _ => h1)

theorem lowTest_steady (s : State) (p : Proj) (before : Nat) : Steady S s (s.lowTest p before) :=
  passIf_steady s _ (notTally_proj p _)

theorem reachEntry_steady (s : State) {p : Proj} (hp : S.Has p) (e : CueEntry) : Steady S s (s.reachEntry p e) := by
  unfold State.reachEntry
  split
  · split
    · exact (giveStop_steady s hp).trans (consume_steady _ hp.film _ _ _ _)
    · exact consume_steady s hp.film _ _ _ _
    · exact (updTr_steady s hp.film _ ⟨rfl, rfl, rfl, rfl⟩).trans (consume_steady _ hp.film _ _ _ _)
    · exact (consume_steady s hp.film _ _ _ _).trans (pass_steady _ (notTally_proj p _))
    · exact Steady.refl s
  · exact consume_steady s hp.film _ _ _ _

theorem reachPass_steady (s : State) {p : Proj} (hp : S.Has p) : Steady S s (s.reachPass p) :=
  ite_steady (fun _ => foldl_steady (fun s e _ => reachEntry_steady s hp e) s) (fun _ => Steady.refl s)

theorem skipAtStart_steady (s : State) {p : Proj} (hp : S.film p) : Steady S s (s.skipAtStart p) :=
  foldl_steady (fun s e _ => consume_steady s hp e _ _ _) s

theorem missMarks_steady (s : State) {p : Proj} (hp : S.film p) : Steady S s (s.missMarks p) :=
  ite_steady
    (fun _ => foldl_steady (fun s e _ => (consume_steady s hp e _ _ _).trans (pass_steady _ (notTally_proj p _))) s)
    (fun _ => Steady.refl s)

/-! ### Film (R56 to R75, R157) -/

theorem tailoutTest_steady (s : State) (r : Rec) (hr : ∀ rec, s.eng.records[r] = some rec → S.Has rec.a) :
    Steady S s (s.tailoutTest r) := by
  unfold State.tailoutTest
  split
  · exact Steady.refl s
  · rename_i rec hrec
    split
    · exact Steady.refl s
    · exact ite_steady (fun _ => (endRecord_steady _ _ _ fun rec h => .inl (hr rec h).recs).trans (giveStop_steady _ (hr rec hrec)))
        (fun _ => Steady.refl s)

theorem tailoutOf_steady (s : State) {p : Proj} (hp : S.Has p) : Steady S s (s.tailoutOf p) := by
  unfold State.tailoutOf
  split
  · exact Steady.refl s
  · rename_i r hr
    obtain ⟨rec, hrec, ha⟩ := asOutgoing_some hr
    refine tailoutTest_steady s r fun rec' h' => ?_
    rw [hrec] at h'
    cases h'
    exact ha ▸ hp

theorem applyCorrection_steady (s : State) {p : Proj} (hp : S.Has p) (c : Int) : Steady S s (s.applyCorrection p c) := by
  unfold State.applyCorrection
  simp only
  refine Steady.trans (Steady.trans ?_ (lowTest_steady _ p _)) (tailoutOf_steady _ hp)
  have h1 : Steady S s ((s.updTr p (fun t => t.corrected c)).passIf (!frameInRange (s.tr[p].frame + c)) (.proj p .counterLimit)) :=
    (updTr_steady s hp.film _ ⟨rfl, rfl, rfl, rfl⟩).trans (passIf_steady _ _ (notTally_proj p _))
  have h2 := h1.trans (ite_steady (c := c = 0) (fun _ => Steady.refl _) (fun _ => engineCorrected_steady _ hp.recs))
  exact h2.trans (ite_steady (fun _ => reachPass_steady _ hp) (fun _ => Steady.refl _))

theorem takeMatch_steady (s : State) {p : Proj} (hp : S.Has p) (detected : Int) : Steady S s (s.takeMatch p detected) := by
  unfold State.takeMatch
  split
  · exact ((consume_steady s hp.film _ _ _ _).trans (lowTest_steady _ p _)).trans (applyCorrection_steady _ hp _)
  · exact (updTr_steady s hp.film _ ⟨rfl, rfl, rfl, rfl⟩).trans (passUnlessQuiet_steady _ p _)

theorem takeWaiting_steady (s : State) {p : Proj} (hp : S.Has p) : Steady S s (s.takeWaiting p) := by
  unfold State.takeWaiting
  split
  · exact Steady.refl s
  · exact (updDet_steady s hp.film _ ⟨rfl, rfl⟩).trans (takeMatch_steady _ hp _)

theorem handMatch_steady (s : State) {p : Proj} (hp : S.Has p) (detected : Int) : Steady S s (s.handMatch p detected) :=
  ite_steady (fun _ => updDet_steady s hp.film _ ⟨rfl, rfl⟩) (fun _ => takeMatch_steady s hp detected)

theorem takeFound_steady (s : State) (hS : S.Open) : Steady S s s.takeFound :=
  foldl_steady (fun s p _ => ite_steady (fun _ => Steady.refl s) (fun _ => takeWaiting_steady s (hS.has p))) s

theorem reportPosition_steady (s : State) (p : Proj) : Steady S s (s.reportPosition p) :=
  ite_steady (fun _ => postPosition_steady s _) (fun _ => Steady.refl s)

theorem frameAdvanced_steady (s : State) {p : Proj} (hp : S.Has p) (before : Nat) : Steady S s (s.frameAdvanced p before) := by
  unfold State.frameAdvanced
  simp only
  refine Steady.trans ?_ (tailoutOf_steady _ hp)
  have h1 : Steady S s (if s.ch[p].sampling then s.updDet p (fun d => d.sample s.pins.proj[p].cue) else s) :=
    ite_steady (fun _ => updDet_steady s hp.film _ ⟨rfl, rfl⟩) (fun _ => Steady.refl s)
  have h3 : ∀ x : State, Steady S s x → Steady S s (((((x.reportPosition p).missMarks p).reachPass p).lowTest p before).takeWaiting p) :=
    fun x hx => ((((hx.trans (reportPosition_steady _ p)).trans (missMarks_steady _ hp.film)).trans (reachPass_steady _ hp)).trans
      (lowTest_steady _ p _)).trans (takeWaiting_steady _ hp)
  have h2 : ∀ c : Bool, Steady S s (if c = true then
      (if s.ch[p].sampling then s.updDet p (fun d => d.sample s.pins.proj[p].cue) else s).updDet p Detector.emptied
      else (if s.ch[p].sampling then s.updDet p (fun d => d.sample s.pins.proj[p].cue) else s)) :=
    fun c => ite_steady (fun _ => h1.trans (updDet_steady _ hp.film _ ⟨rfl, rfl⟩)) (fun _ => h1)
  exact ite_steady (fun _ => (h3 _ (h2 _)).trans (handMatch_steady _ hp _)) (fun _ => h3 _ (h2 _))

theorem frameRetreated_steady (s : State) {p : Proj} (hp : S.Has p) : Steady S s (s.frameRetreated p) :=
  (updDet_steady s hp.film _ ⟨rfl, rfl⟩).trans (reportPosition_steady _ p)

theorem frameUp_steady (s : State) {p : Proj} (hp : S.Has p) : Steady S s (s.frameUp p) :=
  ite_steady (fun _ => (updTr_steady s hp.film _ ⟨rfl, rfl, rfl, rfl⟩).trans (frameAdvanced_steady _ hp _))
    (fun _ => pass_steady s (notTally_proj p _))

theorem frameDown_steady (s : State) {p : Proj} (hp : S.Has p) : Steady S s (s.frameDown p) :=
  ite_steady (fun _ => (updTr_steady s hp.film _ ⟨rfl, rfl, rfl, rfl⟩).trans (frameRetreated_steady _ hp))
    (fun _ => pass_steady s (notTally_proj p _))

theorem checkPerfs_steady (s : State) {p : Proj} (hp : S.Has p) : Steady S s (s.checkPerfs p) := by
  unfold State.checkPerfs
  simp only
  split
  · exact updTr_steady s hp.film _ ⟨rfl, rfl, rfl, rfl⟩
  · have h1 := updTr_steady s hp.film (fun t => { t with interval := some 0, empty := if ‹Nat› = 0 then satInc 3 t.empty else 0 })
      ⟨rfl, rfl, rfl, rfl⟩
    exact ite_steady (fun _ => h1) (fun _ => (h1.trans (updTr_steady _ hp.film _ ⟨rfl, rfl, rfl, rfl⟩)).trans (passUnlessQuiet_steady _ p _))

theorem lockedEdge_steady (s : State) {p : Proj} (hp : S.Has p) (a : Nat) : Steady S s (s.lockedEdge p a) := by
  unfold State.lockedEdge
  simp only
  split
  · split
    · exact loseLock_steady s hp
    · exact updTr_steady s hp.film _ ⟨rfl, rfl, rfl, rfl⟩
    · have h1 := fun f (hf : s.tr[p].Same (f s.tr[p])) => updTr_steady s hp.film f hf
      exact ite_steady (fun _ => (h1 _ ⟨rfl, rfl, rfl, rfl⟩).trans (loseLock_steady _ hp)) (fun _ => h1 _ ⟨rfl, rfl, rfl, rfl⟩)
    · have h1 := fun f (hf : s.tr[p].Same (f s.tr[p])) => (updTr_steady s hp.film f hf).trans (passUnlessQuiet_steady _ p .slip)
      exact ite_steady (fun _ => (h1 _ ⟨rfl, rfl, rfl, rfl⟩).trans (loseLock_steady _ hp)) (fun _ => h1 _ ⟨rfl, rfl, rfl, rfl⟩)
  · exact Steady.refl s

theorem searchEdge_same (t : Tracker) (std : Standard) (n : Field) (a : Nat) : t.Same (t.searchEdge std n a) := by
  unfold Tracker.searchEdge
  simp only
  split
  · exact ⟨rfl, rfl, rfl, rfl⟩
  · split
    · exact ⟨rfl, rfl, rfl, rfl⟩
    · split
      · split <;> exact ⟨rfl, rfl, rfl, rfl⟩
      · exact ⟨rfl, rfl, rfl, rfl⟩

theorem edge_steady (s : State) {p : Proj} (hp : S.Has p) : Steady S s (s.edge p) := by
  unfold State.edge
  refine ite_steady (fun _ => Steady.refl s) (fun _ => ?_)
  extract_lets a before rises held s1 s2 s3 s4
  have h1 : Steady S s s1 := ite_steady (fun _ => updTr_steady s hp.film _ ⟨rfl, rfl, rfl, rfl⟩) (fun _ => Steady.refl s)
  have h2 : Steady S s s2 := (h1.trans (checkPerfs_steady _ hp)).trans (passIf_steady _ _ (notTally_proj p _))
  have h3 : Steady S s s3 := ite_steady (fun _ => h2.trans (frameAdvanced_steady _ hp _)) (fun _ => h2)
  have h4 : Steady S s s4 := ite_steady (fun _ => h3.trans (enterFault_steady _ hp _)) (fun _ => h3)
  split
  · exact h4
  · exact h4.trans (updTr_steady _ hp.film _ (searchEdge_same _ _ _ _))
  · exact h4.trans (lockedEdge_steady _ hp _)

theorem cadenceAdvance_steady (s : State) {p : Proj} (hp : S.Has p) : Steady S s (s.cadenceAdvance p) := by
  unfold State.cadenceAdvance
  split
  · refine ite_steady (fun _ => updTr_steady s hp.film _ ⟨rfl, rfl, rfl, rfl⟩) (fun _ => ite_steady (fun _ => ?_) (fun _ => ?_))
    · refine Steady.trans (updTr_steady s hp.film _ ?_) (frameAdvanced_steady _ hp _)
      exact ⟨rfl, rfl, rfl, rfl⟩
    · refine Steady.trans (updTr_steady s hp.film _ ?_) (pass_steady _ (notTally_proj p _))
      exact ⟨rfl, rfl, rfl, rfl⟩
  · exact Steady.refl s

theorem correctSlip_steady (s : State) {p : Proj} (hp : S.Has p) : Steady S s (s.correctSlip p) := by
  unfold State.correctSlip
  split
  · refine ite_steady (fun _ => ?_) (fun _ => Steady.refl s)
    extract_lets before f rises s1
    have h1 : Steady S s s1 := Steady.trans (updTr_steady s hp.film _ ⟨rfl, rfl, rfl, rfl⟩) (passIf_steady _ _ (notTally_proj p _))
    exact ite_steady (fun _ => h1.trans (frameAdvanced_steady _ hp _)) (fun _ => h1.trans (tailoutOf_steady _ hp))
  · exact Steady.refl s

theorem declareLock_steady (s : State) {p : Proj} (hp : S.Has p) : Steady S s (s.declareLock p) := by
  unfold State.declareLock
  split
  · refine ite_steady (fun _ => ?_) (fun _ => Steady.refl s)
    extract_lets due s1
    have h1 : Steady S s s1 := updTr_steady s hp.film _ ⟨rfl, rfl, rfl, rfl⟩
    exact ite_steady (fun _ => h1.trans (updCh_steady _ hp.film _ ⟨rfl, rfl⟩)) (fun _ => h1)
  · exact Steady.refl s

theorem missEdge_steady (s : State) {p : Proj} (hp : S.Has p) : Steady S s (s.missEdge p) :=
  ite_steady (fun _ => loseLock_steady s hp) (fun _ => Steady.refl s)

/-! ### The changeover engine (R25, R130 to R162) -/

theorem doStart_steady (s : State) {p : Proj} (hp : S.film p) : Steady S s (s.doStart p) :=
  ((((updCh_steady s hp _ ⟨rfl, rfl⟩).trans (updTr_steady _ hp _ ⟨rfl, rfl, rfl, rfl⟩)).trans
    (passIf_steady _ _ (notTally_proj p _))).trans (skipAtStart_steady _ hp)).trans (lowTest_steady _ p _)

/-- A START changes no record. -/
theorem doStart_record (s : State) (p : Proj) (r : Rec) (rec : Record) (h : (s.doStart p).eng.records[r] = some rec) :
    ∃ old, s.eng.records[r] = some old ∧ rec = { old with flags := rec.flags } :=
  ((doStart_steady (S := ⟨fun _ => True, fun _ => False, False, False, False⟩) s trivial).olds not_false).2.1 r rec h

/-- A START that is taken finds its projector in READY, and one that is refused changes nothing (R25). -/
theorem requestStart_cases (s : State) (p : Proj) (host : Bool) :
    (s.ch[p].state = .ready ∧ s.requestStart p host = (s.doStart p, .accepted)) ∨ ∃ st, st ≠ .accepted ∧ s.requestStart p host = (s, st) := by
  unfold State.requestStart
  split
  · exact .inr ⟨_, by decide, rfl⟩
  · split
    · exact .inr ⟨_, by decide, rfl⟩
    · split
      · exact .inr ⟨_, by decide, rfl⟩
      · rename_i h
        exact .inl ⟨not_not.1 h, rfl⟩

theorem requestStart_steady (s : State) {p : Proj} (host : Bool) (hp : s.ch[p].state = .ready → S.film p) :
    Steady S s (s.requestStart p host).1 := by
  rcases requestStart_cases s p host with ⟨hr, h⟩ | ⟨st, _, h⟩ <;> rw [h]
  · exact doStart_steady s (hp hr)
  · exact Steady.refl s

/-- A scope in which the engine may start the incoming projector of a record. -/
structure Scope.Starts (S : Scope) (s : State) (r : Rec) : Prop where
  film : ∀ rec, s.eng.records[r] = some rec → s.ch[rec.b].state = .ready → S.film rec.b
  takes : ∀ rec, s.eng.records[r] = some rec → S.Takes rec
  arms : S.arms

theorem Scope.Open.starts {S : Scope} (h : S.Open) (s : State) (r : Rec) : S.Starts s r :=
  ⟨fun rec _ _ => h.film rec.b, fun rec _ => .inl (h.recs rec.a), h.arms⟩

/-- A START that the engine gives is taken by a projector in READY, or ends the record (R137, R138). -/
theorem giveStart_cases (s : State) (r : Rec) (rec : Record) (hrec : s.eng.records[r] = some rec) :
    (s.ch[rec.b].state = .ready ∧ s.giveStart r =
        (s.doStart rec.b).updRec r (fun rec => { rec with state := .starting, startField := some s.field }))
      ∨ s.giveStart r = s.endRecord r .incomingFailed := by
  unfold State.giveStart
  rw [hrec]
  simp only
  rcases requestStart_cases s rec.b false with ⟨hb, h⟩ | ⟨st, hst, h⟩ <;> rw [h]
  · exact .inl ⟨hb, rfl⟩
  · right
    cases st with
    | accepted => exact absurd rfl hst
    | _ => rfl

theorem giveStart_steady (s : State) (r : Rec) (hr : S.Starts s r) : Steady S s (s.giveStart r) := by
  cases hrec : s.eng.records[r] with
  | none =>
    unfold State.giveStart
    rw [hrec]
    exact Steady.refl s
  | some rec =>
    rcases giveStart_cases s r rec hrec with ⟨hb, h⟩ | h <;> rw [h]
    · refine (doStart_steady s (hr.film rec hrec hb)).trans (updRec_steady _ r _ (fun new hnew => ?_) (.inl hr.arms) (.inr ?_))
      · obtain ⟨old, hold, hnew⟩ := doStart_record s rec.b r new hnew
        rw [hnew]
        exact hr.takes old hold
      · exact fun _ h => nomatch h.2
    · exact endRecord_steady s r _ hr.takes

theorem startEvaluation_steady (s : State) (r : Rec) (hr : S.Starts s r) : Steady S s (s.startEvaluation r) := by
  unfold State.startEvaluation
  split
  · exact Steady.refl s
  · refine ite_steady (fun _ => ?_) (fun _ => Steady.refl s)
    split
    · exact Steady.refl s
    · exact ite_steady (fun _ => giveStart_steady s r hr) (fun _ => Steady.refl s)

theorem armedStartTest_steady (s : State) (r : Rec) (reach : Int) (hr : S.Starts s r) : Steady S s (s.armedStartTest r reach) := by
  unfold State.armedStartTest
  split
  · exact Steady.refl s
  · refine ite_steady (fun _ => Steady.refl s) (fun _ => ite_steady (fun _ => giveStart_steady s r hr) (fun _ => ?_))
    let f : Record → Record := fun rec => { rec with flags := { rec.flags with lateStart := true } }
    have hf : Steady S s (s.updRec r f) := updRec_steady s r f hr.takes (.inl hr.arms) (.inr fun _ h => h)
    have hold : ∀ rec, (s.updRec r f).eng.records[r] = some rec → ∃ old, s.eng.records[r] = some old ∧ rec = f old := by
      intro rec h
      simp only [State.updRec_eng, getElem_set_same, Option.map_eq_some_iff] at h
      obtain ⟨old, hold, rfl⟩ := h
      exact ⟨old, hold, rfl⟩
    have htakes : ∀ rec, (s.updRec r f).eng.records[r] = some rec → S.Takes rec := fun rec h => by
      obtain ⟨old, hold, rfl⟩ := hold rec h
      exact hr.takes old hold
    have hlate : S.Starts (s.updRec r f) r := ⟨fun rec h => by
      obtain ⟨old, hold, rfl⟩ := hold rec h
      exact hr.film old hold, htakes, hr.arms⟩
    simp only
    split
    · exact (hf.trans (endRecord_steady _ _ _ htakes)).trans (pass_steady _ (notTally_proj _ _))
    · exact hf.trans (giveStart_steady _ r hlate)

/-- A consumption changes no state of a channel. -/
theorem consume_state (s : State) (p : Proj) (e : CueEntry) (o : CueOutcome) (v : Int) (b : Bool) (q : Proj) :
    (s.consume p e o v b).ch[q].state = s.ch[q].state := by
  obtain ⟨w, hw, _, h⟩ := consume_cases s p e o v b
  have hch : w.ch = s.ch := hw.ch.trans (by unfold State.removeCue; simp only; split <;> rfl)
  rw [h]
  split
  · have := forall_set (R := fun c d : Channel => d.state = c.state) (fun _ => rfl) w.ch p (x := w.ch[p].toManual) rfl q
    rw [hch] at this
    simpa only [State.updCh_ch, hch] using this
  · exact congrArg (fun v : Vector Channel 8 => v[q].state) hch

/-- The scope of an arming attempt: its own list and channel, the projectors that may start, and the record that it fills. -/
structure Scope.ArmsFor (S : Scope) (s : State) (a : Proj) : Prop where
  own : S.Has a
  ready : ∀ b : Proj, s.ch[b].state = .ready → S.film b
  arms : S.arms

theorem armEntry_steady (s : State) {a : Proj} (ha : S.ArmsFor s a) (q : Pos) (r : Rec) (hr : s.eng.records[r] = none) (e : CueEntry)
    (part : ChangePart) : Steady S s (s.armEntry a q r e part) := by
  unfold State.armEntry
  refine ite_steady (fun _ => Steady.refl s) (fun _ => ite_steady (fun _ => ?_) (fun _ => ?_))
  · exact ((consume_steady s ha.own.film _ _ _ _).trans (pass_steady _ (notTally_proj a _))).trans (lowTest_steady _ a _)
  · split
    · exact Steady.refl s
    · rename_i method claim _
      extract_lets rec0 s1 s2
      have h0 : Steady S s (s.setRec r (some rec0)) := fillRec_steady s r rec0 hr ha.arms nofun
      have h1 : Steady S s s1 := h0.trans (consume_steady _ ha.own.film _ _ _ _)
      have h2 : Steady S s s2 ∧ s2.ch = s1.ch ∧ s2.eng = s1.eng := by
        cases claim with
        | none => exact ⟨h1, rfl, rfl⟩
        | some i =>
          exact ⟨h1.trans (updIsl_steady _ i _ (by exact rfl) (.inr (.inl ⟨rfl, rfl, rfl⟩)) (.inl ha.arms)), rfl, rfl⟩
      have hstate : ∀ b : Proj, s1.ch[b].state = s.ch[b].state := consume_state (s.setRec r (some rec0)) a e .armed r.val true
      have hrec : ∀ rec, s2.eng.records[r] = some rec → rec = { rec0 with flags := rec.flags } := by
        intro rec h
        rw [h2.2.2] at h
        have hc := consume_steady (S := ⟨fun _ => True, fun _ => False, False, False, False⟩) (s.setRec r (some rec0)) (p := a) trivial e
          .armed r.val true
        obtain ⟨old, hold, hrec⟩ := (hc.olds not_false).2.1 r rec h
        rw [State.setRec, getElem_set_same] at hold
        cases hold
        exact hrec
      refine (h2.1.trans (armedStartTest_steady _ r _ ⟨fun rec _ hready => ha.ready _ ?_, fun rec h => ?_, ha.arms⟩)).trans
        (lowTest_steady _ a _)
      · rw [h2.2.1, hstate] at hready
        exact hready
      · rw [hrec rec h]
        exact .inl ha.own.recs

theorem armAttempt_steady (s : State) {a : Proj} (ha : S.ArmsFor s a) : Steady S s (s.armAttempt a) := by
  unfold State.armAttempt
  refine ite_steady (fun _ => ?_) (fun _ => Steady.refl s)
  split
  · exact Steady.refl s
  · split
    · exact Steady.refl s
    · refine ite_steady (fun _ => ?_) (fun _ => Steady.refl s)
      split
      · exact Steady.refl s
      · rename_i r hr
        exact armEntry_steady s ha _ r (by simpa using List.find?_some hr) _ _

/-- A record of the table lies in an open scope. -/
theorem Scope.Open.takes {S : Scope} (h : S.Open) (rec : Record) : S.Takes rec := .inl (h.recs rec.a)

theorem Scope.Open.noRecord {S : Scope} (h : S.Open) {s : State} {r : Rec} {P : Prop}
    (hr : ∃ rec, s.eng.records[r] = some rec ∧ ¬S.Takes rec) : P := by
  obtain ⟨rec, _, hn⟩ := hr
  exact absurd (h.takes rec) hn

theorem updRec_open (s : State) (r : Rec) (f : Record → Record) (hS : S.Open) : Steady S s (s.updRec r f) :=
  updRec_steady s r f (fun rec _ => hS.takes rec) (.inl hS.arms) (.inl hS.steps)

theorem endRecord_open (s : State) (r : Rec) (res : Result) (hS : S.Open) : Steady S s (s.endRecord r res) :=
  endRecord_steady s r res fun rec _ => hS.takes rec

theorem decideLock_steady (s : State) (r : Rec) (hS : S.Open) : Steady S s (s.decideLock r) := by
  unfold State.decideLock
  split
  · exact Steady.refl s
  · simp only
    split
    · exact (((updRec_open s r _ hS).trans (pass_steady _ (notTally_proj _ _))).trans (endRecord_open _ _ _ hS)).trans
        (giveStop_steady _ (hS.has _))
    · exact ((updRec_open s r _ hS).trans (updRec_open _ r _ hS)).trans (addDue_steady _ _ hS (.inr (by split <;> nofun)))

theorem switchCutTest_steady (s : State) (r : Rec) (hS : S.Open) : Steady S s (s.switchCutTest r) := by
  unfold State.switchCutTest
  split
  · exact Steady.refl s
  · split
    · refine ite_steady (fun _ => ite_steady (fun _ => ?_) (fun _ => endRecord_open s r _ hS)) (fun _ => Steady.refl s)
      exact Steady.trans (updTake_steady s _ (by exact ⟨rfl, rfl⟩) (.inr rfl) (fun _ h => hS.noRecord h) (fun h => absurd hS.arms h))
        (updRec_open _ r _ hS)
    · exact Steady.refl s

theorem mirrorCutTest_steady (s : State) (r : Rec) (hS : S.Open) : Steady S s (s.mirrorCutTest r) := by
  unfold State.mirrorCutTest
  split
  · exact Steady.refl s
  · split
    · refine ite_steady (fun _ => ite_steady (fun _ => ?_) (fun _ => endRecord_open s r _ hS)) (fun _ => Steady.refl s)
      exact (mirrorCommand_steady s _ _ (.inl hS.steps)).trans (updRec_open _ r _ hS)
    · exact Steady.refl s

theorem enterTailout_steady (s : State) (r : Rec) (hS : S.Open) : Steady S s (s.enterTailout r) := by
  unfold State.enterTailout
  split
  · exact Steady.refl s
  · simp only
    split
    · exact ((updRec_open s r _ hS).trans (releaseClaim_steady _ r)).trans (endRecord_open _ r _ hS)
    · exact ((updRec_open s r _ hS).trans (releaseClaim_steady _ r)).trans (tailoutTest_steady _ r fun _ _ => hS.has _)

theorem abort_steady (s : State) (r : Rec) (hS : S.Open) : Steady S s (s.abort r).1 := by
  unfold State.abort
  split
  · exact Steady.refl s
  · split
    · exact endRecord_open s r _ hS
    · exact (endRecord_open s r _ hS).trans (giveStop_steady _ (hS.has _))
    · exact (endRecord_open s r _ hS).trans (giveStop_steady _ (hS.has _))
    · exact Steady.refl s
    · exact endRecord_open s r _ hS

/-! ### Islands and takes (R82 to R97) -/

theorem raiseMismatch_steady (s : State) (i : Isl) (hS : S.Open) : Steady S s (s.raiseMismatch i) :=
  ((updIsl_steady s i _ (by exact rfl) (.inl hS.steps) (.inr rfl)).trans (pass_steady _ (notTally_mismatch i))).trans
    (engineMismatch_steady _ i fun _ rec _ _ _ => hS.takes rec)

theorem completeMirror_steady (s : State) (i : Isl) (hS : S.Open) : Steady S s (s.completeMirror i) := by
  unfold State.completeMirror
  split
  · exact Steady.refl s
  · refine ite_steady (fun _ => ?_) (fun _ => Steady.refl s)
    have h1 : Steady S s (s.updIsl i (fun u =>
      { u with pending := none, mismatch := u.mismatch && !decide (u.settled = some u.commanded) })) :=
      updIsl_steady s i _ rfl (.inl hS.steps) (.inr rfl)
    simp only
    split
    · exact h1
    · exact ite_steady (fun _ => h1.trans (enterTailout_steady _ _ hS)) (fun _ => h1)

theorem failMirror_steady (s : State) (i : Isl) (hS : S.Open) : Steady S s (s.failMirror i) := by
  unfold State.failMirror
  split
  · exact Steady.refl s
  · exact ite_steady
      (fun _ => (updIsl_steady s i _ (by exact rfl) (.inl hS.steps) (.inr rfl)).trans (raiseMismatch_steady _ i hS))
      (fun _ => Steady.refl s)

/-- A deferral counted leaves an absent request absent. -/
theorem countDeferrals_steady (s : State) (g : Option Origin) (hS : S.Open) : Steady S s (s.countDeferrals g) :=
  foldl_steady (fun s _ _ => ite_steady
    (fun _ => updTake_steady s _ (by exact ⟨rfl, rfl⟩) (.inr rfl) (fun _ h => hS.noRecord h) (fun h => absurd hS.arms h))
    (fun _ => Steady.refl s)) s

theorem judgeWindow_steady (s : State) (hS : S.takes) : Steady S s s.judgeWindow := by
  unfold State.judgeWindow
  split
  · exact Steady.refl s
  · exact (foldl_steady (fun s i _ => passIf_steady s _ (notTally_unconfirmed i)) s).trans
      (updTake_steady' _ _ ⟨rfl, rfl, rfl⟩ (.inl hS))

theorem dropStrobe_steady (s : State) (hS : S.takes) : Steady S s s.dropStrobe := updTake_steady' s _ ⟨rfl, rfl, rfl⟩ (.inl hS)

theorem observeWindow_steady (s : State) (hS : S.takes) : Steady S s s.observeWindow := updTake_steady' s _ ⟨rfl, rfl, rfl⟩ (.inl hS)

theorem grantToRecord_steady (s : State) (r : Rec) (n : Nat) (hS : S.Open) : Steady S s (s.grantToRecord r n) :=
  ite_steady (fun _ => (updRec_open s r _ hS).trans (enterTailout_steady _ r hS)) (fun _ => Steady.refl s)

theorem clearOrigin_settings (t : TakePort) (o : Origin) :
    (t.clearOrigin o).safety = t.safety ∧ (t.clearOrigin o).protectSet = t.protectSet := by
  cases o <;> exact ⟨rfl, rfl⟩

theorem arbitrate_steady (s : State) (hS : S.Open) (ht : S.takes) : Steady S s s.arbitrate := by
  unfold State.arbitrate
  extract_lets s0 s1
  have h0 : Steady S s s0 :=
    ite_steady (fun _ => (judgeWindow_steady s ht).trans (dropDue_steady _ _ hS)) (fun _ => Steady.refl s)
  have h1 : Steady S s s1 :=
    ite_steady (fun _ => (h0.trans (dropStrobe_steady _ ht)).trans (dropDue_steady _ _ hS)) (fun _ => h0)
  split
  · exact h1.trans (countDeferrals_steady _ _ hS)
  · extract_lets handed s2 s3
    have h3 : Steady S s s3 := (h1.trans (countDeferrals_steady _ _ hS)).trans
      (updTake_steady _ _ (clearOrigin_settings _ _) (.inl ht) (fun _ h => hS.noRecord h) (fun h => absurd hS.arms h))
    clear_value handed
    rcases handed with _ | ⟨r, n⟩
    · exact h3
    · exact h3.trans (grantToRecord_steady _ _ _ hS)

theorem takesReact_steady (s : State) (hS : S.Open) (ht : S.takes) : Steady S s s.takesReact :=
  ite_steady (fun _ => addDue_steady s _ hS (.inl ht)) (fun _ => countDeferrals_steady s _ hS)

/-! ### The steps that wait at a boundary -/

theorem endStrike_steady (s : State) {p : Proj} (hp : S.Has p) : Steady S s (s.endStrike p) :=
  ite_steady (fun _ => ite_steady (fun _ => updCh_steady s hp.film _ ⟨rfl, rfl⟩) (fun _ => enterFault_steady s hp _))
    (fun _ => Steady.refl s)

theorem failLamp_steady (s : State) (p : Proj) (hS : S.Open) : Steady S s (s.failLamp p) :=
  ite_steady (fun _ => updCh_steady s (hS.film p) _ ⟨rfl, rfl⟩)
    (fun _ => (enterFault_steady s (hS.has p) _).trans (dropDue_steady _ _ hS))

/-- A waiting step that the take port makes of itself. -/
def Due.ofTake : Due → Bool
  | .takeGrant | .strobeDrop | .windowJudged => true
  | _ => false

theorem effect_steady (s : State) (d : Due) (hS : S.Open) (hd : S.takes ∨ d.ofTake = false) : Steady S s (s.effect d) := by
  cases d with
  | strikeEnd p => exact endStrike_steady s (hS.has p)
  | lampFail p => exact failLamp_steady s p hS
  | runupTimeout p =>
    exact ite_steady (fun _ => (enterFault_steady s (hS.has p) _).trans (dropDue_steady _ _ hS)) (fun _ => Steady.refl s)
  | coastEnd p => exact ite_steady (fun _ => updCh_steady s (hS.film p) _ ⟨rfl, rfl⟩) (fun _ => Steady.refl s)
  | lockDeclared p => exact declareLock_steady s (hS.has p)
  | slipCorrection p => exact correctSlip_steady s (hS.has p)
  | missingEdge p => exact missEdge_steady s (hS.has p)
  | mirrorComplete i => exact completeMirror_steady s i hS
  | mirrorDeadline i => exact failMirror_steady s i hS
  | takeGrant => exact arbitrate_steady s hS (hd.resolve_right nofun)
  | strobeDrop => exact dropStrobe_steady s (hd.resolve_right nofun)
  | windowJudged => exact judgeWindow_steady s (hd.resolve_right nofun)
  | changeoverStart r => exact startEvaluation_steady s r (hS.starts s r)
  | lockDecision r => exact decideLock_steady s r hS
  | switchCut r => exact switchCutTest_steady s r hS
  | mirrorCut r => exact mirrorCutTest_steady s r hS

theorem takeDue_steady (s : State) (d : Due) (hS : S.Open) (hd : S.takes ∨ d.ofTake = false) : Steady S s (s.takeDue d) :=
  ite_steady (fun _ => (dropDue_steady s d hS).trans (effect_steady _ d hS hd)) (fun _ => Steady.refl s)

theorem takeDues_steady (s : State) (ds : List Due) (hS : S.Open) (ht : S.takes) : Steady S s (s.takeDues ds) :=
  foldl_steady (fun s d _ => takeDue_steady s d hS (.inl ht)) s

theorem settle_steady (s : State) (hS : S.Open) (ht : S.takes) : Steady S s s.settle :=
  ite_steady (fun _ => Steady.refl s) (fun _ => (takeDues_steady s _ hS ht).trans
    (setDue_steady _ _ hS.steps (.inl ht) fun _ rec _ hn => absurd (hS.takes rec) hn))

end Sys2Proof.Machine
end

section
/-! Who may change a setting: no event of the station, no step of a boundary, and no command but the setting ones. -/

namespace Sys2Proof.Machine
open Sys2Proof.Claims

namespace SameSettings
variable {s t u : State}

theorem refl (s : State) : SameSettings s s where
  standard := rfl
  config _ := rfl
  lockParams _ := ⟨rfl, rfl, rfl⟩
  period _ := rfl
  signature _ := ⟨rfl, rfl⟩
  route := rfl
  source _ := ⟨rfl, rfl⟩
  safety := ⟨rfl, rfl⟩
  low := rfl
  horizon := rfl
  enables _ := rfl
  line := ⟨rfl, rfl, rfl⟩

theorem trans (h : SameSettings s t) (k : SameSettings t u) : SameSettings s u where
  standard := k.standard.trans h.standard
  config p := (k.config p).trans (h.config p)
  lockParams p := by
    obtain ⟨h1, h2, h3⟩ := h.lockParams p
    obtain ⟨k1, k2, k3⟩ := k.lockParams p
    exact ⟨k1.trans h1, k2.trans h2, k3.trans h3⟩
  period p := (k.period p).trans (h.period p)
  signature p := ⟨(k.signature p).1.trans (h.signature p).1, (k.signature p).2.trans (h.signature p).2⟩
  route := k.route.trans h.route
  source i := ⟨(k.source i).1.trans (h.source i).1, (k.source i).2.trans (h.source i).2⟩
  safety := ⟨k.safety.1.trans h.safety.1, k.safety.2.trans h.safety.2⟩
  low := k.low.trans h.low
  horizon := k.horizon.trans h.horizon
  enables a := (k.enables a).trans (h.enables a)
  line := by
    obtain ⟨h1, h2, h3⟩ := h.line
    obtain ⟨k1, k2, k3⟩ := k.line
    exact ⟨k1.trans h1, k2.trans h2, k3.trans h3⟩

end SameSettings

/-- The scope that leaves nothing out. -/
def Scope.any : Scope := ⟨fun _ => True, fun _ => True, True, True, True⟩

theorem any_open : Scope.any.Open := ⟨fun _ => trivial, fun _ => trivial, trivial, trivial⟩

theorem any_film (p : Proj) : Scope.any.film p := trivial

theorem any_has (p : Proj) : Scope.any.Has p := any_open.has p

theorem any_takes : Scope.any.takes := trivial

theorem addDue_any (s : State) (d : Due) : Steady .any s (s.addDue d) := addDue_steady s d any_open (.inl any_takes)

theorem addDueIf_any (s : State) (c : Bool) (d : Due) : Steady .any s (s.addDueIf c d) :=
  addDueIf_steady s c d any_open (.inl any_takes)

theorem updTake_any (s : State) (f : TakePort → TakePort)
    (hf : (f s.take).safety = s.take.safety ∧ (f s.take).protectSet = s.take.protectSet) : Steady .any s (s.updTake f) :=
  updTake_steady s f hf (.inl any_takes) (fun _ h => any_open.noRecord h) (fun h => absurd any_open.arms h)

/-! ### Plain updates that change no setting -/

theorem updTb_settings (s : State) (f : Timebase → Timebase) (hf : (f s.tb).standard = s.tb.standard) : SameSettings s (s.updTb f) :=
  { SameSettings.refl s with standard := hf }

/-- The clock, the inputs, the waiting steps and the waiting commands hold no setting. -/
theorem rest_settings {s t : State} (h : t = { s with
    now := t.now, pins := t.pins, resetHeld := t.resetHeld, estop := t.estop, due := t.due, unmoved := t.unmoved
    pending := t.pending }) : SameSettings s t := by
  rw [h]
  exact { SameSettings.refl s with }

theorem updCh_settings (s : State) (p : Proj) (f : Channel → Channel) (hf : (f s.ch[p]).config = s.ch[p].config) :
    SameSettings s (s.updCh p f) :=
  { SameSettings.refl s with
    config := forall_set (R := fun c d : Channel => d.config = c.config) (fun _ => rfl) s.ch p hf }

theorem updLine_settings (s : State) (f : Line → Line)
    (hf : (f s.line).own = s.line.own ∧ (f s.line).rate = s.line.rate ∧ (f s.line).mask = s.line.mask) :
    SameSettings s (s.updLine f) :=
  { SameSettings.refl s with line := hf }

theorem readPins_settings (s : State) (pins : Pins) : SameSettings s (s.readPins pins) := by
  have h : Steady .any { s with pins := pins } (s.readPins pins) :=
    foldl_steady (fun s p _ => ite_steady (fun _ => updDet_steady s (any_film p) _ ⟨rfl, rfl⟩) (fun _ => Steady.refl s)) _
  exact (show SameSettings s { s with pins := pins } from rest_settings rfl).trans h.settings

/-! ### Time and arrival -/

theorem settle_settings (s : State) : SameSettings s s.settle := (settle_steady s any_open any_takes).settings

theorem passTo_settings (s : State) (t : Nat) : SameSettings s (s.passTo t) := by
  unfold State.passTo
  split
  · exact (settle_settings s).trans (rest_settings rfl)
  · exact SameSettings.refl s

theorem arriveAt_settings (s : State) (t : Nat) (pins : Pins) : SameSettings s (s.arriveAt t pins) :=
  ((passTo_settings s t).trans (readPins_settings _ pins)).trans (takeFound_steady _ any_open).settings

theorem arrive_settings (s : State) (m : Moment) : SameSettings s (s.arrive m) := arriveAt_settings s _ _

/-! ### The reactions to a boundary -/

theorem trackerReact_settings (s : State) (p : Proj) : SameSettings s (s.trackerReact p) := by
  unfold State.trackerReact
  extract_lets s0 n slip lock s1
  have h0 : SameSettings s s0 := rest_settings rfl
  have h1 : Steady .any s0 s1 := ite_steady (fun _ => addDue_any _ _) (fun _ => cadenceAdvance_steady _ (any_has p))
  exact h0.trans ((h1.trans (addDueIf_any _ _ _)).trans (addDueIf_any _ _ _)).settings

theorem channelReact_settings (s : State) (p : Proj) : SameSettings s (s.channelReact p) := by
  unfold State.channelReact
  extract_lets flags s1 c lampDue inputs strikeDue coastDue
  have h1 : SameSettings s s1 := updCh_settings s p _ rfl
  have h2 : Steady .any s1 (if inputs ≠ [] then s1.enterFault p (inputs ++ c.countFaults lampDue true)
      else (((s1.addDueIf strikeDue (.strikeEnd p)).addDueIf lampDue (.lampFail p)).addDueIf c.runupOut (.runupTimeout p)).addDueIf
        coastDue (.coastEnd p)) :=
    ite_steady (fun _ => enterFault_steady s1 (any_has p) _) (fun _ =>
      (((addDueIf_any s1 _ _).trans (addDueIf_any _ _ _)).trans (addDueIf_any _ _ _)).trans (addDueIf_any _ _ _))
  exact h1.trans h2.settings

theorem updIsl_settings (s : State) (i : Isl) (f : Island → Island)
    (hf : (f s.isl[i]).source = s.isl[i].source ∧ (f s.isl[i]).travel = s.isl[i].travel) : SameSettings s (s.updIsl i f) :=
  { SameSettings.refl s with
    source := forall_set (R := fun x y : Island => y.source = x.source ∧ y.travel = x.travel) (fun _ => ⟨rfl, rfl⟩) s.isl i hf }

theorem readMirror_settings (s : State) (i : Isl) : SameSettings s (s.readMirror i) := by
  unfold State.readMirror
  extract_lets u reading settled home drift s1 s2
  have h1 : SameSettings s s1 := updIsl_settings s i _ ⟨rfl, rfl⟩
  have h2 : Steady .any s1 s2 := ite_steady (fun _ => raiseMismatch_steady s1 i any_open) (fun _ => Steady.refl s1)
  split
  · exact h1.trans h2.settings
  · exact h1.trans (h2.trans (ite_steady (fun _ => addDue_any _ _) (fun _ => addDueIf_any _ _ _))).settings

theorem pass_settings (s : State) (a : AlarmId) : SameSettings s (s.pass a) := by
  have h := pass_notified s a
  exact {
    standard := by rw [h.tb]
    config := fun p => by rw [h.ch]
    lockParams := fun p => by rw [h.tr]; exact ⟨rfl, rfl, rfl⟩
    period := fun p => by rw [h.tr]
    signature := fun p => by rw [h.det]; exact ⟨rfl, rfl⟩
    route := h.route
    source := fun i => by rw [h.isl]; exact ⟨rfl, rfl⟩
    safety := by rw [h.take]; exact ⟨rfl, rfl⟩
    low := by rw [h.cues]
    horizon := by rw [h.eng]
    enables := h.enabled
    line := by rw [h.eq]; exact ⟨rfl, rfl, rfl⟩ }

theorem passIf_settings (s : State) (c : Bool) (a : AlarmId) : SameSettings s (s.passIf c a) := by
  unfold State.passIf
  split
  · exact pass_settings s a
  · exact SameSettings.refl s

theorem readTally_settings (s : State) (i : Isl) : SameSettings s (s.readTally i) := by
  unfold State.readTally
  extract_lets before now s1
  have h1 : SameSettings s s1 := updIsl_settings s i _ ⟨rfl, rfl⟩
  clear_value before
  rcases before with _ | b
  · exact h1
  · simp only
    split
    · exact h1
    · unfold State.judgeTally
      simp only
      split
      · exact h1
      · exact h1.trans (pass_settings _ _)

theorem foldl_settings {α : Type} {f : State → α → State} (hf : ∀ s x, SameSettings s (f s x)) (l : List α) (s : State) :
    SameSettings s (l.foldl f s) := by
  induction l generalizing s with
  | nil => exact SameSettings.refl s
  | cons x l ih => exact (hf s x).trans (ih _)

theorem islandsReact_settings (s : State) : SameSettings s s.islandsReact :=
  (foldl_settings (fun s i => (readMirror_settings s i).trans (readTally_settings _ i)) allIsl s).trans
    (observeWindow_steady (S := .any) _ any_takes).settings

theorem partReact_settings (s : State) (x : Part) : SameSettings s (s.partReact x) := by
  cases x with
  | tracker p => exact trackerReact_settings s p
  | channel p => exact channelReact_settings s p
  | islands => exact islandsReact_settings s
  | arming p => exact (armAttempt_steady s ⟨any_has p, fun q _ => any_film q, any_open.arms⟩).settings
  | take => exact (takesReact_steady s any_open any_takes).settings
  | step d => exact (takeDue_steady s d any_open (.inl any_takes)).settings

theorem react_settings (s : State) (o : BoundaryOrder) : SameSettings s (s.react o) := foldl_settings partReact_settings _ s

theorem beginField_settings (s : State) (inSync : Bool) : SameSettings s (s.beginField inSync) := by
  unfold State.beginField
  extract_lets s0 s1 windowDue engine
  have h1 : SameSettings s0 s1 := { SameSettings.refl s0 with
    source := fun i => by
      show s1.isl[i].source = _ ∧ s1.isl[i].travel = _
      rw [show s1.isl[i] = _ from ageTallies_isl _ i]
      exact ⟨rfl, rfl⟩ }
  have h2 : SameSettings s1 { s1 with due := engine, unmoved := allProj } := rest_settings rfl
  exact (((settle_settings s).trans h1).trans h2).trans
    ((addDueIf_any _ _ _).trans (addDueIf_any _ _ _)).settings

theorem boundary_settings (s : State) (inSync : Bool) (o : BoundaryOrder) : SameSettings s (s.boundary inSync o) :=
  (beginField_settings s inSync).trans (react_settings _ o)

/-! ### The station's events -/

theorem pulse_settings (s : State) (o : BoundaryOrder) : SameSettings s (s.pulse o) := by
  unfold State.pulse
  split
  · exact (updTb_settings s _ (by exact rfl)).trans (boundary_settings _ _ _)
  · simp only
    split
    · unfold State.enterSync
      extract_lets restored merged s1
      have h1 : SameSettings s s1 := updTb_settings s _ rfl
      split
      · exact h1.trans (passIf_settings _ _ _)
      · exact ((h1.trans (beginField_settings _ _)).trans (passIf_settings _ _ _)).trans (react_settings _ _)
    · exact updTb_settings s _ rfl

theorem internalBoundary_settings (s : State) (pins : Pins) (o : BoundaryOrder) : SameSettings s (s.internalBoundary pins o) := by
  unfold State.internalBoundary
  split
  · exact SameSettings.refl s
  · extract_lets s1
    have h1 : SameSettings s s1 := arriveAt_settings s _ pins
    clear_value s1
    exact (h1.trans (updTb_settings s1 _ (by exact rfl))).trans (boundary_settings _ _ _)

theorem loseSync_settings (s : State) (pins : Pins) (o : BoundaryOrder) : SameSettings s (s.loseSync pins o) := by
  unfold State.loseSync
  split
  · extract_lets due s1 s2
    have h1 : SameSettings s s1 := arriveAt_settings s _ pins
    clear_value s1
    have h2 : SameSettings s s2 := h1.trans (updTb_settings s1 _ rfl)
    exact ((h2.trans (beginField_settings _ _)).trans (pass_settings _ _)).trans (react_settings _ _)
  · exact SameSettings.refl s

theorem perforation_settings (s : State) (p : Proj) (forward : Bool) : SameSettings s (s.perforation p forward) := by
  unfold State.perforation
  extract_lets g carry s1 s2
  have h1 : SameSettings s s1 := updCh_settings s p _ rfl
  have h2 : Steady .any s1 s2 := updTr_steady s1 trivial _ ⟨rfl, rfl, rfl, rfl⟩
  exact h1.trans (ite_steady (fun _ => h2.trans (ite_steady (fun _ => frameUp_steady _ (any_has p)) (fun _ => frameDown_steady _ (any_has p))))
    (fun _ => h2)).settings

/-- The assertion of the ESTOP line, the line itself apart (R34). -/
theorem assertEstop_steady (s : State) : Steady .any { s with estop := true } s.assertEstop := by
  unfold State.assertEstop
  extract_lets s1 s2 s3 s4
  have h1 : Steady .any { s with estop := true } s1 := pass_steady _ (notTally_dev _)
  have h2 : Steady .any s1 s2 := foldl_steady (fun s p _ =>
    (updCh_steady s (any_film p) _ (by exact ⟨rfl, rfl⟩)).trans (updTr_steady _ (any_film p) _ ⟨rfl, rfl, rfl, rfl⟩)) s1
  have h3 : Steady .any s2 s3 := updTake_any _ _ ⟨rfl, rfl⟩
  have h4 : Steady .any s3 s4 := foldl_steady (fun s p _ => protect_steady s p .estop) s3
  exact (((h1.trans h2).trans h3).trans h4).trans (endAllRecords_steady _ _ any_open)

theorem assertEstop_settings (s : State) : SameSettings s s.assertEstop :=
  (show SameSettings s { s with estop := true } from rest_settings rfl).trans (assertEstop_steady s).settings

theorem assertEstopInReset_settings (s : State) : SameSettings s s.assertEstopInReset := by
  obtain ⟨h1, h2, h3, h4, h5, h6, h7, h8, h9, h10, -, -⟩ := assertEstop_settings s
  rw [assertEstopInReset_eq]
  generalize s.assertEstop = t at *
  exact ⟨h1, h2, h3, h4, h5, h6, h7, h8, h9, h10, fun _ => rfl, ⟨rfl, rfl, rfl⟩⟩

/-! ### The commands of the line that set nothing -/

theorem requestEach_settings {req : State → Proj → State × Status} (hreq : ∀ s p, SameSettings s (req s p).1) (l : List Proj)
    (s : State) : SameSettings s (s.requestEach req l).1 := by
  induction l generalizing s with
  | nil => exact SameSettings.refl s
  | cons p l ih => exact (hreq s p).trans (ih _)

theorem forProjectors_settings {req : State → Proj → State × Status} (hreq : ∀ s p, SameSettings s (req s p).1) (b : Byte) (s : State) :
    SameSettings s (forProjectors req b s).state := by
  unfold forProjectors
  split
  · exact requestEach_settings hreq allProj s
  · split
    · exact SameSettings.refl s
    · exact hreq s _

theorem forProjector_settings {req : State → Proj → State × Status} (hreq : ∀ s p, SameSettings s (req s p).1) (b : Byte) (s : State) :
    SameSettings s (forProjector req b s).state := by
  unfold forProjector
  split
  · exact SameSettings.refl s
  · exact hreq s _

theorem requestLamp_settings (lamp : Byte) (s : State) (p : Proj) : SameSettings s (s.requestLamp lamp p).1 := by
  unfold State.requestLamp
  split
  · unfold State.requestLampOn
    split
    · exact SameSettings.refl s
    · split
      case h_1 =>
        dsimp only [State.answer]
        exact updCh_settings s p _ rfl
      case h_6 => split <;> exact SameSettings.refl s
      case h_7 => split <;> exact SameSettings.refl s
      all_goals exact SameSettings.refl s
  · split
    · unfold State.requestLampOff
      split
      · exact SameSettings.refl s
      · split
        · exact SameSettings.refl s
        · split
          case h_1 | h_4 | h_5 => exact SameSettings.refl s
          all_goals
            dsimp only [State.answer]
            exact updCh_settings s p _ rfl
    · exact SameSettings.refl s

theorem requestInch_settings (s : State) (p : Proj) (forward : Bool) : SameSettings s (s.requestInch p forward).1 := by
  unfold State.requestInch
  split
  · exact SameSettings.refl s
  · split
    · exact SameSettings.refl s
    · split
      · dsimp only [State.answer]
        exact updCh_settings s p _ rfl
      · exact SameSettings.refl s

theorem requestInchStop_settings (s : State) (p : Proj) : SameSettings s (s.requestInchStop p).1 := by
  unfold State.requestInchStop
  split
  · exact SameSettings.refl s
  · split
    · exact SameSettings.refl s
    · split
      · dsimp only [State.answer]
        exact updCh_settings s p _ rfl
      · exact SameSettings.refl s

theorem clearFault_config (c : Channel) (lampok : Bool) : (c.clearFault lampok).config = c.config := by
  unfold Channel.clearFault
  split <;> rfl

theorem requestClear_settings (s : State) (p : Proj) : SameSettings s (s.requestClear p).1 := by
  unfold State.requestClear
  split
  · exact SameSettings.refl s
  · split
    · exact SameSettings.refl s
    · split
      · exact SameSettings.refl s
      · split
        · exact SameSettings.refl s
        · dsimp only [State.answer]
          exact updCh_settings s p _ (clearFault_config _ _)

theorem cmdInch_settings (projector direction : Byte) (s : State) : SameSettings s (cmdInch projector direction s).state := by
  unfold cmdInch
  split
  · exact forProjector_settings requestInchStop_settings _ s
  · split
    · exact forProjector_settings (fun s p => requestInch_settings s p true) _ s
    · split
      · exact forProjector_settings (fun s p => requestInch_settings s p false) _ s
      · exact SameSettings.refl s

theorem cmdSetMode_settings (projector mode : Byte) (s : State) : SameSettings s (cmdSetMode projector mode s).state := by
  unfold cmdSetMode
  split
  · split
    · exact SameSettings.refl s
    · dsimp only [State.answer]
      exact updCh_settings s _ _ rfl
  · exact SameSettings.refl s

theorem cmdPreset_settings (projector : Byte) (frame : BitVec 24) (s : State) :
    SameSettings s (cmdPreset projector frame s).state := by
  unfold cmdPreset
  split
  · exact SameSettings.refl s
  · rename_i p _
    have h : Steady .any s (s.doPreset p frame.toInt) :=
      ((updTr_steady s trivial _ (by exact ⟨rfl, rfl, rfl, rfl⟩)).trans (updDet_steady _ trivial _ ⟨rfl, rfl⟩)).trans (lowTest_steady _ p _)
    simp only
    split
    · exact SameSettings.refl s
    · split
      · exact SameSettings.refl s
      · split
        · exact SameSettings.refl s
        · split
          · exact SameSettings.refl s
          · exact h.settings

theorem cmdDeleteCue_settings (cue : BitVec 16) (s : State) : SameSettings s (cmdDeleteCue cue s).state := by
  unfold cmdDeleteCue
  split
  · exact SameSettings.refl s
  · rename_i p _
    exact ((removeCue_steady s (any_film p) _).trans (lowTest_steady _ p _)).settings

theorem cmdClearCues_settings (projector : Byte) (s : State) : SameSettings s (cmdClearCues projector s).state := by
  unfold cmdClearCues
  split
  · exact SameSettings.refl s
  · rename_i p _
    exact ((setCues_steady s (any_film p) _ _ fun _ he => absurd he List.not_mem_nil).trans (lowTest_steady _ p _)).settings

theorem cmdQueryCues_state (projector start : Byte) (s : State) : (cmdQueryCues projector start s).state = s := by
  unfold cmdQueryCues
  split <;> rfl

theorem cmdAbortChange_settings (cue : BitVec 16) (s : State) : SameSettings s (cmdAbortChange cue s).state := by
  unfold cmdAbortChange
  split
  · exact SameSettings.refl s
  · exact (abort_steady s _ any_open).settings

theorem cmdTake_settings (source : Byte) (s : State) : SameSettings s (cmdTake source s).state := by
  unfold cmdTake
  split
  · exact SameSettings.refl s
  · split
    · exact SameSettings.refl s
    · dsimp only [State.answer]
      exact (updTake_any s _ ⟨rfl, rfl⟩).settings

theorem cmdMirror_settings (island port : Byte) (s : State) : SameSettings s (cmdMirror island port s).state := by
  unfold cmdMirror
  split
  · split
    · exact SameSettings.refl s
    · exact (mirrorCommand_steady (S := .any) s _ _ (.inl any_open.steps)).settings
  · exact SameSettings.refl s

theorem cmdQueryProjector_settings (projector clearFlag : Byte) (s : State) :
    SameSettings s (cmdQueryProjector projector clearFlag s).state := by
  unfold cmdQueryProjector
  split
  · rename_i p _ _ _
    exact (ite_steady (fun _ => updTr_steady s (any_film p) _ ⟨rfl, rfl, rfl, rfl⟩) (fun _ => Steady.refl s)).settings
  · exact SameSettings.refl s

theorem cmdQueryIsland_state (island : Byte) (s : State) : (cmdQueryIsland island s).state = s := by
  unfold cmdQueryIsland
  split <;> rfl

theorem cmdQueryDevice_settings (clearFlag : Byte) (s : State) : SameSettings s (cmdQueryDevice clearFlag s).state := by
  unfold cmdQueryDevice
  split
  · exact SameSettings.refl s
  · simp only
    split
    · exact updLine_settings s _ ⟨rfl, rfl, rfl⟩
    · exact SameSettings.refl s

theorem cmdQueryAlarms_state (unit : Byte) (s : State) : (cmdQueryAlarms unit s).state = s := by
  unfold cmdQueryAlarms
  split <;> rfl

/-- An acknowledgement touches no enable (R170). -/
theorem ackLatches_settings (s : State) (targets : List AlarmId) : SameSettings s (s.ackLatches targets) := by
  have h : ∀ (l : List AlarmId) (u : AlarmUnit) (b : AlarmId),
      ((l.foldl (fun u a => u.put a { u.get a with set := false, count := 0 }) u).get b).enabled = (u.get b).enabled := by
    intro l
    induction l with
    | nil => intro u b; rfl
    | cons a l ih =>
      intro u b
      rw [List.foldl_cons, ih]
      by_cases hb : b = a
      · subst hb; rw [AlarmUnit.get_put_same]
      · rw [AlarmUnit.get_put_other _ _ hb]
  exact { SameSettings.refl s with
    enables := fun a => by
      show ((AlarmUnit.refresh _).get a).enabled = _
      rw [AlarmUnit.get_refresh, h] }

theorem cmdAckAlarms_settings (unit : Byte) (kinds : BitVec 32) (s : State) : SameSettings s (cmdAckAlarms unit kinds s).state := by
  unfold cmdAckAlarms
  split
  · exact SameSettings.refl s
  · exact ackLatches_settings s _

theorem cmdPoll_settings (s : State) : SameSettings s (cmdPoll s).state := by
  unfold cmdPoll
  split
  · exact SameSettings.refl s
  · dsimp only [State.answer]
    exact updLine_settings s _ ⟨rfl, rfl, rfl⟩

theorem restart_same (c : Channel) : c.Same c.restart := by
  unfold Channel.restart
  split <;> exact ⟨rfl, rfl⟩

theorem cmdRestart_settings (s : State) : SameSettings s (cmdRestart s).state := by
  have h1 : Steady .any s (allProj.foldl (fun s p => s.restartProjector p) s) :=
    foldl_steady (fun s p _ => ((updCh_steady s (any_film p) _ (restart_same _)).trans
      (updTr_steady _ (any_film p) _ (by exact ⟨rfl, rfl, rfl, rfl⟩))).trans (updDet_steady _ (any_film p) _ ⟨rfl, rfl⟩)) s
  exact ((h1.trans (updTake_any _ _ (by exact ⟨rfl, rfl⟩))).trans (endAllRecords_steady _ _ any_open)).settings

/-! ### Frames and replies -/

theorem event_settings {s t : State} {f : State → State} (hf : SameSettings s (f s)) (h : s.event f = .next t) : SameSettings s t := by
  unfold State.event at h
  cases h
  split
  · exact SameSettings.refl s
  · exact hf

theorem takeVia_settings {cmd : State → Answer} (hcmd : ∀ s, SameSettings s (cmd s).state) (s : State) (via : Via) (code : Byte) :
    SameSettings s (s.takeVia via code cmd) := by
  have hcount : ∀ s : State, SameSettings s s.countTaken := fun s => updLine_settings s _ ⟨rfl, rfl, rfl⟩
  have hexpire : SameSettings s s.expireReply := by
    rw [expireReply_eq]
    exact { SameSettings.refl s with line := ⟨rfl, rfl, rfl⟩ }
  cases via with
  | group => exact (hcount s).trans (hcmd _)
  | individual =>
    show SameSettings s (s.takeIndividual code cmd)
    unfold State.takeIndividual
    simp only
    split
    · exact (hexpire.trans (updLine_settings _ _ (by exact ⟨rfl, rfl, rfl⟩))).trans (pass_settings _ _)
    · exact ((hexpire.trans (hcount _)).trans (hcmd _)).trans (updLine_settings _ _ (by exact ⟨rfl, rfl, rfl⟩))

theorem message_settings {cmd : State → Answer} (hcmd : ∀ s, SameSettings s (cmd s).state) {s t : State} {m : Moment} {via : Via}
    {code : Byte} (h : s.message m via code cmd = .next t) : SameSettings s t :=
  event_settings ((arrive_settings s m).trans (takeVia_settings hcmd _ via code)) h

theorem silence_settings (s : State) : SameSettings s s.silence := by
  have hrx : ∀ rx, SameSettings s (s.setRx rx) := fun rx => updLine_settings s _ ⟨rfl, rfl, rfl⟩
  unfold State.silence
  split
  · exact SameSettings.refl s
  · exact ((hrx _).trans (updLine_settings _ _ (by exact ⟨rfl, rfl, rfl⟩))).trans (pass_settings _ _)
  · exact hrx _
  · exact hrx _

theorem beginReply_settings (s : State) (wait : Nat) : SameSettings s (s.beginReply wait) := by
  unfold State.beginReply
  split
  · exact SameSettings.refl s
  · split
    · exact SameSettings.refl s
    · exact (passTo_settings s _).trans (updLine_settings _ _ ⟨rfl, rfl, rfl⟩)

theorem endReply_settings (s : State) : SameSettings s s.endReply := by
  unfold State.endReply
  split
  · exact SameSettings.refl s
  · split
    · exact SameSettings.refl s
    · exact (passTo_settings s _).trans (updLine_settings _ _ ⟨rfl, rfl, rfl⟩)

theorem holdReset_settings (s : State) : SameSettings s s.holdReset :=
  { SameSettings.refl s with enables := fun a => by cases a <;> rfl }

theorem estopAsserted_settings {s t : State} {m : Moment} (h : execEstopAsserted m s = .next t) : SameSettings s t := by
  unfold execEstopAsserted at h
  split at h
  · cases h
    split
    · exact SameSettings.refl s
    · exact assertEstopInReset_settings s
  · refine event_settings ((arrive_settings s m).trans ?_) h
    generalize s.arrive m = u
    show SameSettings u (if u.estop then u else u.assertEstop)
    split
    · exact SameSettings.refl u
    · exact assertEstop_settings u

theorem estopReleased_settings {s t : State} {m : Moment} (h : execEstopReleased m s = .next t) : SameSettings s t := by
  unfold execEstopReleased at h
  split at h
  · cases h
    exact { SameSettings.refl s with }
  · refine event_settings ((arrive_settings s m).trans ?_) h
    generalize s.arrive m = u
    show SameSettings u (if u.estop then { u with estop := false }.pass (.dev .estopReleased) else u)
    split
    · exact (show SameSettings u { u with estop := false } from rest_settings rfl).trans (pass_settings _ _)
    · exact SameSettings.refl u

/-- A waiting step that its row takes. -/
theorem takeDue_settings (s : State) (d : Due) : SameSettings s (s.takeDue d) := (takeDue_steady s d any_open (.inl any_takes)).settings

theorem shutterEdge_settings (s : State) (m : Moment) (p : Proj) : SameSettings s (((s.arrive m).takeDues (trackerSteps p)).edge p) :=
  (arrive_settings s m).trans ((takeDues_steady _ _ any_open any_takes).trans (edge_steady _ (any_has p))).settings

/-- The CUE input read as asserted, and the latch that it sets (R67). -/
theorem cueSet_settings (u : State) (p : Proj) (q : ProjPins) :
    SameSettings u ({ u with pins := { u.pins with proj := u.pins.proj.set p q } }.updDet p (fun d => { d with latch := true })) :=
  (show SameSettings u { u with pins := { u.pins with proj := u.pins.proj.set p q } } from rest_settings rfl).trans
    (updDet_steady _ (any_film p) _ ⟨rfl, rfl⟩).settings

theorem cueInputAsserted_settings {s t : State} {m : Moment} {p : Proj} (h : execCueInputAsserted m p s = .next t) :
    SameSettings s t := by
  unfold execCueInputAsserted at h
  refine event_settings ?_ h
  have harrive := arrive_settings s m
  generalize s.arrive m = u at *
  exact harrive.trans (cueSet_settings u p _)

theorem lineSilence_settings (s : State) :
    SameSettings s (if s.line.rx = .idle then s else (s.passTo (s.line.lastByte + 3 * s.line.char)).silence) := by
  split
  · exact SameSettings.refl s
  · exact (passTo_settings s _).trans (silence_settings _)

end Sys2Proof.Machine

section
open Sys2Proof Sys2Proof.Machine Sys2Proof.Claims

/-- Settles O58: row by row, each event and each command that is no setting command through operations that keep the settings. -/
theorem settingsChangeOnlyBySettings : Obligations.SettingsChangeOnlyBySettings := by
  intro i s t hset h
  cases i with
  | setStandard | setRoute | setIsland | setProjector | setSignature | setSafety | setHorizon | setMask | setReport | setGroup
  | loadCues | reset | lineByte => exact absurd trivial hset
  | fldPulse m o =>
    exact event_settings (f := fun s => (s.arrive m).pulse o) ((arrive_settings s m).trans (pulse_settings _ o)) h
  | internalTick pins o =>
    exact event_settings (f := fun s => s.internalBoundary pins o) (internalBoundary_settings s pins o) h
  | syncLost pins o => exact event_settings (f := fun s => s.loseSync pins o) (loseSync_settings s pins o) h
  | perfPulse m p =>
    exact event_settings (f := fun s => (s.arrive m).perforation p m.pins.proj[p].forward)
      ((arrive_settings s m).trans (perforation_settings _ p _)) h
  | shutterEdge m p =>
    exact event_settings (f := fun s => ((s.arrive m).takeDues (trackerSteps p)).edge p) (shutterEdge_settings s m p) h
  | cueInputAsserted m p => exact cueInputAsserted_settings h
  | estopAsserted m => exact estopAsserted_settings h
  | estopReleased m => exact estopReleased_settings h
  | lineSilenceTimeout =>
    exact event_settings (f := fun s => if s.line.rx = .idle then s else (s.passTo (s.line.lastByte + 3 * s.line.char)).silence)
      (lineSilence_settings s) h
  | replyComplete => exact event_settings (f := State.endReply) (endReply_settings s) h
  | strikeEnd | lampFail | runupTimeout | coastEnd | lockDeclared | slipCorrection | missingEdge | mirrorComplete | mirrorDeadline
  | takeGrant | takeStrobeDrop | takeWindowJudged | changeoverStart | lockDecision | switchCutPost | mirrorCut =>
    exact event_settings (f := fun s => s.takeDue _) (takeDue_settings s _) h
  | lampOn m via b => exact message_settings (forProjectors_settings (requestLamp_settings 1) b) h
  | lampOff m via b => exact message_settings (forProjectors_settings (requestLamp_settings 0) b) h
  | start m via b =>
    exact message_settings
      (forProjectors_settings (fun s p => (requestStart_steady (S := .any) s true fun _ => any_film p).settings) b) h
  | stop m via b => exact message_settings (forProjectors_settings (fun s p => (requestStop_steady s (any_has p)).settings) b) h
  | inchForward m b => exact message_settings (cmdInch_settings b 1) h
  | inchReverse m b => exact message_settings (cmdInch_settings b 2) h
  | inchStop m b => exact message_settings (cmdInch_settings b 0) h
  | clear m b => exact message_settings (forProjector_settings requestClear_settings b) h
  | setMode m via b x => exact message_settings (cmdSetMode_settings b x) h
  | preset m b f => exact message_settings (cmdPreset_settings b f) h
  | deleteCue m c => exact message_settings (cmdDeleteCue_settings c) h
  | clearCues m b => exact message_settings (cmdClearCues_settings b) h
  | queryCues m b x => exact message_settings (fun s => by rw [cmdQueryCues_state]; exact SameSettings.refl s) h
  | abortChange m c => exact message_settings (cmdAbortChange_settings c) h
  | queryChanges m => exact message_settings (fun s => SameSettings.refl s) h
  | take m b => exact message_settings (cmdTake_settings b) h
  | mirror m b x => exact message_settings (cmdMirror_settings b x) h
  | queryProjector m b x => exact message_settings (cmdQueryProjector_settings b x) h
  | queryIsland m b => exact message_settings (fun s => by rw [cmdQueryIsland_state]; exact SameSettings.refl s) h
  | queryDevice m b => exact message_settings (cmdQueryDevice_settings b) h
  | queryAlarms m b => exact message_settings (fun s => by rw [cmdQueryAlarms_state]; exact SameSettings.refl s) h
  | ackAlarms m b k => exact message_settings (cmdAckAlarms_settings b k) h
  | poll m => exact message_settings cmdPoll_settings h
  | restart m via => exact message_settings cmdRestart_settings h
  | resetAsserted m =>
    exact event_settings (f := fun s => (s.arrive m).holdReset) ((arrive_settings s m).trans (holdReset_settings _)) h
  | replyStart wait => exact event_settings (f := fun s => s.beginReply wait) (beginReply_settings s wait) h

end
end

section
/-! RESET, its assertion, and the ESTOP line (R3, R34, R164, R176). -/

namespace Sys2Proof.Machine
open Sys2Proof.Claims

/-- A fold of operations that each work on one place: every place named once is worked on once. -/
theorem foldl_places {ι α : Type} [DecidableEq ι] {f : State → ι → State} {get : State → ι → α} {g : ι → α → α}
    (hsame : ∀ s i, get (f s i) i = g i (get s i)) (hother : ∀ s i j, j ≠ i → get (f s i) j = get s j) (l : List ι)
    (hl : l.Nodup) (s : State) (i : ι) : get (l.foldl f s) i = if i ∈ l then g i (get s i) else get s i := by
  induction l generalizing s with
  | nil => rfl
  | cons x l ih =>
    obtain ⟨hx, hl⟩ := List.nodup_cons.1 hl
    rw [List.foldl_cons, ih hl]
    by_cases h : i = x
    · subst h
      rw [if_neg hx, if_pos List.mem_cons_self, hsame]
    · simp only [hother s x i h, List.mem_cons, h, false_or]

theorem allProj_nodup : allProj.Nodup := by decide

/-- A fold over all projectors of operations that each work on one of them. -/
theorem foldl_allProj {α : Type} {f : State → Proj → State} {get : State → Proj → α} {g : Proj → α → α}
    (hsame : ∀ s i, get (f s i) i = g i (get s i)) (hother : ∀ s i j, j ≠ i → get (f s i) j = get s j) (s : State) (p : Proj) :
    get (allProj.foldl f s) p = g p (get s p) := by
  rw [foldl_places hsame hother allProj allProj_nodup, if_pos (mem_allProj p)]

/-! ### The inputs as RESET reads them -/

/-- Every sensor latch after a reading of the inputs (R67). -/
theorem readPins_det (s : State) (pins : Pins) (p : Proj) :
    (s.readPins pins).det[p] = { s.det[p] with latch := s.det[p].latch || pins.proj[p].cue } := by
  unfold State.readPins
  refine foldl_allProj (get := fun s p => s.det[p]) (g := fun p d => { d with latch := d.latch || pins.proj[p].cue }) ?_ ?_ _ p
  · intro s p
    cases h : pins.proj[p].cue
    · simp
    · simp [State.updDet]
  · intro s p q hq
    split
    · exact getElem_set_other _ _ hq
    · rfl

/-! ### One event passed by a queue with room -/

theorem pass_of_room (s : State) (a : AlarmId) (hset : (s.alarm.get a).set = false) (hen : (s.alarm.get a).enabled = true)
    (hq : s.line.queue.length < 16) :
    s.pass a = { s with
      alarm := (s.alarm.put a ⟨true, 1, true⟩).refresh
      line := { s.line with queue := s.line.queue ++ [.alarm a s.field (s.alarmFrame a)] } } := by
  unfold State.pass
  simp only [hset, hen, Bool.false_eq_true, if_false, if_true]
  exact post_of_room _ _ hq

@[simp] theorem AlarmUnit.get_powerOn (a : AlarmId) : AlarmUnit.powerOn.get a = Latch.powerOn := by
  cases a <;> simp [AlarmUnit.get, AlarmUnit.powerOn]

/-- The alarm unit in which one pair alone is latched. -/
def oneAlarm (a : AlarmId) : AlarmUnit := (AlarmUnit.powerOn.put a ⟨true, 1, true⟩).refresh

theorem get_oneAlarm (a b : AlarmId) : (oneAlarm a).get b = if b = a then ⟨true, 1, true⟩ else Latch.powerOn := by
  unfold oneAlarm
  rw [AlarmUnit.get_refresh]
  split
  · rename_i h
    rw [h, AlarmUnit.get_put_same]
  · rename_i h
    rw [AlarmUnit.get_put_other _ _ h, AlarmUnit.get_powerOn]

/-- The line of the class of the one latched pair is asserted, and not the other (R169). -/
theorem anyLit_oneAlarm (a : AlarmId) (m : Bool) : (oneAlarm a).anyLit m = decide (a.isMajor = m) := by
  rw [Bool.eq_iff_iff, shows_iff_anyLit, decide_eq_true_eq]
  constructor
  · rintro ⟨b, hm, hs, -⟩
    rw [get_oneAlarm] at hs
    split at hs
    · rename_i h
      rwa [← h]
    · exact absurd hs (by decide)
  · intro h
    refine ⟨a, h, ?_, ?_⟩ <;> rw [get_oneAlarm, if_pos rfl]

theorem anyLit_refresh (u : AlarmUnit) (m : Bool) : u.refresh.anyLit m = u.anyLit m := by
  simp only [AlarmUnit.anyLit, AlarmUnit.lit, AlarmUnit.get_refresh]

theorem lines_oneAlarm (a : AlarmId) :
    (oneAlarm a).major = decide (a.isMajor = true) ∧ (oneAlarm a).minor = decide (a.isMajor = false) :=
  ⟨(anyLit_refresh _ true).symm.trans (anyLit_oneAlarm a true), (anyLit_refresh _ false).symm.trans (anyLit_oneAlarm a false)⟩

/-! ### The assertion of the ESTOP line -/

/-- Every channel and tracker after the assertion of the ESTOP line (R34, R45). -/
theorem estopChannels_eq (s : State) : allProj.foldl (fun s p => s.estopChannel p) s
    = { s with ch := map8 (fun c => c.toFault .estop true) s.ch, tr := map8 Tracker.motorOff s.tr } := by
  have hother : ∀ (l : List Proj) (s : State), l.foldl (fun s p => s.estopChannel p) s
      = { s with
        ch := (l.foldl (fun s p => s.estopChannel p) s).ch, tr := (l.foldl (fun s p => s.estopChannel p) s).tr } := by
    intro l
    induction l with
    | nil => exact fun s => rfl
    | cons p l ih =>
      intro s
      rw [List.foldl_cons, ih]
      rfl
  have hch : (allProj.foldl (fun s p => s.estopChannel p) s).ch = map8 (fun c => c.toFault .estop true) s.ch :=
    vector_ext fun p => (foldl_allProj (get := fun s p => s.ch[p]) (g := fun _ c => c.toFault .estop true)
      (fun s p => getElem_set_same _ _ _) (fun s p q hq => getElem_set_other _ _ hq) s p).trans (by simp)
  have htr : (allProj.foldl (fun s p => s.estopChannel p) s).tr = map8 Tracker.motorOff s.tr :=
    vector_ext fun p => (foldl_allProj (get := fun s p => s.tr[p]) (g := fun _ t => t.motorOff)
      (fun s p => getElem_set_same _ _ _) (fun s p q hq => getElem_set_other _ _ hq) s p).trans (by simp)
  rw [hother, hch, htr]

/-- The channels and the take port when the ESTOP line has been asserted, before PROTECT and the endings of the records. -/
def State.estopped (s : State) : State :=
  { ({ s with estop := true } : State).pass (.dev .estop) with
    ch := map8 (fun c => c.toFault .estop true) s.ch
    tr := map8 Tracker.motorOff s.tr
    take := { s.take with slots := Vector.replicate 4 none, host := none } }

/-- What follows the stopping of the channels is PROTECT on every projector and the ending of every record (R34, R103, R163). -/
theorem assertEstop_eq (s : State) :
    s.assertEstop = (allProj.foldl (fun s p => s.protect p .estop) s.estopped).endAllRecords .estop := by
  have h := pass_notified { s with estop := true } (.dev .estop)
  unfold State.assertEstop State.estopped
  simp only [estopChannels_eq, State.updTake, h.ch, h.tr, h.take]

/-- What PROTECT and the endings may touch. -/
theorem assertEstop_handedOn (s : State) : HandedOn s.estopped s.assertEstop := by
  have hprotect : ∀ (l : List Proj) (s : State), HandedOn s (l.foldl (fun s p => s.protect p .estop) s) := by
    intro l
    induction l with
    | nil => exact HandedOn.refl
    | cons p l ih => exact fun s => (protect_protectOnly s p .estop).handedOn.trans (ih _)
  rw [assertEstop_eq]
  exact (hprotect _ _).trans (endAllRecords_engineOnly _ _).handedOn

/-! ### The ending of every record (R163) -/

theorem endRecord_records (s : State) (r : Rec) (res : Result) : (s.endRecord r res).eng.records = s.eng.records.set r none := by
  unfold State.endRecord
  split
  · rename_i h
    exact (Vector.ext fun i hi => by
      rw [Vector.getElem_set]
      split
      · rename_i hr; subst hr; exact h.symm
      · rfl).symm
  · have hn := post_notified ((s.withdraw r).releaseClaim r)
      (.change ((‹Record› : Record).notice r ((‹Record› : Record).endResult res) s.field)) (fun p => rfl)
    simp only [State.setRec, hn.eng]
    rfl

/-- A claim that outlasts the ending of a record is held by a record that was not there or by another (R86). -/
theorem endRecord_claim (s : State) (r : Rec) (res : Result) (i : Isl) (x : Rec) (h : (s.endRecord r res).isl[i].claim = some x) :
    s.isl[i].claim = some x ∧ (x = r → s.eng.records[r] = none) := by
  unfold State.endRecord at h
  split at h
  · exact ⟨h, fun _ => ‹_›⟩
  · rename_i rec _
    have hn := post_notified ((s.withdraw r).releaseClaim r) (.change (rec.notice r (rec.endResult res) s.field)) (fun p => rfl)
    simp only [State.setRec_isl, hn.isl, releaseClaim_isl] at h
    split at h
    · cases h
    · rename_i hne
      exact ⟨h, fun hx => absurd (hx ▸ h) hne⟩

theorem endAllRecords_records (s : State) (res : Result) (r : Rec) : (s.endAllRecords res).eng.records[r] = none := by
  unfold State.endAllRecords
  rw [foldl_places (get := fun s r => s.eng.records[r]) (g := fun _ _ => none)
    (fun s r => by rw [endRecord_records]; exact getElem_set_same _ _ _)
    (fun s r x hx => by rw [endRecord_records]; exact getElem_set_other _ _ hx) allRec (by decide), if_pos (mem_allRec r)]

/-- No due request is pending when none was (R92, R163). -/
theorem endRecord_slots (s : State) (r : Rec) (res : Result) (h : s.take.slots = Vector.replicate 4 none) :
    (s.endRecord r res).take.slots = Vector.replicate 4 none := by
  have hset : ∀ r : Rec, (Vector.replicate 4 (none : Option ChangeReq)).set r none = Vector.replicate 4 none := by decide
  unfold State.endRecord
  split
  · exact h
  · have hn := post_notified ((s.withdraw r).releaseClaim r)
      (.change ((‹Record› : Record).notice r ((‹Record› : Record).endResult res) s.field)) (fun p => rfl)
    simp only [State.setRec, hn.take]
    show s.take.slots.set r none = _
    rw [h, hset]

theorem endAllRecords_slots (s : State) (res : Result) (h : s.take.slots = Vector.replicate 4 none) :
    (s.endAllRecords res).take.slots = Vector.replicate 4 none := by
  have : ∀ (l : List Rec) (s : State), s.take.slots = Vector.replicate 4 none →
      (l.foldl (fun s r => s.endRecord r res) s).take.slots = Vector.replicate 4 none := by
    intro l
    induction l with
    | nil => exact fun s h => h
    | cons r l ih => exact fun s h => ih _ (endRecord_slots s r res h)
  exact this allRec s h

theorem endAllRecords_claim (s : State) (res : Result) (i : Isl) (x : Rec) (h : (s.endAllRecords res).isl[i].claim = some x) :
    s.isl[i].claim = some x ∧ s.eng.records[x] = none := by
  have : ∀ (l : List Rec) (s : State), (l.foldl (fun s r => s.endRecord r res) s).isl[i].claim = some x →
      s.isl[i].claim = some x ∧ (x ∈ l → s.eng.records[x] = none) := by
    intro l
    induction l with
    | nil => exact fun s h => ⟨h, fun hx => absurd hx List.not_mem_nil⟩
    | cons r l ih =>
      intro s h
      obtain ⟨hc, hl⟩ := ih _ h
      obtain ⟨hc, hr⟩ := endRecord_claim s r res i x hc
      refine ⟨hc, fun hx => ?_⟩
      by_cases hxr : x = r
      · subst hxr
        exact hr rfl
      · have := hl ((List.mem_cons.1 hx).resolve_left hxr)
        rw [endRecord_records] at this
        exact (getElem_set_other _ _ hxr).symm.trans this
  obtain ⟨hc, hr⟩ := this allRec s h
  exact ⟨hc, hr (mem_allRec x)⟩

/-- PROTECT on every projector keeps records and claims. -/
theorem protectAll_protectOnly (s : State) (k : ProtectKind) : ProtectOnly s (allProj.foldl (fun s p => s.protect p k) s) := by
  have : ∀ (l : List Proj) (s : State), ProtectOnly s (l.foldl (fun s p => s.protect p k) s) := by
    intro l
    induction l with
    | nil => exact ProtectOnly.refl
    | cons p l ih => exact fun s => (protect_protectOnly s p k).trans (ih _)
  exact this _ s

/-- No record is left, and a claim that is left has no record. -/
theorem assertEstop_records (s : State) :
    (∀ r : Rec, s.assertEstop.eng.records[r] = none)
      ∧ ∀ (i : Isl) (r : Rec), s.assertEstop.isl[i].claim = some r → s.eng.records[r] = none := by
  have hkept := protectAll_protectOnly s.estopped .estop
  have hpass := pass_notified { s with estop := true } (.dev .estop)
  rw [assertEstop_eq]
  refine ⟨endAllRecords_records _ _, fun i r h => ?_⟩
  obtain ⟨-, hr⟩ := endAllRecords_claim _ _ i r h
  rw [hkept.eq] at hr
  rw [show s.eng = s.estopped.eng from hpass.eng.symm]
  exact hr

theorem assertEstop_slots (s : State) : s.assertEstop.take.slots = Vector.replicate 4 none := by
  rw [assertEstop_eq]
  refine endAllRecords_slots _ _ ?_
  rw [(protectAll_protectOnly s.estopped .estop).eq]
  rfl

theorem estopped_ch (s : State) (p : Proj) : s.estopped.ch[p] = faulted s.ch[p] .estop false := by
  simp only [State.estopped, Fin.getElem_fin, getElem_map8]
  simp [faulted, Channel.toFault, Channel.quiesce, Channel.endRun]

theorem estopped_tr (s : State) (p : Proj) : s.estopped.tr[p] = stopped s.tr[p] := by
  simp only [State.estopped, Fin.getElem_fin, getElem_map8]
  rfl

/-- All else than the channels, the trackers, the take port and the alarm stands as it was. -/
theorem estopped_kept (s : State) : s.estopped = { s with
      estop := true, ch := s.estopped.ch, tr := s.estopped.tr, alarm := s.estopped.alarm, line := s.estopped.line
      take := { s.take with slots := Vector.replicate 4 none, host := none } }
    ∧ (∀ p : Proj, s.estopped.ch[p] = faulted s.ch[p] .estop false)
    ∧ ∀ p : Proj, s.estopped.tr[p] = stopped s.tr[p] := by
  refine ⟨?_, estopped_ch s, estopped_tr s⟩
  unfold State.estopped
  rw [(pass_notified { s with estop := true } (.dev .estop)).eq]

/-! ### While RESET is asserted -/

/-- A row that is an event does nothing then. -/
theorem held_of_event {s v : State} {o : Host.Outcome State Fault Refusal} (h : s.resetHeld = true)
    (ho : o = .next (if s.resetHeld = true then s else v)) : o = .next s := by
  rw [ho, if_pos h]

/-! ### The release of RESET -/

/-- The state at the release, before the ESTOP line is looked at. -/
def released (straps : Straps) (pins : Pins) (s : State) : State :=
  ({ State.powerOn straps.addr straps.rate pins with pending := s.pending } : State).readPins pins

theorem exec_reset (straps : Straps) (pins : Pins) (s : State) :
    exec (.reset straps pins) s
      = .next (if straps.estop then (released straps pins s).assertEstop else released straps pins s) := rfl

/-- The state at the release by its blocks; the detectors alone depend on the inputs. -/
theorem released_eq (straps : Straps) (pins : Pins) (s : State) : released straps pins s =
    { State.powerOn straps.addr straps.rate pins with pending := s.pending, det := (released straps pins s).det } :=
  readPins_eq _ _

theorem released_det (straps : Straps) (pins : Pins) (s : State) (p : Proj) :
    (released straps pins s).det[p] = { Detector.powerOn with latch := pins.proj[p].cue } := by
  refine (readPins_det _ _ p).trans ?_
  simp [State.powerOn, Detector.powerOn]

theorem released_isl (i : Isl) :
    (#v[Island.powerOn 1, Island.powerOn 2, Island.powerOn 3, Island.powerOn 4] : Vector Island 4)[i]
      = Island.powerOn ⟨i.val + 1, by omega⟩ := by
  revert i
  decide

/-- With no tally read, no request pending and no record, the ESTOP line strikes nobody on air and ends nothing. -/
theorem assertEstop_of_idle (s : State) (hair : ∀ i : Isl, s.isl[i].tally = none) (hprotective : s.take.protective = none)
    (hrec : s.eng.records = Vector.replicate 4 none) : s.assertEstop = s.estopped := by
  have hpass := pass_notified { s with estop := true } (.dev .estop)
  have hone : ∀ p, s.estopped.protect p .estop = s.estopped := by
    intro p
    refine protect_of_none _ _ _ ?_ ?_
    · have : s.estopped.onAir p = false := by
        have hisl : s.estopped.isl = s.isl := hpass.isl
        unfold State.onAir
        split
        · rfl
        · rw [hisl, hair]
          rfl
      simp [State.isProtective, this]
    · simp [State.strikesTarget, State.estopped, hprotective]
  have hend : ∀ r, s.estopped.endRecord r .estop = s.estopped := by
    intro r
    have heng : s.estopped.eng = s.eng := hpass.eng
    have : s.estopped.eng.records[r] = none := by
      rw [heng, hrec]
      simp
    unfold State.endRecord
    split
    · rfl
    · rename_i h
      rw [this] at h
      cases h
  have hfix : ∀ {ι : Type} {f : State → ι → State} (l : List ι), (∀ i, f s.estopped i = s.estopped) → l.foldl f s.estopped = s.estopped := by
    intro ι f l hf
    induction l with
    | nil => rfl
    | cons x l ih => rw [List.foldl_cons, hf, ih]
  rw [assertEstop_eq, hfix allProj hone]
  exact hfix allRec hend

/-- The assertion of the ESTOP line at the release (R34): every channel in FAULT, ESTOP latched, and one notice. -/
theorem released_assertEstop (straps : Straps) (pins : Pins) (s : State) : (released straps pins s).assertEstop =
    { released straps pins s with
      estop := true
      ch := Vector.replicate 8 { Channel.powerOn with state := .fault, cause := .estop }
      alarm := oneAlarm (.dev .estop)
      line := { Line.powerOn straps.addr straps.rate with queue := [.alarm (.dev .estop) 0 none] } } := by
  have hidle : (released straps pins s).assertEstop = (released straps pins s).estopped := by
    rw [released_eq]
    refine assertEstop_of_idle _ (fun i => ?_) rfl rfl
    show (#v[Island.powerOn 1, Island.powerOn 2, Island.powerOn 3, Island.powerOn 4] : Vector Island 4)[i].tally = none
    rw [released_isl]
    rfl
  have hpass := pass_of_room { released straps pins s with estop := true } (.dev .estop)
    (by rw [released_eq]; exact congrArg Latch.set (AlarmUnit.get_powerOn _))
    (by rw [released_eq]; exact congrArg Latch.enabled (AlarmUnit.get_powerOn _)) (by rw [released_eq]; exact Nat.zero_lt_succ _)
  rw [hidle]
  unfold State.estopped
  rw [hpass, released_eq]
  rfl

end Sys2Proof.Machine

section
open Sys2Proof Sys2Proof.Machine Sys2Proof.Claims

/-- Settles O4: the assertion by its equation, the idle rows by `event_of_held`, and the ESTOP line by what its assertion comes to. -/
theorem resetAssertedDropsLines : Obligations.ResetAssertedDropsLines := by
  refine ⟨fun s m h => event_of_running s (fun s => (s.arrive m).holdReset) h, fun c s h hreset hassert hrelease => ?_,
    fun s m h => ⟨?_, fun he => ?_, fun he => ?_⟩⟩
  · cases c with
    | reset straps pins => exact absurd rfl (hreset straps pins)
    | estopAsserted m => exact absurd rfl (hassert m)
    | estopReleased m => exact absurd rfl (hrelease m)
    | _ => exact held_of_event h rfl
  · show execEstopReleased m s = _
    rw [execEstopReleased, if_pos h]
  · show execEstopAsserted m s = _
    rw [execEstopAsserted, if_pos h, if_pos he]
  · have hexec : exec (.estopAsserted m) s = .next s.assertEstopInReset := by
      show execEstopAsserted m s = _
      rw [execEstopAsserted, if_pos h, if_neg (by simp [he])]
    have hset := assertEstopInReset_settings s
    have hslots := assertEstop_slots s
    obtain ⟨hrec, hclaim⟩ := assertEstop_records s
    have hon := assertEstop_handedOn s
    obtain ⟨hkept, hch, htr⟩ := estopped_kept s
    rw [assertEstopInReset_eq] at hexec hset
    generalize s.assertEstop = v at *
    generalize s.estopped = w at *
    refine ⟨_, hexec, ?_, fun p => ⟨?_, ?_⟩, hslots, ?_, hrec, hclaim, rfl, rfl, ?_, ?_, ?_, ?_, ?_, ?_, ?_, ?_, hset⟩
    all_goals rw [hon.eq]
    case refine_2 => exact hch p
    case refine_3 => exact htr p
    all_goals rw [hkept]
    exact h

/-- Settles O3: the equation of the power-on state, and of the ESTOP assertion on it. -/
theorem resetGivesPowerOnValues : Obligations.ResetGivesPowerOnValues := by
  intro straps pins s
  refine ⟨_, exec_reset straps pins s, ?_⟩
  cases he : straps.estop with
  | false =>
    simp only [Bool.false_eq_true, if_false]
    rw [released_eq]
    refine ⟨rfl, rfl, rfl, rfl, rfl, rfl, rfl, rfl, rfl, rfl, fun i => released_isl i, rfl, fun p => released_det straps pins s p,
      fun p => Vector.getElem_replicate .., fun p => Vector.getElem_replicate .., fun a => ?_, rfl, rfl, rfl, rfl,
      fun p => Vector.getElem_replicate ..⟩
    have h : (State.powerOn straps.addr straps.rate pins).alarm.get a = Latch.powerOn := AlarmUnit.get_powerOn a
    simp [h, Latch.powerOn]
  | true =>
    simp only [if_true]
    obtain ⟨hmajor, hminor⟩ := lines_oneAlarm (.dev .estop)
    rw [released_assertEstop, released_eq]
    refine ⟨rfl, rfl, rfl, rfl, rfl, rfl, rfl, rfl, rfl, rfl, fun i => released_isl i, rfl, fun p => released_det straps pins s p,
      fun p => Vector.getElem_replicate .., fun p => Vector.getElem_replicate .., fun a => ?_, hmajor, hminor, rfl, rfl, fun p => Vector.getElem_replicate ..⟩
    rw [get_oneAlarm]
    by_cases ha : a = .dev .estop <;> simp [ha, Latch.powerOn]

end
end

section
/-! A change of the timebase that keeps the field number is seen by no operation of the blocks (R8): what waits at a boundary is settled to
the same state of the blocks before and after it. -/

namespace Sys2Proof.Machine
open Sys2Proof.Claims

/-- The state with another timebase, but for the number of the field and the kind of its boundary. -/
def State.retime (b : Timebase) (s : State) : State :=
  { s with tb := { b with field := s.tb.field, madeInSync := s.tb.madeInSync } }

variable (b : Timebase) (s : State)

@[simp] theorem retime_now : (s.retime b).now = s.now := rfl
@[simp] theorem retime_pins : (s.retime b).pins = s.pins := rfl
@[simp] theorem retime_estop : (s.retime b).estop = s.estop := rfl
@[simp] theorem retime_ch : (s.retime b).ch = s.ch := rfl
@[simp] theorem retime_tr : (s.retime b).tr = s.tr := rfl
@[simp] theorem retime_det : (s.retime b).det = s.det := rfl
@[simp] theorem retime_cues : (s.retime b).cues = s.cues := rfl
@[simp] theorem retime_eng : (s.retime b).eng = s.eng := rfl
@[simp] theorem retime_isl : (s.retime b).isl = s.isl := rfl
@[simp] theorem retime_route : (s.retime b).route = s.route := rfl
@[simp] theorem retime_take : (s.retime b).take = s.take := rfl
@[simp] theorem retime_alarm : (s.retime b).alarm = s.alarm := rfl
@[simp] theorem retime_line : (s.retime b).line = s.line := rfl
@[simp] theorem retime_due : (s.retime b).due = s.due := rfl
@[simp] theorem retime_unmoved : (s.retime b).unmoved = s.unmoved := rfl
@[simp] theorem retime_field : (s.retime b).field = s.field := rfl
@[simp] theorem retime_madeInSync : (s.retime b).tb.madeInSync = s.tb.madeInSync := rfl

@[simp] theorem retime_updCh (p f) : (s.retime b).updCh p f = (s.updCh p f).retime b := rfl
@[simp] theorem retime_updTr (p f) : (s.retime b).updTr p f = (s.updTr p f).retime b := rfl
@[simp] theorem retime_updDet (p f) : (s.retime b).updDet p f = (s.updDet p f).retime b := rfl
@[simp] theorem retime_updIsl (i f) : (s.retime b).updIsl i f = (s.updIsl i f).retime b := rfl
@[simp] theorem retime_updRec (r f) : (s.retime b).updRec r f = (s.updRec r f).retime b := rfl
@[simp] theorem retime_setRec (r x) : (s.retime b).setRec r x = (s.setRec r x).retime b := rfl
@[simp] theorem retime_updTake (f) : (s.retime b).updTake f = (s.updTake f).retime b := rfl
@[simp] theorem retime_updLine (f) : (s.retime b).updLine f = (s.updLine f).retime b := rfl
@[simp] theorem retime_setCues (p l n) : (s.retime b).setCues p l n = (s.setCues p l n).retime b := rfl
@[simp] theorem retime_dropDue (d) : (s.retime b).dropDue d = (s.dropDue d).retime b := rfl
@[simp] theorem retime_addDue (d) : (s.retime b).addDue d = (s.addDue d).retime b := rfl
@[simp] theorem retime_putLatch (a l) : (s.retime b).putLatch a l = (s.putLatch a l).retime b := rfl
@[simp] theorem retime_enqueue (n) : (s.retime b).enqueue n = (s.enqueue n).retime b := rfl
@[simp] theorem retime_countDiscard : (s.retime b).countDiscard = s.countDiscard.retime b := rfl
@[simp] theorem retime_withdraw (r) : (s.retime b).withdraw r = (s.withdraw r).retime b := rfl
@[simp] theorem retime_releaseClaim (r) : (s.retime b).releaseClaim r = (s.releaseClaim r).retime b := rfl
@[simp] theorem retime_mirrorCommand (i q) : (s.retime b).mirrorCommand i q = (s.mirrorCommand i q).retime b := rfl
@[simp] theorem retime_postProtective (c p) : (s.retime b).postProtective c p = (s.postProtective c p).retime b := rfl
@[simp] theorem retime_retarget : (s.retime b).retarget = s.retarget.retime b := rfl
@[simp] theorem retime_dropStrobe : (s.retime b).dropStrobe = s.dropStrobe.retime b := rfl

theorem retime_ite {c c' : Prop} [Decidable c] [Decidable c'] (h : c ↔ c') {x y x' y' : State} (hx : x = x'.retime b)
    (hy : y = y'.retime b) : (if c then x else y) = (if c' then x' else y').retime b := by
  by_cases hc : c
  · rw [if_pos hc, if_pos (h.1 hc), hx]
  · rw [if_neg hc, if_neg (fun hc' => hc (h.2 hc')), hy]

/-- A fold of operations that a change of the timebase passes through. -/
theorem retime_foldl {α : Type} {f : State → α → State} (hf : ∀ s x, f (s.retime b) x = (f s x).retime b) (l : List α) :
    l.foldl f (s.retime b) = (l.foldl f s).retime b := by
  induction l generalizing s with
  | nil => rfl
  | cons x l ih => rw [List.foldl_cons, hf, ih, List.foldl_cons]

/-! ### Look-ups -/

@[simp] theorem retime_alarmFrame (a) : (s.retime b).alarmFrame a = s.alarmFrame a := by cases a <;> rfl
@[simp] theorem retime_findRec (f) : (s.retime b).findRec f = s.findRec f := rfl
@[simp] theorem retime_asOutgoing (p) : (s.retime b).asOutgoing p = s.asOutgoing p := rfl
@[simp] theorem retime_asIncoming (p) : (s.retime b).asIncoming p = s.asIncoming p := rfl
@[simp] theorem retime_ahead (p) : (s.retime b).ahead p = s.ahead p := rfl
@[simp] theorem retime_onAir (p) : (s.retime b).onAir p = s.onAir p := rfl
@[simp] theorem retime_isProtective (p k) : (s.retime b).isProtective p k = s.isProtective p k := rfl
@[simp] theorem retime_strikesTarget (p k) : (s.retime b).strikesTarget p k = s.strikesTarget p k := rfl
@[simp] theorem retime_emergencyRec (p k) : (s.retime b).emergencyRec p k = s.emergencyRec p k := rfl
@[simp] theorem retime_choosesEmergency (p k) : (s.retime b).choosesEmergency p k = s.choosesEmergency p k := rfl
@[simp] theorem retime_fieldPos (p) : (s.retime b).fieldPos p = s.fieldPos p := rfl
@[simp] theorem retime_claimedBy (r) : (s.retime b).claimedBy r = s.claimedBy r := rfl
@[simp] theorem retime_decisionPositions (r) : (s.retime b).decisionPositions r = s.decisionPositions r := rfl
@[simp] theorem retime_winner : (s.retime b).winner = s.winner := rfl
@[simp] theorem retime_slotDue (r) : (s.retime b).slotDue r = s.slotDue r := rfl
@[simp] theorem retime_openWindow (c) : (s.retime b).openWindow c = s.openWindow c := rfl
@[simp] theorem retime_canTake (d) : (s.retime b).canTake d = s.canTake d := by cases d <;> rfl

/-! ### Events and notices -/

@[simp] theorem retime_passNoticeLost : (s.retime b).passNoticeLost = s.passNoticeLost.retime b := by
  exact retime_ite b Iff.rfl rfl (retime_ite b Iff.rfl rfl rfl)

@[simp] theorem retime_post (n) : (s.retime b).post n = (s.post n).retime b := by
  exact retime_ite b Iff.rfl rfl (retime_passNoticeLost b s.countDiscard)

@[simp] theorem retime_postPosition (n) : (s.retime b).postPosition n = (s.postPosition n).retime b := by
  exact retime_ite b Iff.rfl rfl (retime_ite b Iff.rfl rfl rfl)

@[simp] theorem retime_pass (a) : (s.retime b).pass a = (s.pass a).retime b := by
  have hpost : ∀ n, ((s.retime b).putLatch a { s.alarm.get a with set := true, count := 1 }).post n
      = ((s.putLatch a { s.alarm.get a with set := true, count := 1 }).post n).retime b := fun n => retime_post b (s.putLatch a _) n
  unfold State.pass
  simp only [retime_alarmFrame]
  exact retime_ite b Iff.rfl rfl (retime_ite b Iff.rfl (hpost _) rfl)

@[simp] theorem retime_passIf (c a) : (s.retime b).passIf c a = (s.passIf c a).retime b := by
  exact retime_ite b Iff.rfl (retime_pass b s a) rfl

@[simp] theorem retime_passUnlessQuiet (p k) : (s.retime b).passUnlessQuiet p k = (s.passUnlessQuiet p k).retime b :=
  retime_passIf b s _ _

@[simp] theorem retime_lowTest (p n) : (s.retime b).lowTest p n = (s.lowTest p n).retime b := retime_passIf b s _ _

/-! ### Records and protection -/

@[simp] theorem retime_endRecord (r res) : (s.retime b).endRecord r res = (s.endRecord r res).retime b := by
  unfold State.endRecord
  simp only [retime_eng, retime_withdraw, retime_releaseClaim, retime_field, retime_post, retime_setRec]
  rcases s.eng.records[r] with _ | rec <;> rfl

@[simp] theorem retime_engineStop (p) : (s.retime b).engineStop p = (s.engineStop p).retime b := by
  unfold State.engineStop
  simp only [retime_eng, retime_asOutgoing, retime_asIncoming, retime_endRecord]
  rcases s.asOutgoing p with _ | r
  · rcases s.asIncoming p with _ | r
    · rfl
    · exact retime_ite b Iff.rfl rfl rfl
  · rfl

@[simp] theorem retime_engineFault (p e) : (s.retime b).engineFault p e = (s.engineFault p e).retime b := by
  unfold State.engineFault
  simp only [retime_eng, retime_asOutgoing, retime_asIncoming, retime_endRecord]
  rcases s.asOutgoing p with _ | r
  · rcases s.asIncoming p with _ | r
    · rfl
    · exact retime_ite b Iff.rfl rfl rfl
  · rfl

@[simp] theorem retime_engineLockLost (p c e) : (s.retime b).engineLockLost p c e = (s.engineLockLost p c e).retime b := by
  unfold State.engineLockLost
  simp only [retime_eng, retime_asOutgoing, retime_endRecord]
  rcases s.asOutgoing p with _ | r
  · rfl
  · exact retime_ite b Iff.rfl rfl rfl

@[simp] theorem retime_engineMismatch (i) : (s.retime b).engineMismatch i = (s.engineMismatch i).retime b := by
  unfold State.engineMismatch
  simp only [retime_eng, retime_isl, retime_endRecord]
  rcases s.isl[i].claim with _ | r
  · rfl
  · exact retime_ite b Iff.rfl rfl rfl

@[simp] theorem retime_engineCorrected (p) : (s.retime b).engineCorrected p = (s.engineCorrected p).retime b := by
  unfold State.engineCorrected
  simp only [retime_asOutgoing, retime_asIncoming, retime_updRec]
  rcases s.asOutgoing p with _ | r
  · rcases s.asIncoming p with _ | r <;> rfl
  · rfl

@[simp] theorem retime_emergencyCut (r) : (s.retime b).emergencyCut r = (s.emergencyCut r).retime b := by
  unfold State.emergencyCut
  simp only [retime_eng, retime_route, retime_isl, retime_postProtective, retime_mirrorCommand]
  rcases s.eng.records[r] with _ | rec
  · rfl
  · simp only
    rcases s.route[rec.b] with _ | ⟨i, q⟩
    · rfl
    · simp only
      rcases rec.method <;> rfl

@[simp] theorem retime_protect (p k) : (s.retime b).protect p k = (s.protect p k).retime b := by
  unfold State.protect
  by_cases h1 : s.strikesTarget p k = true <;> by_cases h2 : s.isProtective p k = true <;>
    simp only [retime_isProtective, retime_strikesTarget, retime_passIf, retime_retarget, h1, h2, if_true, if_false,
      retime_emergencyRec, retime_take, retime_postProtective, retime_emergencyCut, Bool.false_eq_true]
  all_goals
    generalize State.emergencyRec _ p k = o
    rcases o with _ | r <;> rfl

@[simp] theorem retime_enterFault (p fs) : (s.retime b).enterFault p fs = (s.enterFault p fs).retime b := by
  cases fs with
  | nil => rfl
  | cons f fs =>
    have hpass := retime_foldl (f := fun s (f : ChanFault) => s.pass (.proj p f.alarm)) b s (fun s f => retime_pass b s _) (f :: fs)
    have hprotect := fun s => retime_foldl (f := fun s (f : ChanFault) => s.protect p f.kind) b s (fun s f => retime_protect b s p _)
      (f :: fs)
    simp only [State.enterFault, hpass, hprotect, retime_choosesEmergency, retime_engineFault, retime_updCh,
      retime_updTr]

/-! ### Channels and film -/

@[simp] theorem retime_doStop (p) : (s.retime b).doStop p = (s.doStop p).retime b := by
  unfold State.doStop
  by_cases h1 : s.ch[p].running = true <;> by_cases h2 : s.ch[p].state = .inch <;>
    simp only [retime_ch, retime_updCh, retime_updTr, h1, h2, if_true, if_false, retime_engineStop, Bool.false_eq_true]

@[simp] theorem retime_giveStop (p) : (s.retime b).giveStop p = (s.giveStop p).retime b := by
  unfold State.giveStop State.requestStop
  by_cases h : s.estop = true <;> simp only [retime_estop, retime_doStop, h, if_true, if_false, Bool.false_eq_true]

@[simp] theorem retime_loseLock (p) : (s.retime b).loseLock p = (s.loseLock p).retime b := by
  unfold State.loseLock
  simp only [retime_updTr, retime_isProtective, retime_choosesEmergency, retime_field, retime_updCh, retime_pass,
    retime_protect, retime_engineLockLost]
  exact retime_ite b Iff.rfl rfl rfl

@[simp] theorem retime_removeCue (p n) : (s.retime b).removeCue p n = (s.removeCue p n).retime b := by
  exact retime_ite b Iff.rfl rfl rfl

@[simp] theorem retime_consume (p e o v c) : (s.retime b).consume p e o v c = (s.consume p e o v c).retime b := by
  unfold State.consume
  simp only [retime_removeCue, retime_field, retime_tr, retime_post, retime_pass, retime_updCh]
  exact retime_ite b Iff.rfl rfl rfl

@[simp] theorem retime_reachEntry (p e) : (s.retime b).reachEntry p e = (s.reachEntry p e).retime b := by
  unfold State.reachEntry
  simp only [retime_giveStop, retime_consume, retime_updTr, retime_pass]
  refine retime_ite b Iff.rfl ?_ rfl
  rcases e.kind <;> rfl

@[simp] theorem retime_reachPass (p) : (s.retime b).reachPass p = (s.reachPass p).retime b := by
  exact retime_ite b Iff.rfl (retime_foldl (f := fun s e => s.reachEntry p e) b s (fun s e => retime_reachEntry b s p e) _) rfl

@[simp] theorem retime_skipAtStart (p) : (s.retime b).skipAtStart p = (s.skipAtStart p).retime b :=
  retime_foldl b s (fun s e => retime_consume b s p e .skipped 0 true) _

@[simp] theorem retime_missMarks (p) : (s.retime b).missMarks p = (s.missMarks p).retime b := by
  refine retime_ite b Iff.rfl (retime_foldl (f := fun s e => (s.consume p e .missing 0 s.ch[p].running).pass (.proj p .markMissing)) b s
    (fun s e => ?_) _) rfl
  simp only [retime_ch, retime_consume, retime_pass]

@[simp] theorem retime_tailoutTest (r) : (s.retime b).tailoutTest r = (s.tailoutTest r).retime b := by
  unfold State.tailoutTest
  simp only [retime_eng, retime_endRecord, retime_giveStop]
  rcases s.eng.records[r] with _ | rec
  · rfl
  · simp only
    rcases rec.tailOut with _ | x
    · rfl
    · exact retime_ite b Iff.rfl rfl rfl

@[simp] theorem retime_tailoutOf (p) : (s.retime b).tailoutOf p = (s.tailoutOf p).retime b := by
  unfold State.tailoutOf
  simp only [retime_asOutgoing, retime_tailoutTest]
  rcases s.asOutgoing p <;> rfl

@[simp] theorem retime_applyCorrection (p c) : (s.retime b).applyCorrection p c = (s.applyCorrection p c).retime b := by
  unfold State.applyCorrection
  by_cases h1 : c = 0
  · subst h1
    simp only [retime_ahead, retime_tr, retime_updTr, retime_passIf, lt_irrefl, if_true, if_false, retime_lowTest, retime_tailoutOf]
  · by_cases h2 : 0 < c <;>
      simp only [retime_ahead, retime_tr, retime_updTr, retime_passIf, h1, h2, if_true, if_false, retime_engineCorrected,
        retime_reachPass, retime_lowTest, retime_tailoutOf]

@[simp] theorem retime_takeMatch (p d) : (s.retime b).takeMatch p d = (s.takeMatch p d).retime b := by
  unfold State.takeMatch
  cases h : s.cues.lists[p].find? (fun e => e.markOpen d) <;>
    simp only [retime_cues, h, retime_ahead, retime_ch, retime_consume, retime_lowTest, retime_applyCorrection, retime_updTr,
      retime_passUnlessQuiet]

@[simp] theorem retime_takeWaiting (p) : (s.retime b).takeWaiting p = (s.takeWaiting p).retime b := by
  unfold State.takeWaiting
  cases h : s.det[p].found <;> simp only [retime_det, h, retime_updDet, retime_takeMatch]

@[simp] theorem retime_handMatch (p d) : (s.retime b).handMatch p d = (s.handMatch p d).retime b := by
  exact retime_ite b Iff.rfl rfl (retime_takeMatch b s p d)

@[simp] theorem retime_reportPosition (p) : (s.retime b).reportPosition p = (s.reportPosition p).retime b := by
  exact retime_ite b Iff.rfl (retime_postPosition b s _) rfl

@[simp] theorem retime_frameAdvanced (p n) : (s.retime b).frameAdvanced p n = (s.frameAdvanced p n).retime b := by
  unfold State.frameAdvanced
  cases h1 : s.ch[p].sampling
  · simp only [retime_tr, retime_ch, h1, Bool.false_and, Bool.false_eq_true, if_false, retime_reportPosition, retime_missMarks,
      retime_reachPass, retime_lowTest, retime_takeWaiting, retime_tailoutOf]
  · cases h2 : (s.updDet p (fun d => d.sample s.pins.proj[p].cue)).det[p].matched <;>
      simp only [retime_tr, retime_ch, h1, h2, Bool.true_and, Bool.false_eq_true, if_true, if_false, retime_pins, retime_updDet,
        retime_det, retime_reportPosition, retime_missMarks, retime_reachPass, retime_lowTest, retime_takeWaiting,
        retime_handMatch, retime_tailoutOf]

@[simp] theorem retime_correctSlip (p) : (s.retime b).correctSlip p = (s.correctSlip p).retime b := by
  unfold State.correctSlip
  cases h1 : s.tr[p].lock <;> cases h2 : s.tr[p].slipWait <;>
    simp only [retime_tr, h1, h2, retime_field, retime_ahead, retime_updTr, retime_passIf, retime_frameAdvanced, retime_tailoutOf]
  exact retime_ite b Iff.rfl (retime_ite b Iff.rfl rfl rfl) rfl

@[simp] theorem retime_declareLock (p) : (s.retime b).declareLock p = (s.declareLock p).retime b := by
  unfold State.declareLock
  cases h1 : s.tr[p].lock <;> cases h2 : s.tr[p].pendingLock <;> simp only [retime_tr, h1, h2]
  exact retime_ite b Iff.rfl (retime_ite b Iff.rfl rfl rfl) rfl

@[simp] theorem retime_missEdge (p) : (s.retime b).missEdge p = (s.missEdge p).retime b := by
  exact retime_ite b Iff.rfl (retime_loseLock b s p) rfl

/-! ### The engine -/

@[simp] theorem retime_doStart (p) : (s.retime b).doStart p = (s.doStart p).retime b := by
  unfold State.doStart
  simp only [retime_ahead, retime_field, retime_tr, retime_updCh, retime_updTr, retime_passIf, retime_skipAtStart, retime_lowTest]
  rfl

@[simp] theorem retime_giveStart (r) : (s.retime b).giveStart r = (s.giveStart r).retime b := by
  have hreq : ∀ q, (s.retime b).requestStart q false = ((s.requestStart q false).1.retime b, (s.requestStart q false).2) := by
    intro q
    unfold State.requestStart
    by_cases h1 : s.estop = true <;> by_cases h2 : s.ch[q].state = .ready <;>
      simp only [retime_estop, h1, h2, Bool.false_and, Bool.false_eq_true, if_true, if_false, retime_ch, retime_doStart, ne_eq,
        not_true_eq_false, not_false_eq_true]
  unfold State.giveStart
  cases h : s.eng.records[r] with
  | none => simp only [retime_eng, h]
  | some rec =>
    simp only [retime_eng, h, hreq, retime_field, retime_endRecord]
    rcases s.requestStart rec.b false with ⟨t, st⟩
    cases st <;> rfl

@[simp] theorem retime_startEvaluation (r) : (s.retime b).startEvaluation r = (s.startEvaluation r).retime b := by
  unfold State.startEvaluation
  cases h : s.eng.records[r] with
  | none => simp only [retime_eng, h]
  | some rec =>
    simp only [retime_eng, h, retime_fieldPos, retime_giveStart]
    refine retime_ite b Iff.rfl ?_ rfl
    rcases s.fieldPos rec.a with _ | q
    · rfl
    · exact retime_ite b Iff.rfl rfl rfl

@[simp] theorem retime_decideLock (r) : (s.retime b).decideLock r = (s.decideLock r).retime b := by
  unfold State.decideLock
  rw [retime_decisionPositions]
  rcases s.decisionPositions r with _ | ⟨rec, qa, qb⟩
  · rfl
  · simp only [retime_updRec, retime_field, retime_pass, retime_endRecord, retime_giveStop, retime_addDue]
    rcases decideCut s.field (qb.reach rec.q - qa.reach rec.p) (qa.reach rec.p) (qb.reach rec.q) rec.tolerance rec.policy rec.margin
      <;> rfl

@[simp] theorem retime_switchCutTest (r) : (s.retime b).switchCutTest r = (s.switchCutTest r).retime b := by
  unfold State.switchCutTest
  cases h : s.eng.records[r] with
  | none => simp only [retime_eng, h]
  | some rec =>
    simp only [retime_eng, h, retime_route, retime_field, retime_isl, retime_updTake, retime_updRec, retime_endRecord]
    rcases rec.planned with _ | planned
    · rfl
    · rcases s.route[rec.b] with _ | ⟨i, q⟩
      · rfl
      · exact retime_ite b Iff.rfl (retime_ite b Iff.rfl rfl rfl) rfl

@[simp] theorem retime_mirrorCutTest (r) : (s.retime b).mirrorCutTest r = (s.mirrorCutTest r).retime b := by
  unfold State.mirrorCutTest
  cases h : s.eng.records[r] with
  | none => simp only [retime_eng, h]
  | some rec =>
    simp only [retime_eng, h, retime_claimedBy, retime_route, retime_field, retime_isl, retime_mirrorCommand, retime_updRec,
      retime_endRecord]
    rcases rec.planned with _ | planned
    · rfl
    · rcases s.claimedBy r with _ | i
      · rfl
      · rcases s.route[rec.b] with _ | ⟨j, q⟩
        · rfl
        · exact retime_ite b Iff.rfl (retime_ite b Iff.rfl rfl rfl) rfl

@[simp] theorem retime_enterTailout (r) : (s.retime b).enterTailout r = (s.enterTailout r).retime b := by
  unfold State.enterTailout
  cases h : s.eng.records[r] with
  | none => simp only [retime_eng, h]
  | some rec =>
    simp only [retime_eng, h, retime_fieldPos, retime_field, retime_updRec, retime_releaseClaim, retime_endRecord,
      retime_tailoutTest]
    rcases rec.tailOut <;> rfl

/-! ### Islands, takes, and the waiting steps -/

@[simp] theorem retime_raiseMismatch (i) : (s.retime b).raiseMismatch i = (s.raiseMismatch i).retime b := by
  unfold State.raiseMismatch
  simp only [retime_updIsl, retime_pass, retime_engineMismatch]

@[simp] theorem retime_completeMirror (i) : (s.retime b).completeMirror i = (s.completeMirror i).retime b := by
  have htail : ∀ f r, ((s.retime b).updIsl i f).enterTailout r = ((s.updIsl i f).enterTailout r).retime b :=
    fun f r => retime_enterTailout b (s.updIsl i f) r
  unfold State.completeMirror
  cases h1 : s.isl[i].pending with
  | none => simp only [retime_isl, h1]
  | some cmd =>
    cases h2 : s.isl[i].claim with
    | none =>
      simp only [retime_isl, h1, h2]
      exact retime_ite b Iff.rfl rfl rfl
    | some r =>
      simp only [retime_isl, h1, h2]
      exact retime_ite b Iff.rfl (retime_ite b Iff.rfl (htail _ r) rfl) rfl

@[simp] theorem retime_failMirror (i) : (s.retime b).failMirror i = (s.failMirror i).retime b := by
  have hraise : ∀ f, ((s.retime b).updIsl i f).raiseMismatch i = ((s.updIsl i f).raiseMismatch i).retime b :=
    fun f => retime_raiseMismatch b (s.updIsl i f) i
  unfold State.failMirror
  cases h : s.isl[i].pending with
  | none => simp only [retime_isl, h]
  | some cmd =>
    simp only [retime_isl, h]
    exact retime_ite b Iff.rfl (hraise _) rfl

@[simp] theorem retime_countDeferrals (g) : (s.retime b).countDeferrals g = (s.countDeferrals g).retime b := by
  refine retime_foldl (f := fun s r => if s.slotDue r && decide (g ≠ some (.record r)) then s.updTake (fun t =>
    { t with slots := t.slots.set r (t.slots[r].map (fun q => { q with deferrals := satInc 255 q.deferrals })) }) else s) b s
    (fun s r => ?_) allRec
  exact retime_ite b Iff.rfl rfl rfl

@[simp] theorem retime_judgeWindow : (s.retime b).judgeWindow = s.judgeWindow.retime b := by
  unfold State.judgeWindow
  cases h : s.take.window with
  | none => simp only [retime_take, h]
  | some w =>
    have hfold := retime_foldl (f := fun s i => s.passIf ((decide (w.target = some i) && !w.seenOn) || (w.previous[i] && !w.seenOff[i]))
      (.isl i .takeUnconfirmed)) b s (fun s i => retime_passIf b s _ _) allIsl
    simp only [retime_take, h, hfold, retime_updTake]

@[simp] theorem retime_grantToRecord (r n) : (s.retime b).grantToRecord r n = (s.grantToRecord r n).retime b := by
  exact retime_ite b Iff.rfl (retime_enterTailout b (s.updRec r _) r) rfl

/-- The state of an arbitration when the window to be judged is judged and the strobe to be dropped is dropped. -/
def State.readied (s : State) : State :=
  let s0 := if .windowJudged ∈ s.due then s.judgeWindow.dropDue .windowJudged else s
  if .strobeDrop ∈ s0.due then s0.dropStrobe.dropDue .strobeDrop else s0

/-- The record that a grant is for, with the deferrals of its request. -/
def State.handed (s : State) (g : Grant) : Option (Rec × Nat) :=
  match g.origin with
  | .record r => (s.take.slots[r]).map (fun q => (r, q.deferrals))
  | _ => none

/-- The grant made, with its strobe and its window (R92 to R97). -/
def State.granting (s : State) (g : Grant) : State :=
  (s.countDeferrals (some g.origin)).updTake (fun t =>
    { t.clearOrigin g.origin with
      tsrc := g.source
      strobe := true
      last := some ⟨s.field, g.source, g.origin⟩
      window := some (s.openWindow g.source) })

/-- The grant handed to its record. -/
def State.hand (s : State) : Option (Rec × Nat) → State
  | some (r, n) => s.grantToRecord r n
  | none => s

omit b in
theorem arbitrate_of_none (h : s.readied.winner = none) : s.arbitrate = s.readied.countDeferrals none := by
  unfold State.arbitrate
  extract_lets s0 s1
  have hs : s1 = s.readied := rfl
  rw [← hs] at h ⊢
  simp only [h]

omit b in
theorem arbitrate_of_some {g : Grant} (h : s.readied.winner = some g) : s.arbitrate = (s.readied.granting g).hand (s.readied.handed g) := by
  unfold State.arbitrate
  extract_lets s0 s1
  have hs : s1 = s.readied := rfl
  rw [← hs] at h ⊢
  clear_value s1
  simp only [h]
  unfold State.hand State.handed
  rcases g with ⟨r | _ | _, c⟩
  · simp only
    rcases s1.take.slots[r] with _ | q <;> rfl
  · rfl
  · rfl

theorem retime_readied : (s.retime b).readied = s.readied.retime b := by
  have h0 : (if Due.windowJudged ∈ (s.retime b).due then (s.retime b).judgeWindow.dropDue .windowJudged else s.retime b)
      = (if .windowJudged ∈ s.due then s.judgeWindow.dropDue .windowJudged else s).retime b :=
    retime_ite b Iff.rfl (by rw [retime_judgeWindow]; rfl) rfl
  unfold State.readied
  simp only [h0]
  exact retime_ite b Iff.rfl rfl rfl

theorem retime_granting (g) : (s.retime b).granting g = (s.granting g).retime b := by
  unfold State.granting
  simp only [retime_countDeferrals, retime_field, retime_openWindow, retime_updTake]

@[simp] theorem retime_arbitrate : (s.retime b).arbitrate = s.arbitrate.retime b := by
  cases h : s.readied.winner with
  | none =>
    rw [arbitrate_of_none s h, arbitrate_of_none (s.retime b) (by rw [retime_readied, retime_winner, h]), retime_readied,
      retime_countDeferrals]
  | some g =>
    rw [arbitrate_of_some s h, arbitrate_of_some (s.retime b) (by rw [retime_readied, retime_winner, h]), retime_readied,
      retime_granting]
    show State.hand _ (s.readied.handed g) = _
    rcases s.readied.handed g with _ | ⟨r, n⟩
    · rfl
    · exact retime_grantToRecord b _ r n

@[simp] theorem retime_failLamp (p) : (s.retime b).failLamp p = (s.failLamp p).retime b := by
  exact retime_ite b Iff.rfl rfl (congrArg (fun x => x.dropDue (.runupTimeout p)) (retime_enterFault b s p _))

@[simp] theorem retime_endStrike (p) : (s.retime b).endStrike p = (s.endStrike p).retime b := by
  exact retime_ite b Iff.rfl (retime_ite b Iff.rfl rfl (retime_enterFault b s p _)) rfl

@[simp] theorem retime_effect (d) : (s.retime b).effect d = (s.effect d).retime b := by
  cases d with
  | runupTimeout p => exact retime_ite b Iff.rfl (congrArg (fun x => x.dropDue (.lampFail p)) (retime_enterFault b s p _)) rfl
  | coastEnd p => exact retime_ite b Iff.rfl rfl rfl
  | _ => simp only [State.effect, retime_endStrike, retime_failLamp, retime_declareLock, retime_correctSlip, retime_missEdge,
      retime_completeMirror, retime_failMirror, retime_arbitrate, retime_dropStrobe, retime_judgeWindow, retime_startEvaluation,
      retime_decideLock, retime_switchCutTest, retime_mirrorCutTest]

@[simp] theorem retime_takeDue (d) : (s.retime b).takeDue d = (s.takeDue d).retime b := by
  have h := retime_canTake b s d
  refine retime_ite b ?_ (retime_effect b (s.dropDue d) d) rfl
  rw [h]
  rfl

/-- What waits is settled to the same blocks whatever the timebase holds beside the field. -/
theorem retime_settle : (s.retime b).settle = s.settle.retime b := by
  unfold State.settle State.takeDues
  generalize dueOrder = l
  exact retime_ite b Iff.rfl rfl (congrArg (fun x => ({ x with due := [] } : State)) (retime_foldl b s (fun s d => retime_takeDue b s d) l))

end Sys2Proof.Machine
end

section
/-! The order of the reactions to a boundary, and the state in which they begin (R8). -/

namespace Sys2Proof.Machine
open Sys2Proof.Claims

/-! ### Lists without repetition -/

/-- A list cut at a member that it holds once. -/
theorem exists_split_of_nodup {α : Type} {l : List α} (hl : l.Nodup) {x : α} (hx : x ∈ l) :
    ∃ l1 l2, l = l1 ++ x :: l2 ∧ x ∉ l1 ∧ x ∉ l2 := by
  obtain ⟨l1, l2, rfl⟩ := List.append_of_mem hx
  have h := (List.nodup_middle.1 hl)
  rw [List.nodup_cons, List.mem_append] at h
  exact ⟨l1, l2, rfl, fun h1 => h.1 (.inl h1), fun h2 => h.1 (.inr h2)⟩

/-- What every operation of a fold keeps, the fold keeps. -/
theorem foldl_inv {σ α : Type} {f : σ → α → σ} {I : σ → Prop} {l : List α} (hf : ∀ s, ∀ x ∈ l, I s → I (f s x)) {s : σ}
    (hs : I s) : I (l.foldl f s) := by
  induction l generalizing s with
  | nil => exact hs
  | cons x l ih => exact ih (fun s y hy => hf s y (List.mem_cons_of_mem x hy)) (hf s x List.mem_cons_self hs)

/-- A fold that comes to one member among others: what holds before it, what it brings about, and what then stays. -/
theorem foldl_at {σ α : Type} {f : σ → α → σ} {I J : σ → Prop} {l : List α} (hl : l.Nodup) {x : α} (hx : x ∈ l)
    (before : ∀ s, ∀ y ∈ l, y ≠ x → I s → I (f s y)) (at_ : ∀ s, I s → J (f s x))
    (after : ∀ s, ∀ y ∈ l, y ≠ x → J s → J (f s y)) {s : σ} (hs : I s) : J (l.foldl f s) := by
  obtain ⟨l1, l2, rfl, h1, h2⟩ := exists_split_of_nodup hl hx
  rw [List.foldl_append, List.foldl_cons]
  refine foldl_inv (fun s y hy => after s y (by simp [hy]) (fun h => h2 (h ▸ hy))) (at_ _ ?_)
  exact foldl_inv (fun s y hy => before s y (by simp [hy]) (fun h => h1 (h ▸ hy))) hs

section Order
variable {α : Type} [DecidableEq α]

/-- A list with the new members of another appended. -/
def joined (acc l : List α) : List α := l.foldl (fun acc x => if x ∈ acc then acc else acc ++ [x]) acc

theorem mem_joined (acc l : List α) (x : α) : x ∈ joined acc l ↔ x ∈ acc ∨ x ∈ l := by
  induction l generalizing acc with
  | nil => simp [joined]
  | cons y l ih =>
    rw [joined, List.foldl_cons, ← joined, ih]
    split
    · rename_i h
      constructor
      · rintro (h1 | h1) <;> simp [h1]
      · rintro (h1 | h1)
        · exact .inl h1
        · rcases List.mem_cons.1 h1 with rfl | h2
          · exact .inl h
          · exact .inr h2
    · simp only [List.mem_append, List.mem_cons, List.not_mem_nil, false_or, or_assoc]

theorem nodup_joined {acc : List α} (h : acc.Nodup) (l : List α) : (joined acc l).Nodup := by
  induction l generalizing acc with
  | nil => exact h
  | cons y l ih =>
    rw [joined, List.foldl_cons, ← joined]
    split
    · exact ih h
    · rename_i hy
      exact ih (List.nodup_append.2 ⟨h, List.nodup_singleton y, fun a ha b hb => by
        rw [List.mem_singleton.1 hb]
        exact fun hab => hy (hab ▸ ha)⟩)

/-- A list keeps its place at the front. -/
theorem exists_joined_eq (acc l : List α) : ∃ rest, joined acc l = acc ++ rest := by
  induction l generalizing acc with
  | nil => exact ⟨[], by simp [joined]⟩
  | cons y l ih =>
    rw [joined, List.foldl_cons, ← joined]
    split
    · exact ih acc
    · obtain ⟨rest, h⟩ := ih (acc ++ [y])
      exact ⟨y :: rest, by rw [h, List.append_assoc]; rfl⟩

/-- New members that do not repeat are appended as they stand. -/
theorem joined_of_nodup (acc : List α) {l : List α} (hl : l.Nodup) : joined acc l = acc ++ l.filter (fun x => x ∉ acc) := by
  induction l generalizing acc with
  | nil => simp [joined]
  | cons y l ih =>
    obtain ⟨hy, hl⟩ := List.nodup_cons.1 hl
    rw [joined, List.foldl_cons, ← joined]
    split
    · rename_i h
      rw [ih _ hl, List.filter_cons_of_neg (by simpa using h)]
    · rename_i h
      rw [ih _ hl, List.filter_cons_of_pos (by simpa using h), List.append_assoc]
      have : l.filter (fun x => decide (x ∉ acc ++ [y])) = l.filter (fun x => decide (x ∉ acc)) :=
        List.filter_congr fun x hx => by
          have : x ≠ y := fun h => hy (h ▸ hx)
          simp [this]
      rw [this]
      rfl

end Order

/-! ### The order of the reactions -/

/-- A reaction that moves a tracker, a channel or the islands. -/
def Part.isBlock : Part → Bool
  | .tracker _ | .channel _ | .islands => true
  | _ => false

/-- The blocks in the order of those that an order leaves out. -/
def blockParts : List Part := allProj.map .tracker ++ allProj.map .channel ++ [.islands]

/-- The arming attempts in their order. -/
def armingParts : List Part := allProj.map .arming

theorem allParts_eq : allParts = (blockParts ++ armingParts) ++ [.take] := rfl

theorem allParts_nodup : allParts.Nodup := by decide

theorem mem_blockParts (x : Part) : x ∈ blockParts ↔ Part.isBlock x = true := by
  cases x with
  | tracker p => simp [blockParts, Part.isBlock, mem_allProj]
  | channel p => simp [blockParts, Part.isBlock, mem_allProj]
  | islands => simp [blockParts, Part.isBlock]
  | arming p => simp [blockParts, Part.isBlock]
  | take => simp [blockParts, Part.isBlock]
  | step d => simp [blockParts, Part.isBlock]

theorem mem_allParts_of_block {x : Part} (h : Part.isBlock x = true) : x ∈ allParts := by
  rw [allParts_eq]
  exact List.mem_append_left _ (List.mem_append_left _ ((mem_blockParts x).2 h))

/-- The reactions that an order names. -/
def namedParts (o : BoundaryOrder) : List Part := joined [] (o.parts.flatMap Part.named)

theorem partOrder_eq (o : BoundaryOrder) : partOrder o = namedParts o ++ allParts.filter (fun x => x ∉ namedParts o) := by
  unfold partOrder fullOrder
  rw [List.foldl_append]
  exact joined_of_nodup _ allParts_nodup

theorem partOrder_nodup (o : BoundaryOrder) : (partOrder o).Nodup := nodup_joined List.nodup_nil _

theorem mem_partOrder (o : BoundaryOrder) {x : Part} (h : x ∈ allParts) : x ∈ partOrder o :=
  (mem_joined _ _ x).2 (.inr (List.mem_append_right _ h))

theorem mem_namedParts (o : BoundaryOrder) (x : Part) : x ∈ namedParts o ↔ ∃ y ∈ o.parts, x ∈ Part.named y := by
  simp only [namedParts, mem_joined, List.not_mem_nil, false_or, List.mem_flatMap]

/-- An order that names no arbitration has it last. -/
theorem partOrder_take_last {o : BoundaryOrder} (h : .take ∉ o.parts) : ∃ l, partOrder o = l ++ [.take] ∧ .take ∉ l := by
  have hnamed : .take ∉ namedParts o := by
    rw [mem_namedParts]
    rintro ⟨y, hy, hmem⟩
    cases y <;> simp_all [Part.named]
  have heq : partOrder o = (namedParts o ++ (blockParts ++ armingParts).filter (fun x => x ∉ namedParts o)) ++ [.take] := by
    rw [partOrder_eq, allParts_eq, List.filter_append, List.filter_cons_of_pos (by simpa using hnamed), List.filter_nil,
      List.append_assoc]
  refine ⟨_, heq, fun hmem => ?_⟩
  have hnodup := partOrder_nodup o
  rw [heq] at hnodup
  exact (List.nodup_append.1 hnodup).2.2 _ hmem _ (List.mem_singleton_self _) rfl

/-- An order that names the arbitration first has its grant next. -/
theorem partOrder_take_first {o : BoundaryOrder} (h : o.parts.head? = some .take) :
    ∃ l, partOrder o = .take :: .step .takeGrant :: l := by
  obtain ⟨ps, hps⟩ : ∃ ps, o.parts = .take :: ps := by
    cases hp : o.parts with
    | nil => rw [hp] at h; cases h
    | cons x ps => rw [hp] at h; cases h; exact ⟨ps, rfl⟩
  obtain ⟨rest, hrest⟩ := exists_joined_eq [Part.take, .step .takeGrant] (ps.flatMap Part.named ++ allParts)
  refine ⟨rest, ?_⟩
  unfold partOrder
  rw [hps]
  exact hrest

/-- An order that moves blocks alone moves them all first, then makes the arming attempts and the arbitration. -/
theorem partOrder_blocks {o : BoundaryOrder} (h : MovesBlocksAlone o) :
    ∃ l, partOrder o = l ++ armingParts ++ [.take] ∧ l.Nodup ∧ ∀ x, x ∈ l ↔ Part.isBlock x = true := by
  have hnamed : ∀ x ∈ namedParts o, Part.isBlock x = true := by
    intro x hx
    obtain ⟨y, hy, hxy⟩ := (mem_namedParts o x).1 hx
    obtain ⟨p, rfl⟩ | ⟨p, rfl⟩ | rfl := h y hy <;> simp_all [Part.named, Part.isBlock]
  have hlate : ∀ l : List Part, (∀ x ∈ l, Part.isBlock x = false) → l.filter (fun x => x ∉ namedParts o) = l := by
    intro l hl
    refine List.filter_eq_self.2 fun x hx => ?_
    have hx' := hl x hx
    simp only [decide_eq_true_eq]
    exact fun hmem => by rw [hnamed x hmem] at hx'; cases hx'
  have heq : partOrder o = (namedParts o ++ blockParts.filter (fun x => x ∉ namedParts o)) ++ armingParts ++ [.take] := by
    rw [partOrder_eq, allParts_eq, List.filter_append, List.filter_append, hlate armingParts, hlate [.take]]
    · simp only [List.append_assoc]
    · decide
    · decide
  have hnodup := partOrder_nodup o
  rw [heq, List.append_assoc] at hnodup
  refine ⟨_, heq, (List.nodup_append.1 hnodup).1, fun x => ?_⟩
  rw [List.mem_append, List.mem_filter]
  constructor
  · rintro (hx | ⟨hx, -⟩)
    · exact hnamed x hx
    · exact (mem_blockParts x).1 hx
  · intro hx
    by_cases hn : x ∈ namedParts o
    · exact .inl hn
    · exact .inr ⟨(mem_blockParts x).2 hx, by simpa using hn⟩

/-! ### The beginning of the field -/

/-- The steps that wait as a field begins: the records' own, the judgement of a window and the drop of the strobe (R93, R97). -/
def beginDues (z : State) (n : Field) : List Due :=
  allRec.flatMap (fun r => (z.eng.records[r]).elim [] (dueOfRecord r))
    ++ (if z.take.window.any (fun w => decide (5 ≤ fieldDiff n w.take)) then [.windowJudged] else [])
    ++ (if z.take.strobe then [.strobeDrop] else [])

/-- The state in which the reactions to a boundary begin, from the one that the boundary found: the flags are sampled, the tallies of
the field before are fixed and the first steps wait; an event of the device may have been passed. -/
structure Begun (z y : State) (n : Field) (inSync : Bool) : Prop where
  eq : y = { z with
    tb := y.tb, isl := y.isl, alarm := y.alarm, line := { z.line with queue := y.line.queue, discarded := y.line.discarded }
    due := beginDues z n, unmoved := allProj }
  field : y.tb.field = n
  made : y.tb.madeInSync = inSync
  isl : ∀ i : Isl, y.isl[i] = { z.isl[i] with tallyBefore := z.isl[i].tally.getD false }
  flags : ∀ p : Proj, y.alarm.flags[p] = ⟨z.pins.proj[p].lampok, z.pins.proj[p].loop, z.pins.proj[p].tail⟩
  latched : ∀ a, (z.alarm.get a).set = true → (y.alarm.get a).set = true
  tally : ∀ i, y.alarm.get (.isl i .tallyChange) = z.alarm.get (.isl i .tallyChange)
  queue : y.line.queue.length ≤ z.line.queue.length + 1

/-- A post adds no more than its notice. -/
theorem post_queue_length (s : State) (n : Notice) : (s.post n).line.queue.length ≤ s.line.queue.length + 1 := by
  have hlost : ∀ s : State, s.passNoticeLost.line.queue = s.line.queue := by
    intro s
    unfold State.passNoticeLost
    simp only
    split
    · rfl
    · split <;> rfl
  unfold State.post
  split
  · simp [State.enqueue]
  · rw [hlost]
    exact Nat.le_succ _

theorem pass_queue_length (s : State) (a : AlarmId) : (s.pass a).line.queue.length ≤ s.line.queue.length + 1 := by
  unfold State.pass
  simp only
  split
  · exact Nat.le_succ _
  · split
    · exact post_queue_length _ _
    · exact Nat.le_succ _

theorem beginField_eq (s : State) (inSync : Bool) : s.beginField inSync = { s.settle with
    tb := { s.settle.tb with field := s.settle.tb.field + 1, fieldStart := s.settle.now, madeInSync := inSync }
    alarm := { s.settle.alarm with flags := map8 (fun q => ⟨q.lampok, q.loop, q.tail⟩) s.settle.pins.proj }
    isl := map4 (fun u => { u with tallyBefore := u.tally.getD false }) s.settle.isl
    due := beginDues s.settle (s.settle.tb.field + 1)
    unmoved := allProj } := by
  have hadd : ∀ (s : State) (c : Bool) (d : Due), s.addDueIf c d = { s with due := s.due ++ if c then [d] else [] } := by
    intro s c d
    cases c
    · simp [State.addDueIf]
    · rfl
  unfold State.beginField
  extract_lets s0 s1 windowDue engine
  rw [hadd, hadd]
  rfl

/-- A boundary begins in the state that settles what waits, whatever the event has made of the timebase beside the field. -/
theorem beginField_begun (u : State) (b : Timebase) (inSync : Bool) :
    Begun u.settle ((u.retime b).beginField inSync) (u.tb.field + 1) inSync
      ∧ ((u.retime b).beginField inSync).tb
        = { b with field := u.tb.field + 1, fieldStart := u.now, madeInSync := inSync } := by
  have hs := settle_steady (S := .any) u any_open any_takes
  rw [beginField_eq, retime_settle]
  have hfield : (u.settle.retime b).tb.field = u.tb.field := by
    show u.settle.tb.field = _
    rw [hs.tb]
  rw [hfield]
  refine ⟨⟨rfl, rfl, rfl, fun i => ?_, fun p => ?_, fun a h => ?_, fun i => rfl, Nat.le_succ _⟩, ?_⟩
  · simp only [Fin.getElem_fin, getElem_map4]
    rfl
  · simp only [Fin.getElem_fin, getElem_map8]
    rfl
  · cases a <;> exact h
  · show Timebase.mk _ _ _ _ _ _ _ (u.settle.now) _ = _
    rw [hs.now]
    rfl

/-- An event of the device passed as the field begins leaves the state one in which the reactions begin. -/
theorem Begun.pass {z y : State} {n : Field} {inSync : Bool} (h : Begun z y n inSync) (k : DevAlarm)
    (hq : y.line.queue.length ≤ z.line.queue.length) : Begun z (y.pass (.dev k)) n inSync := by
  have hp := pass_notified y (.dev k)
  have hlen := pass_queue_length y (.dev k)
  have htally := (pass_steady (S := .any) y (notTally_dev k)).tally
  refine ⟨?_, ?_, ?_, fun i => ?_, fun p => ?_, fun a ha => hp.latched a (h.latched a ha), fun i => (htally i).trans (h.tally i), by omega⟩
  · rw [hp.eq, h.eq]
  · rw [hp.tb, h.field]
  · rw [hp.tb, h.made]
  · rw [hp.isl, h.isl]
  · rw [hp.flags, h.flags]

end Sys2Proof.Machine
end

section
/-! Each reaction to a boundary, taken apart: what it moves, and the steps that it has wait (R20 to R31, R54 to R58, R82 to R88, R92, R94). -/

namespace Sys2Proof.Machine
open Sys2Proof.Claims

/-! ### Steps that come to wait -/

/-- Steps appended to those that wait. -/
def State.wait (s : State) (ds : List Due) : State := { s with due := s.due ++ ds }

theorem wait_nil (s : State) : s.wait [] = s := by simp [State.wait]

theorem wait_wait (s : State) (a b : List Due) : (s.wait a).wait b = s.wait (a ++ b) := by simp [State.wait]

theorem addDueIf_eq_wait (s : State) (c : Bool) (d : Due) : s.addDueIf c d = s.wait (if c then [d] else []) := by
  cases c
  · simp [State.addDueIf, wait_nil]
  · rfl

theorem wait_steady {S : Scope} (hS : S.Open) (s : State) (ds : List Due) (hd : S.takes ∨ .takeGrant ∉ ds) : Steady S s (s.wait ds) :=
  setDue_steady s _ hS.steps (hd.imp_right fun hd h => (List.mem_append.1 h).resolve_right hd)
    fun _ rec _ hn => absurd (hS.takes rec) hn

/-! ### The tracker -/

/-- A slip correction belongs to the present boundary (R57). -/
def State.slipsNow (s : State) (p : Proj) : Bool :=
  s.tr[p].lock = .locked && s.tr[p].slipWait.any (fun w => w.boundary = s.field)

/-- A pending lock belongs to the present boundary (R54). -/
def State.locksNow (s : State) (p : Proj) : Bool :=
  s.tr[p].lock = .search && s.tr[p].pendingLock.any (fun q => q.declare = s.field)

/-- A tracker ticked off the list of those that have yet to react. -/
def State.ticked (s : State) (p : Proj) : State := { s with unmoved := s.unmoved.filter (fun x => x ≠ p) }

/-- A tracker moved at a boundary. -/
def State.tracked (s : State) (p : Proj) : State := if s.slipsNow p then s.ticked p else (s.ticked p).cadenceAdvance p

/-- The steps of a tracker that come to wait. -/
def State.trackerDues (s : State) (p : Proj) : List Due :=
  (if s.slipsNow p then [.slipCorrection p] else [])
    ++ (if s.locksNow p then [.lockDeclared p] else [])
    ++ (if !s.slipsNow p && (s.tracked p).tr[p].edgeMissing s.field then [.missingEdge p] else [])

theorem trackerReact_eq (s : State) (p : Proj) : s.trackerReact p = (s.tracked p).wait (s.trackerDues p) := by
  unfold State.trackerReact
  extract_lets s1 n slip lock s2
  have hs2 : s2 = (s.tracked p).wait (if s.slipsNow p then [.slipCorrection p] else []) := by
    have hslip : slip = s.slipsNow p := rfl
    show (if slip = true then s1.addDue (.slipCorrection p) else s1.cadenceAdvance p) = _
    unfold State.tracked
    rw [hslip]
    cases s.slipsNow p
    · exact (wait_nil _).symm
    · rfl
  have htr : s2.tr = (s.tracked p).tr := by rw [hs2]; rfl
  clear_value s2
  rw [addDueIf_eq_wait, addDueIf_eq_wait, wait_wait, htr, hs2, wait_wait, ← List.append_assoc]
  rfl

theorem mem_trackerDues {s : State} {p : Proj} {d : Due} (h : d ∈ s.trackerDues p) :
    d = .slipCorrection p ∨ d = .lockDeclared p ∨ d = .missingEdge p := by
  unfold State.trackerDues at h
  rcases List.mem_append.1 h with h | h
  · rcases List.mem_append.1 h with h | h
    · split at h
      · exact .inl (List.mem_singleton.1 h)
      · cases h
    · split at h
      · exact .inr (.inl (List.mem_singleton.1 h))
      · cases h
  · split at h
    · exact .inr (.inr (List.mem_singleton.1 h))
    · cases h

theorem tracked_steady {S : Scope} (s : State) {p : Proj} (hp : S.Has p) : Steady S (s.ticked p) (s.tracked p) :=
  ite_steady (fun _ => Steady.refl _) (fun _ => cadenceAdvance_steady _ hp)

/-! ### The channel -/

/-- A channel that has counted a boundary. -/
def State.counted (s : State) (p : Proj) : State := s.updCh p (fun c => c.count s.field s.alarm.flags[p].lampok)

/-- The faults of LOOP and TAIL at a boundary. -/
def State.inputFaults (s : State) (p : Proj) : List ChanFault := (s.counted p).ch[p].inputFaults s.field s.alarm.flags[p]

/-- The steps of a channel that come to wait. -/
def channelDues (p : Proj) (c : Channel) : List Due :=
  (if c.state = .strike && c.strike.any Timer.reached then [.strikeEnd p] else [])
    ++ (if decide (c.lampFails = 2) then [.lampFail p] else [])
    ++ (if c.runupOut then [.runupTimeout p] else [])
    ++ (if c.state = .coast && c.isStill then [.coastEnd p] else [])

theorem channelReact_of_faults (s : State) (p : Proj) (h : s.inputFaults p ≠ []) :
    s.channelReact p = (s.counted p).enterFault p
      (s.inputFaults p ++ (s.counted p).ch[p].countFaults (decide ((s.counted p).ch[p].lampFails = 2)) true) := if_pos h

theorem channelReact_of_none (s : State) (p : Proj) (h : s.inputFaults p = []) :
    s.channelReact p = (s.counted p).wait (channelDues p (s.counted p).ch[p]) := by
  refine (if_neg (not_not.2 h)).trans ?_
  simp only [addDueIf_eq_wait, wait_wait]
  rfl

theorem mem_channelDues {p : Proj} {c : Channel} {d : Due} (h : d ∈ channelDues p c) :
    d = .strikeEnd p ∨ d = .lampFail p ∨ d = .runupTimeout p ∨ d = .coastEnd p := by
  unfold channelDues at h
  rcases List.mem_append.1 h with h | h
  · rcases List.mem_append.1 h with h | h
    · rcases List.mem_append.1 h with h | h
      · split at h
        · exact .inl (List.mem_singleton.1 h)
        · cases h
      · split at h
        · exact .inr (.inl (List.mem_singleton.1 h))
        · cases h
    · split at h
      · exact .inr (.inr (.inl (List.mem_singleton.1 h)))
      · cases h
  · split at h
    · exact .inr (.inr (.inr (List.mem_singleton.1 h)))
    · cases h

/-! ### The islands -/

/-- The mirror is settled on the commanded port by a reading (R82). -/
def Island.home (u : Island) (reading : Fin 4) : Bool := settledBy u.reading reading = some u.commanded

/-- A reading makes the mirror leave the commanded port with no command pending (R85). -/
def Island.drifting (u : Island) (reading : Fin 4) : Bool :=
  u.pending.isNone && !u.wasPending && decide (u.settled = some u.commanded) && !u.home reading

/-- An island after a reading of its mirror (R82, R85). -/
def Island.read (u : Island) (reading : Fin 4) : Island :=
  { u with
    reading := some reading
    settled := settledBy u.reading reading
    wasPending := u.pending.isSome
    mismatch := u.mismatch && !u.home reading }

/-- The steps of a mirror that come to wait. -/
def mirrorDues (i : Isl) (u : Island) (reading : Fin 4) (n : Field) : List Due :=
  match u.pending with
  | none => []
  | some cmd =>
    if settledBy u.reading reading = some cmd.port then [.mirrorComplete i]
    else if fieldReached cmd.deadline n then [.mirrorDeadline i] else []

/-- The mirror of an island read, and its drift raised. -/
def State.mirrorRead (s : State) (i : Isl) : State :=
  let s1 := s.updIsl i (fun u => u.read s.pins.isl[i].mpos)
  if s.isl[i].drifting s.pins.isl[i].mpos then s1.raiseMismatch i else s1

theorem raiseMismatch_field (s : State) (i : Isl) : (s.raiseMismatch i).field = s.field :=
  (raiseMismatch_steady (S := .any) s i any_open).field

theorem readMirror_eq (s : State) (i : Isl) :
    s.readMirror i = (s.mirrorRead i).wait (mirrorDues i s.isl[i] s.pins.isl[i].mpos s.field) := by
  have hfield : (s.mirrorRead i).field = s.field := by
    unfold State.mirrorRead
    simp only
    split
    · rw [raiseMismatch_field]
      rfl
    · rfl
  have hread : s.readMirror i = (match s.isl[i].pending with
      | none => s.mirrorRead i
      | some cmd =>
        if settledBy s.isl[i].reading s.pins.isl[i].mpos = some cmd.port then (s.mirrorRead i).addDue (.mirrorComplete i)
        else (s.mirrorRead i).addDueIf (fieldReached cmd.deadline s.field) (.mirrorDeadline i)) := by
    unfold State.readMirror
    rfl
  rw [hread]
  unfold mirrorDues
  cases s.isl[i].pending with
  | none => exact (wait_nil _).symm
  | some cmd =>
    simp only
    split
    · rfl
    · rw [addDueIf_eq_wait]

theorem mem_mirrorDues {i : Isl} {u : Island} {q : Fin 4} {n : Field} {d : Due} (h : d ∈ mirrorDues i u q n) :
    d = .mirrorComplete i ∨ d = .mirrorDeadline i := by
  unfold mirrorDues at h
  split at h
  · cases h
  · split at h
    · exact .inl (List.mem_singleton.1 h)
    · split at h
      · exact .inr (List.mem_singleton.1 h)
      · cases h

/-- A take of the last four fields accounts for a change of tally (R98). -/
def State.ascribed (s : State) : Bool :=
  s.take.last.any (fun t => decide (1 ≤ fieldDiff s.field t.field) && decide (fieldDiff s.field t.field ≤ 4))

/-- A tally changes from one reading to the next (R98). -/
def Island.tallyTurns (u : Island) (tly : Bool) : Bool := u.tally = some (!tly)

theorem readTally_eq (s : State) (i : Isl) : s.readTally i =
    (s.updIsl i (fun u => { u with tally := some s.pins.isl[i].tly })).passIf
      (s.isl[i].tallyTurns s.pins.isl[i].tly && !s.ascribed) (.isl i .tallyChange) := by
  unfold State.readTally Island.tallyTurns
  simp only
  cases s.isl[i].tally with
  | none => rfl
  | some b =>
    simp only
    by_cases h : b = s.pins.isl[i].tly
    · have : decide (some b = some (!s.pins.isl[i].tly)) = false := by
        rw [h]
        cases s.pins.isl[i].tly <;> rfl
      rw [if_pos h, this]
      rfl
    · have : decide (some b = some (!s.pins.isl[i].tly)) = true := by
        revert h
        cases b <;> cases s.pins.isl[i].tly <;> decide
      rw [if_neg h, this]
      show (if State.ascribed _ = true then _ else _) = _
      have hasc : State.ascribed (s.updIsl i (fun u => { u with tally := some s.pins.isl[i].tly })) = s.ascribed := rfl
      rw [hasc]
      cases s.ascribed <;> rfl

end Sys2Proof.Machine
end

section
/-! What a reaction of the blocks leaves of what it does not concern, and the islands' reaction, island by island (R82 to R88, R97,
R98). -/

namespace Sys2Proof.Machine
open Sys2Proof.Claims

/-! ### The frame of a reaction -/

/-- What a reaction of the blocks within a scope leaves, the islands of a set being read: the inputs, the clock of fields, the films of
other projectors, the readings of other islands, the records of other projectors, the takes made, and the steps that wait but for those
of its own projectors and islands and of the records that it ends. -/
structure Within (S : Scope) (P : Isl → Prop) (s t : State) : Prop where
  pins : t.pins = s.pins
  tb : t.tb = s.tb
  estop : t.estop = s.estop
  unmoved : ∀ p ∈ t.unmoved, p ∈ s.unmoved
  flags : t.alarm.flags = s.alarm.flags
  latched : ∀ a, (s.alarm.get a).set = true → (t.alarm.get a).set = true
  isl : ∀ i : Isl, ¬P i → s.isl[i].Same t.isl[i]
  tally : ∀ i, ¬P i → t.alarm.get (.isl i .tallyChange) = s.alarm.get (.isl i .tallyChange)
  films : ∀ p : Proj, ¬S.film p →
    t.ch[p] = s.ch[p] ∧ t.tr[p] = s.tr[p] ∧ t.det[p] = s.det[p] ∧ t.cues.lists[p] = s.cues.lists[p]
  shrink : ∀ p : Proj, ∀ e ∈ t.cues.lists[p], e ∈ s.cues.lists[p]
  records : ∀ (r : Rec) (rec : Record), s.eng.records[r] = some rec → ¬S.Takes rec →
    t.eng.records[r] = some rec ∧ t.take.slots[r] = s.take.slots[r] ∧ ∀ d ∈ s.due, d.ofRec r = true → d ∈ t.due
  olds : ¬S.arms → (∀ (i : Isl) (r : Rec), t.isl[i].claim = some r → s.isl[i].claim = some r)
    ∧ (∀ (r : Rec) (rec : Record), t.eng.records[r] = some rec →
      ∃ old, s.eng.records[r] = some old ∧ rec = { old with flags := rec.flags })
    ∧ ∀ r : Rec, s.take.slots[r] = none → t.take.slots[r] = none
  take : t.take = { s.take with slots := t.take.slots, protective := t.take.protective, window := t.take.window }
  window : ¬S.takes → t.take.window = s.take.window
  waits : ∀ d ∈ t.due, d ∈ s.due ∨ (∃ p, S.film p ∧ d ∈ projSteps p) ∨ ∃ i, P i ∧ (d = .mirrorComplete i ∨ d = .mirrorDeadline i)
  kept : ∀ d ∈ s.due, d.Free → d ∈ t.due
  mirrors : NoMirrorLock s → NoMirrorLock t
    ∧ (∀ i : Isl, ¬P i → t.isl[i].commanded = s.isl[i].commanded ∧ t.isl[i].pending = s.isl[i].pending
      ∧ t.isl[i].mismatch = s.isl[i].mismatch)
    ∧ ∀ d ∈ s.due, d.ofMirror = true → d ∈ t.due
  idle : ∀ i : Isl, ¬P i → t.isl[i].pending = none → s.isl[i].pending = none ∧ t.isl[i].commanded = s.isl[i].commanded

namespace Within
variable {S : Scope} {P Q : Isl → Prop} {s t u : State}

theorem refl (s : State) : Within S P s s where
  pins := rfl
  tb := rfl
  estop := rfl
  unmoved _ h := h
  flags := rfl
  latched _ h := h
  isl _ _ := rfl
  tally _ _ := rfl
  films _ _ := ⟨rfl, rfl, rfl, rfl⟩
  shrink _ _ h := h
  records _ _ h _ := ⟨h, rfl, fun _ hd _ => hd⟩
  olds _ := ⟨fun _ _ h => h, fun _ rec h => ⟨rec, h, rfl⟩, fun _ h => h⟩
  take := rfl
  window _ := rfl
  waits _ h := .inl h
  kept _ h _ := h
  mirrors h := ⟨h, fun _ _ => ⟨rfl, rfl, rfl⟩, fun _ hd _ => hd⟩
  idle _ _ h := ⟨h, rfl⟩

theorem trans (h : Within S P s t) (k : Within S P t u) : Within S P s u where
  pins := k.pins.trans h.pins
  tb := k.tb.trans h.tb
  estop := k.estop.trans h.estop
  unmoved p hp := h.unmoved p (k.unmoved p hp)
  flags := k.flags.trans h.flags
  latched a x := k.latched a (h.latched a x)
  isl i hi := (h.isl i hi).trans (k.isl i hi)
  tally i hi := (k.tally i hi).trans (h.tally i hi)
  films p hp := by
    obtain ⟨h1, h2, h3, h4⟩ := h.films p hp
    obtain ⟨k1, k2, k3, k4⟩ := k.films p hp
    exact ⟨k1.trans h1, k2.trans h2, k3.trans h3, k4.trans h4⟩
  shrink p e he := h.shrink p e (k.shrink p e he)
  records r rec hr hn := by
    obtain ⟨h1, h2, h3⟩ := h.records r rec hr hn
    obtain ⟨k1, k2, k3⟩ := k.records r rec h1 hn
    exact ⟨k1, k2.trans h2, fun d hd ho => k3 d (h3 d hd ho) ho⟩
  olds hS := by
    obtain ⟨h1, h2, h3⟩ := h.olds hS
    obtain ⟨k1, k2, k3⟩ := k.olds hS
    refine ⟨fun i r hr => h1 i r (k1 i r hr), fun r rec hr => ?_, fun r hr => k3 r (h3 r hr)⟩
    obtain ⟨mid, hmid, hrec⟩ := k2 r rec hr
    obtain ⟨old, hold, hmid'⟩ := h2 r mid hmid
    exact ⟨old, hold, by rw [hrec, hmid']⟩
  take := by rw [k.take, h.take]
  window hS := (k.window hS).trans (h.window hS)
  waits d hd := (k.waits d hd).elim (h.waits d) .inr
  kept d hd ho := k.kept d (h.kept d hd ho) ho
  mirrors hm := by
    obtain ⟨h1, h2, h3⟩ := h.mirrors hm
    obtain ⟨k1, k2, k3⟩ := k.mirrors h1
    refine ⟨k1, fun i hi => ?_, fun d hd ho => k3 d (h3 d hd ho) ho⟩
    obtain ⟨hc, hp, hmm⟩ := h2 i hi
    obtain ⟨kc, kp, kmm⟩ := k2 i hi
    exact ⟨kc.trans hc, kp.trans hp, kmm.trans hmm⟩
  idle i hi hn := by
    obtain ⟨k1, k2⟩ := k.idle i hi hn
    obtain ⟨h1, h2⟩ := h.idle i hi k1
    exact ⟨h1, k2.trans h2⟩

theorem mono (h : Within S P s t) (hPQ : ∀ i, P i → Q i) : Within S Q s t :=
  { h with
    isl := fun i hi => h.isl i fun hp => hi (hPQ i hp)
    tally := fun i hi => h.tally i fun hp => hi (hPQ i hp)
    waits := fun d hd => (h.waits d hd).imp_right fun x => x.imp_right fun ⟨i, hp, he⟩ => ⟨i, hPQ i hp, he⟩
    mirrors := fun hm => (h.mirrors hm).imp_right fun ⟨h2, h3⟩ => ⟨fun i hi => h2 i fun hp => hi (hPQ i hp), h3⟩
    idle := fun i hi => h.idle i fun hp => hi (hPQ i hp) }

variable (h : Within S P s t)
include h

theorem field : t.field = s.field := by rw [State.field, State.field, h.tb]
theorem last : t.take.last = s.take.last := by rw [h.take]
theorem ascribed : t.ascribed = s.ascribed := by rw [State.ascribed, State.ascribed, h.last, h.field]

end Within

variable {S : Scope} {P : Isl → Prop}

/-- What keeps so much without the steps and the take port stays within its scope. -/
theorem Steady.within {s t : State} (h : Steady S s t) (hsteps : ¬S.steps) (htakes : ¬S.takes) : Within S P s t where
  pins := h.pins
  tb := h.tb
  estop := h.estop
  unmoved p hp := h.unmoved ▸ hp
  flags := h.flags
  latched := h.latched
  isl i _ := h.same_isl i
  tally i _ := h.tally i
  films := h.others
  shrink := h.shrink
  records := h.records
  olds := h.olds
  take := by rw [(h.calm htakes).1]
  window _ := by rw [(h.calm htakes).1]
  waits d hd := .inl ((h.waits hsteps).1 d hd)
  kept := (h.waits hsteps).2
  mirrors hm := (h.mirrors hsteps hm).imp_right fun ⟨h2, h3⟩ => ⟨fun i _ => h2 i, h3⟩
  idle i _ := h.idle hsteps i

/-- Steps of its own that a reaction has wait. -/
theorem wait_within (s : State) (ds : List Due)
    (hd : ∀ d ∈ ds, (∃ p, S.film p ∧ d ∈ projSteps p) ∨ ∃ i, P i ∧ (d = .mirrorComplete i ∨ d = .mirrorDeadline i)) :
    Within S P s (s.wait ds) :=
  { Within.refl s with
    records := fun _ _ h _ => ⟨h, rfl, fun _ hd _ => List.mem_append_left _ hd⟩
    waits := fun d h => (List.mem_append.1 h).imp_right (hd d)
    kept := fun _ h _ => List.mem_append_left _ h
    mirrors := fun hm => ⟨hm, fun _ _ => ⟨rfl, rfl, rfl⟩, fun _ h _ => List.mem_append_left _ h⟩ }

/-- The scope of a reaction of the islands, which ends records of some projectors. -/
def Scope.ending (R : Proj → Prop) : Scope := ⟨fun _ => False, R, False, False, False⟩

/-! ### One island -/

/-- An island after a reading of its mirror, with the mismatch of a drift (R82, R85). -/
def Island.readAll (u : Island) (reading : Fin 4) : Island :=
  { u.read reading with mismatch := (u.read reading).mismatch || u.drifting reading }

/-- The records that a drift at a boundary ends lie in the scope (R155). -/
def DriftsWithin (R : Proj → Prop) (s : State) (i : Isl) : Prop :=
  s.isl[i].drifting s.pins.isl[i].mpos = true →
    ∀ r rec, s.isl[i].claim = some r → s.eng.records[r] = some rec → rec.state ≠ .tailout → R rec.a ∨ R rec.b

variable {R : Proj → Prop}

/-- An island read touches that island alone. -/
theorem updIsl_within (s : State) {i : Isl} (hi : P i) (f : Island → Island) (hf : (f s.isl[i]).claim = s.isl[i].claim) :
    Within S P s (s.updIsl i f) := by
  have hother : ∀ j : Isl, ¬P j → (s.updIsl i f).isl[j] = s.isl[j] := fun j hj =>
    getElem_set_other _ _ fun h : j = i => hj (h ▸ hi)
  exact { Within.refl (S := S) (P := P) s with
    isl := fun j hj => by rw [hother j hj]; rfl
    olds := fun _ => by
      refine ⟨fun j r => ?_, fun _ rec h => ⟨rec, h, rfl⟩, fun _ h => h⟩
      have := forall_set (R := fun x y : Island => y.claim = x.claim) (fun _ => rfl) s.isl i hf j
      exact fun h => this.symm.trans h
    mirrors := fun hm => ⟨hm, fun j hj => by rw [hother j hj]; exact ⟨rfl, rfl, rfl⟩, fun _ hd _ => hd⟩
    idle := fun j hj => by rw [hother j hj]; exact fun h => ⟨h, rfl⟩ }

/-- An event of an island passed. -/
theorem pass_within (s : State) (a : AlarmId) (ha : ∀ i, ¬P i → a ≠ .isl i .tallyChange) : Within S P s (s.pass a) := by
  have h := pass_notified s a
  have ht : ∀ i, ¬P i → (s.pass a).alarm.get (.isl i .tallyChange) = s.alarm.get (.isl i .tallyChange) :=
    fun i hi => pass_get_other s (ha i hi).symm nofun
  have hs := Within.refl (S := S) (P := P) s
  obtain ⟨heq, -, hlatched, hflags, -, -, -⟩ := h
  rw [heq] at ht hlatched hflags ⊢
  exact { hs with
    flags := hflags
    latched := hlatched
    tally := ht }

/-- A drift raised touches no island but for claims (R85, R155). -/
theorem raised_within (s : State) (i : Isl) (hr : ∀ r rec, s.isl[i].claim = some r → s.eng.records[r] = some rec →
    rec.state ≠ .tailout → R rec.a ∨ R rec.b) :
    Within (.ending R) P s ((s.pass (.isl i .mirrorMismatch)).engineMismatch i)
      ∧ (∀ j : Isl, ((s.pass (.isl i .mirrorMismatch)).engineMismatch i).isl[j]
          = { s.isl[j] with claim := ((s.pass (.isl i .mirrorMismatch)).engineMismatch i).isl[j].claim })
      ∧ (∀ j, ((s.pass (.isl i .mirrorMismatch)).engineMismatch i).alarm.get (.isl j .tallyChange) = s.alarm.get (.isl j .tallyChange))
      ∧ (((s.pass (.isl i .mirrorMismatch)).engineMismatch i).alarm.get (.isl i .mirrorMismatch)).set = true
      ∧ ∀ d ∈ ((s.pass (.isl i .mirrorMismatch)).engineMismatch i).due, d ∈ s.due := by
  have hp := pass_notified s (.isl i .mirrorMismatch)
  have hps : Steady (.ending R) s (s.pass (.isl i .mirrorMismatch)) := pass_steady s (notTally_mismatch i)
  have he := engineMismatch_engineOnly (s.pass (.isl i .mirrorMismatch)) i
  have hes : Steady (.ending R) (s.pass (.isl i .mirrorMismatch)) ((s.pass (.isl i .mirrorMismatch)).engineMismatch i) := by
    refine engineMismatch_steady _ i ?_
    rw [hp.isl, hp.eng]
    exact hr
  refine ⟨(hps.trans hes).within not_false not_false, fun j => ?_, (hps.trans hes).tally, he.latched _ (pass_latches s _),
    fun d hd => ?_⟩
  · rw [he.isl j, hp.isl]
  · have := he.due d hd
    rwa [hp.due] at this

/-- A reading of a mirror: the island is read, and what follows a drift touches no island but for claims. -/
theorem mirrorRead_within (s : State) {i : Isl} (hi : P i) (hr : DriftsWithin R s i) :
    Within (.ending R) P s (s.mirrorRead i)
      ∧ (s.mirrorRead i).isl[i] = { s.isl[i].readAll s.pins.isl[i].mpos with claim := (s.mirrorRead i).isl[i].claim }
      ∧ (∀ j, j ≠ i → (s.mirrorRead i).isl[j] = { s.isl[j] with claim := (s.mirrorRead i).isl[j].claim })
      ∧ (s.mirrorRead i).alarm.get (.isl i .tallyChange) = s.alarm.get (.isl i .tallyChange)
      ∧ (s.isl[i].drifting s.pins.isl[i].mpos = true → ((s.mirrorRead i).alarm.get (.isl i .mirrorMismatch)).set = true)
      ∧ ∀ d ∈ (s.mirrorRead i).due, d ∈ s.due := by
  cases hd : s.isl[i].drifting s.pins.isl[i].mpos with
  | false =>
    have hread : s.mirrorRead i = s.updIsl i (fun u => u.read s.pins.isl[i].mpos) := by
      unfold State.mirrorRead
      rw [hd]
      rfl
    rw [hread]
    refine ⟨updIsl_within s hi _ rfl, ?_, fun j hj => ?_, rfl, nofun, fun _ h => h⟩
    · simp only [State.updIsl_isl]
      rw [getElem_set_same, Island.readAll, hd, Bool.or_false]
    · simp only [State.updIsl_isl]
      rw [getElem_set_other _ _ hj]
  | true =>
    let s1 : State := s.updIsl i (fun u => u.readAll s.pins.isl[i].mpos)
    have hread : s.mirrorRead i = (s1.pass (.isl i .mirrorMismatch)).engineMismatch i := by
      have hs1 : (s.updIsl i (fun u => u.read s.pins.isl[i].mpos)).updIsl i (fun u => { u with mismatch := true }) = s1 := by
        unfold s1 State.updIsl
        congr 1
        simp only [Fin.getElem_fin, Vector.getElem_set_self, Vector.set_set]
        unfold Island.readAll
        rw [show s.isl[(i : Nat)].drifting s.pins.isl[(i : Nat)].mpos = true from hd, Bool.or_true]
      unfold State.mirrorRead
      simp only [hd, if_true]
      exact congrArg (fun x => (State.pass x (.isl i .mirrorMismatch)).engineMismatch i) hs1
    have hone : s1.isl[i] = s.isl[i].readAll s.pins.isl[i].mpos := getElem_set_same _ _ _
    obtain ⟨hwithin, hisl, htally, hset, hdue⟩ := raised_within (R := R) (P := P) s1 i (by
      rw [hone]
      exact hr hd)
    rw [hread]
    refine ⟨(updIsl_within s hi _ rfl).trans hwithin, ?_, fun j hj => ?_, htally i, fun _ => hset, hdue⟩
    · have h1 := hisl i
      rw [hone] at h1
      exact h1
    · have h1 := hisl j
      rw [show s1.isl[j] = s.isl[j] from getElem_set_other _ _ hj] at h1
      exact h1

/-- One island's reaction to a boundary. -/
def State.islandStep (s : State) (i : Isl) : State := (s.readMirror i).readTally i

/-- An island after its reaction (R82, R85, R88). -/
def Island.reacted (u : Island) (pins : IslPins) : Island := { u.readAll pins.mpos with tally := some pins.tly }

/-- What an island's reaction comes to: its readings, the judgement of its tally, its drift, and its mirror's waiting steps. -/
structure IslandReacted (s t : State) (i : Isl) : Prop where
  isl : (s.isl[i].reacted s.pins.isl[i]).Same t.isl[i]
  mirror : NoMirrorLock s → t.isl[i].commanded = s.isl[i].commanded ∧ t.isl[i].pending = s.isl[i].pending
    ∧ t.isl[i].mismatch = (s.isl[i].readAll s.pins.isl[i].mpos).mismatch
  turned : s.isl[i].tallyTurns s.pins.isl[i].tly = true → s.ascribed = false → (t.alarm.get (.isl i .tallyChange)).set = true
  unturned : s.isl[i].tallyTurns s.pins.isl[i].tly = false ∨ s.ascribed = true →
    t.alarm.get (.isl i .tallyChange) = s.alarm.get (.isl i .tallyChange)
  drifted : s.isl[i].drifting s.pins.isl[i].mpos = true → (t.alarm.get (.isl i .mirrorMismatch)).set = true
  dues : NoMirrorLock s → ∀ d : Due, d.ofMirror = true → d = .mirrorComplete i ∨ d = .mirrorDeadline i →
    (d ∈ t.due ↔ d ∈ s.due ∨ d ∈ mirrorDues i s.isl[i] s.pins.isl[i].mpos s.field)

theorem islandStep_within (s : State) {i : Isl} (hi : P i) (hr : DriftsWithin R s i) :
    Within (.ending R) P s (s.islandStep i) ∧ IslandReacted s (s.islandStep i) i
      ∧ ∀ j, j ≠ i → (s.islandStep i).isl[j] = { s.isl[j] with claim := (s.islandStep i).isl[j].claim } := by
  obtain ⟨hm, hown, hothers, htally, hdrift, hdue⟩ := mirrorRead_within (R := R) s hi hr
  let ds := mirrorDues i s.isl[i] s.pins.isl[i].mpos s.field
  let s1 := s.mirrorRead i
  let s2 := (s1.wait ds).updIsl i (fun u => { u with tally := some s1.pins.isl[i].tly })
  have hstep : s.islandStep i = s2.passIf (s1.isl[i].tallyTurns s1.pins.isl[i].tly && !s1.ascribed) (.isl i .tallyChange) := by
    unfold State.islandStep
    rw [readMirror_eq, readTally_eq]
    rfl
  have h2 : Within (.ending R) P s s2 :=
    (hm.trans (wait_within s1 ds fun d hd => .inr ⟨i, hi, mem_mirrorDues hd⟩)).trans (updIsl_within _ hi _ rfl)
  have hnote : Notified s2 (s.islandStep i) := by
    rw [hstep]
    exact passIf_notified _ _ _
  have hlast : Within (.ending R) P s2 (s.islandStep i) := by
    rw [hstep]
    unfold State.passIf
    split
    · exact pass_within _ _ fun j hj h => hj (by injection h with h _; exact h ▸ hi)
    · exact Within.refl _
  have hpins : s1.pins = s.pins := hm.pins
  have hturns : s1.isl[i].tallyTurns s1.pins.isl[i].tly = s.isl[i].tallyTurns s.pins.isl[i].tly := by
    rw [hpins]
    show (s.mirrorRead i).isl[i].tallyTurns _ = _
    rw [hown]
    rfl
  have hasc : s1.ascribed = s.ascribed := hm.ascribed
  have hisl : (s.islandStep i).isl[i]
      = { s.isl[i].reacted s.pins.isl[i] with claim := (s.islandStep i).isl[i].claim } := by
    rw [hnote.isl]
    have : s2.isl[i] = { s1.isl[i] with tally := some s1.pins.isl[i].tly } := getElem_set_same _ _ _
    rw [this, hpins]
    show { (s.mirrorRead i).isl[i] with tally := some s.pins.isl[i].tly } = _
    rw [hown]
    rfl
  refine ⟨h2.trans hlast, ⟨?_, fun _ => ?_, fun hc ha => ?_, fun hc => ?_, fun hd => hnote.latched _ (hdrift hd),
    fun hn d hd _ => ?_⟩, fun j hj => ?_⟩
  · rw [hisl]
    rfl
  · rw [hisl]
    exact ⟨rfl, rfl, rfl⟩
  · rw [hstep, hturns, hasc, hc, ha]
    exact pass_latches _ _
  · have hno : (s1.isl[i].tallyTurns s1.pins.isl[i].tly && !s1.ascribed) = false := by
      rw [hturns, hasc]
      rcases hc with hc | hc
      · rw [hc]
        rfl
      · rw [hc]
        exact Bool.and_false _
    rw [hstep, hno]
    exact htally
  · rw [hnote.due]
    show d ∈ s1.due ++ ds ↔ _
    rw [List.mem_append]
    exact or_congr_left ⟨hdue d, fun h => (hm.mirrors hn).2.2 d h hd⟩
  · rw [hnote.isl, show s2.isl[j] = s1.isl[j] from getElem_set_other _ _ hj]
    exact hothers j hj

/-! ### All the islands -/

/-- A fold over a list without repetition, with what holds after each beginning of it. -/
theorem foldl_along {σ α : Type} {f : σ → α → σ} {I : List α → σ → Prop}
    (step : ∀ done s x, x ∉ done → I done s → I (done ++ [x]) (f s x)) {l : List α} :
    ∀ {done : List α}, (done ++ l).Nodup → ∀ {s : σ}, I done s → I (done ++ l) (l.foldl f s) := by
  induction l with
  | nil =>
    intro done _ s hs
    rw [List.append_nil]
    exact hs
  | cons x l ih =>
    intro done hl s hs
    have hx : x ∉ done := fun h => (List.nodup_append.1 hl).2.2 x h x List.mem_cons_self rfl
    rw [List.append_cons] at hl ⊢
    exact ih hl (step done s x hx hs)

/-- An island's own reaction is not undone by the others'. -/
theorem IslandReacted.after {s t u : State} {i j : Isl} (h : IslandReacted s t i) (hlock : NoMirrorLock s → NoMirrorLock t)
    (k : Within (.ending R) (· = j) t u) (hij : i ≠ j) : IslandReacted s u i := by
  refine ⟨h.isl.trans (k.isl i hij), fun hn => ?_, fun h1 h2 => k.latched _ (h.turned h1 h2),
    fun h1 => (k.tally i hij).trans (h.unturned h1), fun h1 => k.latched _ (h.drifted h1), fun hn d hd hi => ?_⟩
  · obtain ⟨hc, hp, hm⟩ := h.mirror hn
    obtain ⟨kc, kp, km⟩ := (k.mirrors (hlock hn)).2.1 i hij
    exact ⟨kc.trans hc, kp.trans hp, km.trans hm⟩
  · rw [← h.dues hn d hd hi]
    refine ⟨fun hu => ?_, fun ht => (k.mirrors (hlock hn)).2.2 d ht hd⟩
    rcases k.waits d hu with ht | ⟨p, hp, _⟩ | ⟨x, rfl, hx⟩
    · exact ht
    · exact hp.elim
    · rcases hi with rfl | rfl <;> rcases hx with hx | hx <;> cases hx <;> exact absurd rfl hij

/-- What an island's reaction comes to, seen from a state in which other islands have yet to react. -/
theorem IslandReacted.of_found {s w t : State} {i : Isl} {P : Isl → Prop} (h : IslandReacted w t i) (hw : Within S P s w)
    (hown : w.isl[i] = { s.isl[i] with claim := w.isl[i].claim }) (hi : ¬P i) (hS : ∀ p, ¬S.film p) : IslandReacted s t i := by
  have hdrift : w.isl[i].drifting s.pins.isl[i].mpos = s.isl[i].drifting s.pins.isl[i].mpos := by rw [hown]; rfl
  have hturns : w.isl[i].tallyTurns s.pins.isl[i].tly = s.isl[i].tallyTurns s.pins.isl[i].tly := by rw [hown]; rfl
  have hmirror : mirrorDues i w.isl[i] s.pins.isl[i].mpos s.field = mirrorDues i s.isl[i] s.pins.isl[i].mpos s.field := by
    rw [hown]; rfl
  obtain ⟨h1, h2, h3, h4, h5, h6⟩ := h
  rw [hw.pins] at h1 h2 h3 h4 h5 h6
  rw [hturns, hw.ascribed] at h3 h4
  rw [hdrift] at h5
  rw [hw.field, hmirror] at h6
  refine ⟨?_, fun hn => ?_, h3, fun hc => (h4 hc).trans (hw.tally i hi), h5, fun hn d hd hdi => ?_⟩
  · rw [hown] at h1
    exact h1
  · have := h2 (hw.mirrors hn).1
    rw [hown] at this
    exact this
  · rw [h6 (hw.mirrors hn).1 d hd hdi]
    refine or_congr_left ⟨fun hdw => ?_, fun hds => (hw.mirrors hn).2.2 d hds hd⟩
    rcases hw.waits d hdw with hds | ⟨p, hp, _⟩ | ⟨x, hx, hxd⟩
    · exact hds
    · exact absurd hp (hS p)
    · have : x = i := by rcases hdi with rfl | rfl <;> rcases hxd with hxd | hxd <;> cases hxd <;> rfl
      exact absurd (this ▸ hx) hi

/-- A drift that lies in the scope does so while other islands have yet to react. -/
theorem DriftsWithin.of_found {s w : State} {i : Isl} {P : Isl → Prop} (h : DriftsWithin R s i) (hw : Within (.ending R) P s w)
    (hown : w.isl[i] = { s.isl[i] with claim := w.isl[i].claim }) : DriftsWithin R w i := by
  intro hd r rec hclaim hrec hstate
  obtain ⟨hclaims, hrecs, -⟩ := hw.olds not_false
  obtain ⟨old, hold, hreq⟩ := hrecs r rec hrec
  rw [hw.pins, hown] at hd
  rw [hreq] at hstate ⊢
  exact h hd r old (hclaims i r hclaim) hold hstate

/-- The islands' readings one after the other. -/
def State.islandsRead (s : State) : State := allIsl.foldl State.islandStep s

/-- The islands read in turn: every one has reacted as on the state that the boundary found. -/
theorem islandsRead_within (s : State) (hr : ∀ i, DriftsWithin R s i) :
    Within (.ending R) (fun _ => True) s s.islandsRead ∧ ∀ i, IslandReacted s s.islandsRead i := by
  have h := foldl_along (f := State.islandStep) (l := allIsl) (done := []) (s := s)
    (I := fun done w => Within (.ending R) (· ∈ done) s w ∧ (∀ i ∈ done, IslandReacted s w i)
      ∧ ∀ i ∉ done, w.isl[i] = { s.isl[i] with claim := w.isl[i].claim }) ?_ (by decide) ⟨Within.refl s, nofun, fun _ _ => rfl⟩
  · exact ⟨h.1.mono fun _ _ => trivial, fun i => h.2.1 i (mem_allIsl i)⟩
  · rintro done w j hj ⟨hw, hdone, hrest⟩
    obtain ⟨hstep, hreact, hothers⟩ :=
      islandStep_within (R := R) (P := (· = j)) w rfl ((hr j).of_found hw (hrest j hj))
    refine ⟨(hw.mono fun i hi => List.mem_append_left _ hi).trans (hstep.mono fun i hi => by simp [hi]), fun i hi => ?_, fun i hi => ?_⟩
    · rcases List.mem_append.1 hi with hi | hi
      · exact (hdone i hi).after (fun hn => (hw.mirrors hn).1) hstep fun h => hj (h ▸ hi)
      · rw [List.mem_singleton.1 hi]
        exact hreact.of_found hw (hrest j hj) hj fun _ => not_false
    · have hij : i ≠ j := fun h => hi (by simp [h])
      rw [hothers i hij, hrest i fun h => hi (List.mem_append_left _ h)]

end Sys2Proof.Machine
end

section
/-! What every order of the reactions to a boundary leaves: the condition flags, the still counts, the islands' readings with the judgement
of their tallies, and the tallies shown to an open window (R20, R82, R88, R97, R98, R173). -/

namespace Sys2Proof.Machine
open Sys2Proof.Claims

/-! ### One reaction of any kind -/

/-- Every record and every projector in reach, but not the take port. -/
def Scope.calm : Scope := ⟨fun _ => True, fun _ => True, False, True, True⟩

theorem calm_open : Scope.calm.Open := ⟨fun _ => trivial, fun _ => trivial, trivial, trivial⟩

/-- The state that a reaction goes on from: the tracker ticked off, the channel counted. -/
def State.primed (s : State) : Part → State
  | .tracker p => s.ticked p
  | .channel p => s.counted p
  | _ => s

/-- A part that the take port makes of itself. -/
def Part.ofTake : Part → Bool
  | .take => true
  | .step d => d.ofTake
  | _ => false

theorem channelReact_steady {S : Scope} (hS : S.Open) (s : State) (p : Proj) : Steady S (s.counted p) (s.channelReact p) := by
  by_cases h : s.inputFaults p = []
  · rw [channelReact_of_none s p h]
    refine wait_steady hS _ _ (.inr fun hd => ?_)
    rcases mem_channelDues hd with h | h | h | h <;> cases h
  · rw [channelReact_of_faults s p h]
    exact enterFault_steady _ (hS.has p) _

theorem trackerReact_steady {S : Scope} (hS : S.Open) (s : State) (p : Proj) : Steady S (s.ticked p) (s.trackerReact p) := by
  rw [trackerReact_eq]
  refine (tracked_steady s (hS.has p)).trans (wait_steady hS _ _ (.inr fun hd => ?_))
  rcases mem_trackerDues hd with h | h | h <;> cases h

theorem Scope.Open.armsFor {S : Scope} (h : S.Open) (s : State) (a : Proj) : S.ArmsFor s a :=
  ⟨h.has a, fun b _ => h.film b, h.arms⟩

/-- A reaction other than the islands' keeps what every operation of the blocks keeps. -/
theorem partReact_steady {S : Scope} (hS : S.Open) (s : State) {x : Part} (hx : x ≠ .islands)
    (ht : S.takes ∨ Part.ofTake x = false) : Steady S (s.primed x) (s.partReact x) := by
  cases x with
  | tracker p => exact trackerReact_steady hS s p
  | channel p => exact channelReact_steady hS s p
  | islands => exact absurd rfl hx
  | arming p => exact armAttempt_steady s (hS.armsFor s p)
  | take => exact takesReact_steady s hS (ht.resolve_right nofun)
  | step d => exact takeDue_steady s d hS ht

/-- The islands' reaction in a scope that leaves no record out. -/
theorem islandsRead_any (s : State) :
    Within (.ending fun _ => True) (fun _ => True) s s.islandsRead ∧ ∀ i, IslandReacted s s.islandsRead i :=
  islandsRead_within s fun _ _ _ _ _ _ _ => .inl trivial

theorem partReact_islands (s : State) : s.partReact .islands = s.islandsRead.observeWindow := rfl

/-- The window that sees the tallies touches no island. -/
theorem IslandReacted.observed {s w : State} {i : Isl} (h : IslandReacted s w i) : IslandReacted s w.observeWindow i :=
  ⟨h.isl, h.mirror, h.turned, h.unturned, h.drifted, h.dues⟩

theorem islandsReact_reacted (s : State) (i : Isl) : IslandReacted s (s.partReact .islands) i := by
  rw [partReact_islands]
  exact ((islandsRead_any s).2 i).observed

/-- What every reaction leaves of the inputs, the clock of fields, the flags and the latches. -/
structure Kept (s t : State) : Prop where
  pins : t.pins = s.pins
  tb : t.tb = s.tb
  flags : t.alarm.flags = s.alarm.flags
  latched : ∀ a, (s.alarm.get a).set = true → (t.alarm.get a).set = true
  unmoved : ∀ p ∈ t.unmoved, p ∈ s.unmoved

theorem partReact_kept (s : State) (x : Part) : Kept s (s.partReact x) := by
  by_cases hx : x = .islands
  · subst hx
    obtain ⟨h, -⟩ := islandsRead_any s
    rw [partReact_islands]
    generalize s.islandsRead = w at h
    exact ⟨h.pins, h.tb, h.flags, h.latched, h.unmoved⟩
  · have h := partReact_steady (S := .any) any_open s hx (.inl trivial)
    have hprimed : (s.primed x).pins = s.pins ∧ (s.primed x).tb = s.tb ∧ (s.primed x).alarm = s.alarm
        ∧ ∀ p ∈ (s.primed x).unmoved, p ∈ s.unmoved := by
      cases x with
      | tracker p => exact ⟨rfl, rfl, rfl, fun q hq => (List.mem_filter.1 hq).1⟩
      | _ => exact ⟨rfl, rfl, rfl, fun q hq => hq⟩
    obtain ⟨h1, h2, h3, h4⟩ := hprimed
    refine ⟨h.pins.trans h1, h.tb.trans h2, by rw [h.flags, h3], fun a ha => h.latched a (by rwa [h3]), fun p hp => ?_⟩
    rw [h.unmoved] at hp
    exact h4 p hp

/-- A tracker that has reacted is ticked off. -/
theorem trackerReact_unmoved (s : State) (p : Proj) : p ∉ (s.trackerReact p).unmoved := by
  have h := trackerReact_steady any_open s p
  intro hp
  rw [h.unmoved] at hp
  simpa using (List.mem_filter.1 hp).2

/-- A channel's own reaction counts its still count (R20). -/
theorem channelReact_still (s : State) (p : Proj) : (s.channelReact p).ch[p].still = min 63 (s.ch[p].still + 1) := by
  have h := channelReact_steady any_open s p
  rw [(h.same_ch p).2]
  show (s.ch.set p (s.ch[p].count s.field s.alarm.flags[p].lampok))[p].still = _
  rw [getElem_set_same]
  rfl

/-- No other reaction moves it. -/
theorem partReact_still (s : State) {x : Part} {p : Proj} (hx : x ≠ .channel p) : (s.partReact x).ch[p].still = s.ch[p].still := by
  by_cases hi : x = .islands
  · subst hi
    obtain ⟨h, -⟩ := islandsRead_any s
    rw [partReact_islands]
    generalize s.islandsRead = w at h
    exact congrArg Channel.still (h.films p not_false).1
  · have h := partReact_steady any_open s hi (.inl any_takes)
    rw [(h.same_ch p).2]
    cases x with
    | channel q =>
      have hpq : p ≠ q := fun h => hx (h ▸ rfl)
      exact congrArg Channel.still (getElem_set_other s.ch _ hpq)
    | _ => rfl

/-- The islands' readings, and the judgement of their tallies, are the islands' alone (R82, R88, R98). -/
theorem partReact_isl (s : State) {x : Part} (hx : x ≠ .islands) :
    (∀ i : Isl, s.isl[i].Same (s.partReact x).isl[i])
      ∧ ∀ i, (s.partReact x).alarm.get (.isl i .tallyChange) = s.alarm.get (.isl i .tallyChange) := by
  have h := partReact_steady any_open s hx (.inl any_takes)
  have hprimed : (s.primed x).isl = s.isl ∧ (s.primed x).alarm = s.alarm := by cases x <;> exact ⟨rfl, rfl⟩
  refine ⟨fun i => ?_, fun i => ?_⟩
  · rw [← hprimed.1]
    exact h.same_isl i
  · rw [h.tally, hprimed.2]

/-! ### The last take and the window (R93, R97) -/

/-- The judgement of the window passes its events and makes the window absent (R97). -/
theorem judgeWindow_eq (s : State) : ∃ w, Notified s w ∧ s.judgeWindow = w.updTake (fun t => { t with window := none }) := by
  unfold State.judgeWindow
  cases hw : s.take.window with
  | none =>
    refine ⟨s, Notified.refl s, ?_⟩
    show s = { s with take := { s.take with window := none } }
    rw [← hw]
  | some w =>
    refine ⟨_, ?_, rfl⟩
    exact foldl_inv (I := Notified s) (fun t i _ ht => ht.trans (passIf_notified t _ _)) (Notified.refl s)

theorem countDeferrals_calm (s : State) (g : Option Origin) :
    (s.countDeferrals g).take.last = s.take.last ∧ (s.countDeferrals g).take.window = s.take.window := by
  rw [((countDeferrals_steady s g calm_open).calm not_false).1]
  exact ⟨rfl, rfl⟩

/-- What the reactions but the grant leave of the last take, the window and the arbitration that waits. -/
structure NoGrant (x : Part) (s t : State) : Prop where
  last : t.take.last = s.take.last
  window : x ≠ .islands → x ≠ .step .windowJudged → t.take.window = s.take.window
  due : x ≠ .take → .takeGrant ∉ s.due → .takeGrant ∉ t.due

theorem partReact_noGrant (s : State) {x : Part} (hx : x ≠ .step .takeGrant) : NoGrant x s (s.partReact x) := by
  by_cases hi : x = .islands
  · subst hi
    obtain ⟨h, -⟩ := islandsRead_any s
    rw [partReact_islands]
    generalize s.islandsRead = w at h
    refine ⟨h.last, fun hn => absurd rfl hn, fun _ hd hw => ?_⟩
    rcases h.waits _ hw with h | ⟨p, hp, _⟩ | ⟨i, _, h | h⟩
    · exact hd h
    · exact hp
    · cases h
    · cases h
  · cases ht : Part.ofTake x with
    | false =>
      have h := (partReact_steady calm_open s hi (.inr ht)).calm not_false
      have hprimed : (s.primed x).take = s.take ∧ (s.primed x).due = s.due := by cases x <;> exact ⟨rfl, rfl⟩
      rw [hprimed.1, hprimed.2] at h
      exact ⟨by rw [h.1], fun _ _ => by rw [h.1], fun _ hd hn => hd (h.2 hn)⟩
    | true =>
      cases x with
      | take =>
        show NoGrant _ s s.takesReact
        unfold State.takesReact
        split
        · exact ⟨rfl, fun _ _ => rfl, fun hn => absurd rfl hn⟩
        · obtain ⟨h1, h2⟩ := countDeferrals_calm s none
          exact ⟨h1, fun _ _ => h2, fun hn => absurd rfl hn⟩
      | step d =>
        show NoGrant _ s (s.takeDue d)
        by_cases hmem : d ∈ s.due ∧ s.canTake d = true
        · rw [takeDue_of_mem s d hmem.1 hmem.2]
          have hdrop : .takeGrant ∉ s.due → .takeGrant ∉ (s.dropDue d).due := fun hd h => hd (List.mem_filter.1 h).1
          cases d with
          | takeGrant => exact absurd rfl hx
          | strobeDrop => exact ⟨rfl, fun _ _ => rfl, fun _ => hdrop⟩
          | windowJudged =>
            obtain ⟨w, hw, heq⟩ := judgeWindow_eq (s.dropDue .windowJudged)
            rw [State.effect, heq]
            refine ⟨?_, fun _ hn => absurd rfl hn, fun _ hd => ?_⟩
            · show w.take.last = _
              rw [hw.take]
              rfl
            · rw [State.updTake_due, hw.due]
              exact hdrop hd
          | _ => cases ht
        · rw [State.takeDue, if_neg hmem]
          exact ⟨rfl, fun _ _ => rfl, fun _ hd => hd⟩
      | _ => cases ht

/-- With no arbitration waiting no part but the arbitration's own makes a take. -/
theorem partReact_calm (s : State) {x : Part} (hx : x ≠ .take) (hd : .takeGrant ∉ s.due) :
    NoGrant x s (s.partReact x) := by
  by_cases h : x = .step .takeGrant
  · subst h
    show NoGrant _ s (s.takeDue .takeGrant)
    rw [takeDue_of_not_mem s _ hd]
    exact ⟨rfl, fun _ _ => rfl, fun _ hd => hd⟩
  · exact partReact_noGrant s h

/-- A window judged and a strobe dropped leave the requests and the last take. -/
theorem readied_eq (s : State) :
    s.readied.take = { s.take with strobe := s.readied.take.strobe, window := s.readied.take.window } ∧ s.readied.tb = s.tb := by
  have hjudge : ∀ w : State, w.judgeWindow.take = { w.take with window := w.judgeWindow.take.window } ∧ w.judgeWindow.tb = w.tb := by
    intro w
    obtain ⟨v, hv, heq⟩ := judgeWindow_eq w
    rw [heq]
    exact ⟨by rw [State.updTake, hv.take], hv.tb⟩
  have h0 : ∀ w : State, (if .windowJudged ∈ w.due then w.judgeWindow.dropDue .windowJudged else w).take
        = { w.take with window := (if .windowJudged ∈ w.due then w.judgeWindow.dropDue .windowJudged else w).take.window }
      ∧ (if .windowJudged ∈ w.due then w.judgeWindow.dropDue .windowJudged else w).tb = w.tb := by
    intro w
    split
    · exact hjudge w
    · exact ⟨rfl, rfl⟩
  unfold State.readied
  extract_lets s0
  obtain ⟨h1, h2⟩ := h0 s
  change s0.take = { s.take with window := s0.take.window } at h1
  change s0.tb = s.tb at h2
  clear_value s0
  split
  · exact ⟨by rw [State.dropDue_take, State.dropStrobe, State.updTake, h1], h2⟩
  · exact ⟨by rw [h1], h2⟩

theorem granting_last (s : State) (g : Grant) : (s.granting g).take.last = some ⟨s.field, g.source, g.origin⟩ := rfl

theorem hand_last (s : State) (x : Option (Rec × Nat)) : (s.hand x).take.last = s.take.last := by
  rcases x with _ | ⟨r, n⟩
  · rfl
  · have h := ((grantToRecord_steady s r n calm_open).calm not_false).1
    have hhand : s.hand (some (r, n)) = s.grantToRecord r n := rfl
    rw [hhand, h]

/-- A grant is the last take (R98). -/
theorem arbitrate_last_of_some (s : State) {g : Grant} (h : s.readied.winner = some g) :
    ∃ l, s.arbitrate.take.last = some l ∧ l.field = s.field := by
  have hfield : s.readied.field = s.field := congrArg Timebase.field (readied_eq s).2
  refine ⟨⟨s.readied.field, g.source, g.origin⟩, ?_, hfield⟩
  rw [arbitrate_of_some s h, hand_last]
  exact granting_last _ g

theorem arbitrate_last_of_none (s : State) (h : s.readied.winner = none) : s.arbitrate.take.last = s.take.last := by
  rw [arbitrate_of_none s h, (countDeferrals_calm _ _).1, (readied_eq s).1]

/-- A reaction leaves the last take, or makes one of its own field. -/
theorem partReact_last (s : State) (x : Part) :
    (s.partReact x).take.last = s.take.last ∨ ∃ l, (s.partReact x).take.last = some l ∧ l.field = s.field := by
  by_cases hd : x = .step .takeGrant
  · subst hd
    show (s.takeDue .takeGrant).take.last = _ ∨ ∃ l, (s.takeDue .takeGrant).take.last = _ ∧ _
    by_cases hmem : .takeGrant ∈ s.due
    · rw [takeDue_of_mem s _ hmem rfl]
      cases hw : (s.dropDue .takeGrant).readied.winner with
      | none => exact .inl (arbitrate_last_of_none _ hw)
      | some g => exact .inr (arbitrate_last_of_some _ hw)
    · rw [takeDue_of_not_mem s _ hmem]
      exact .inl rfl
  · exact .inl (partReact_noGrant s hd).last

/-! ### Who is eligible (R91, R92) -/

theorem requestDue_iff (posted due n : Field) : requestDue posted due n = true ↔ requestReady posted due n := by
  simp only [requestDue, fieldReached, Bool.and_eq_true, decide_eq_true_eq, requestReady]

/-- A record's request against the best one so far (R92). -/
def State.better (s : State) (best : Option (Rec × ChangeReq)) (r : Rec) : Option (Rec × ChangeReq) :=
  match s.take.slots[r] with
  | none => best
  | some q =>
    if requestDue q.posted q.due s.field then
      match best with
      | none => some (r, q)
      | some (x, qx) => if ranksBefore q.priority qx.priority r x then some (r, q) else best
    else best

theorem bestSlot_eq (s : State) : s.bestSlot = allRec.foldl s.better none := rfl

theorem better_isSome_iff (s : State) (best : Option (Rec × ChangeReq)) (r : Rec) :
    (s.better best r).isSome = true
      ↔ best.isSome = true ∨ ∃ q, s.take.slots[r] = some q ∧ requestReady q.posted q.due s.field := by
  unfold State.better
  cases hs : s.take.slots[r] with
  | none => simp
  | some q =>
    by_cases hq : requestDue q.posted q.due s.field = true
    · have hready := (requestDue_iff _ _ _).1 hq
      simp only [hq, if_true, Option.some.injEq, exists_eq_left', hready, or_true, iff_true]
      split
      · rfl
      · split <;> rfl
    · have hready : ¬requestReady q.posted q.due s.field := fun h => hq ((requestDue_iff _ _ _).2 h)
      simp [hq, hready]

/-- Some changeover request is the best of the due ones when one is due. -/
theorem bestSlot_isSome_iff (s : State) :
    s.bestSlot.isSome = true ↔ ∃ (r : Rec) (q : ChangeReq), s.take.slots[r] = some q ∧ requestReady q.posted q.due s.field := by
  have h : ∀ (l : List Rec) (best : Option (Rec × ChangeReq)), (l.foldl s.better best).isSome = true
      ↔ best.isSome = true ∨ ∃ r ∈ l, ∃ q, s.take.slots[r] = some q ∧ requestReady q.posted q.due s.field := by
    intro l
    induction l with
    | nil => simp
    | cons r l ih =>
      intro best
      rw [List.foldl_cons, ih, better_isSome_iff, or_assoc]
      simp only [List.mem_cons, exists_eq_or_imp]
  rw [bestSlot_eq, h]
  simp only [mem_allRec, true_and]
  exact ⟨fun h => h.resolve_left nofun, .inr⟩

theorem filterDue_isSome_iff (n : Field) {α : Type} (posted due : α → Field) (x : Option α) :
    (x.filter (fun q => requestDue (posted q) (due q) n)).isSome = true ↔ ∃ q, x = some q ∧ requestReady (posted q) (due q) n := by
  cases x with
  | none => simp
  | some q => simp [Option.filter, ← requestDue_iff]

/-- An arbitration has a winner exactly when some request is eligible (R92). -/
theorem winner_isSome_iff (s : State) : s.winner.isSome = true ↔ Eligible s s.field s.tb.madeInSync := by
  have hprot := filterDue_isSome_iff s.field ProtectReq.posted ProtectReq.due s.take.protective
  have hhost := filterDue_isSome_iff s.field HostReq.posted HostReq.due s.take.host
  unfold Eligible
  rw [← hprot, ← bestSlot_isSome_iff, ← hhost]
  unfold State.winner
  cases s.take.protective.filter (fun q => requestDue q.posted q.due s.field) with
  | some q => simp
  | none =>
    cases s.tb.madeInSync with
    | false => simp
    | true =>
      cases s.bestSlot with
      | some x => simp
      | none => cases s.take.host.filter (fun q => requestDue q.posted q.due s.field) <;> simp

/-- Eligibility is a matter of the requests alone. -/
theorem Eligible.congr {z w : State} (h : w.take = { z.take with
    tsrc := w.take.tsrc, strobe := w.take.strobe, last := w.take.last, window := w.take.window }) (n : Field) (inSync : Bool) :
    Eligible w n inSync ↔ Eligible z n inSync := by
  unfold Eligible
  rw [h]

end Sys2Proof.Machine
end

section
/-! The clauses of a boundary that hold for every order of its reactions. -/

namespace Sys2Proof.Machine
open Sys2Proof.Claims

namespace Kept
variable {s t u : State}

theorem refl (s : State) : Kept s s := ⟨rfl, rfl, rfl, fun _ h => h, fun _ h => h⟩

theorem trans (h : Kept s t) (k : Kept t u) : Kept s u where
  pins := k.pins.trans h.pins
  tb := k.tb.trans h.tb
  flags := k.flags.trans h.flags
  latched a x := k.latched a (h.latched a x)
  unmoved p x := h.unmoved p (k.unmoved p x)

theorem field (h : Kept s t) : t.field = s.field := congrArg Timebase.field h.tb

end Kept

theorem foldl_kept (l : List Part) (s : State) : Kept s (l.foldl State.partReact s) :=
  foldl_inv (I := Kept s) (fun w x _ hw => hw.trans (partReact_kept w x)) (Kept.refl s)

theorem react_kept (s : State) (o : BoundaryOrder) : Kept s (s.react o) := foldl_kept _ s

/-- The islands' readings and the judgements of their tallies stand in one state as in another. -/
structure SameReadings (s t : State) : Prop where
  isl : ∀ i : Isl, s.isl[i].Same t.isl[i]
  tally : ∀ i, t.alarm.get (.isl i .tallyChange) = s.alarm.get (.isl i .tallyChange)

theorem SameReadings.refl (s : State) : SameReadings s s := ⟨fun _ => rfl, fun _ => rfl⟩

theorem foldl_sameReadings {l : List Part} (hl : .islands ∉ l) (s : State) : SameReadings s (l.foldl State.partReact s) := by
  refine foldl_inv (I := SameReadings s) (fun w x hx hw => ?_) (SameReadings.refl s)
  obtain ⟨h1, h2⟩ := partReact_isl w (x := x) fun h => hl (h ▸ hx)
  exact ⟨fun i => (hw.isl i).trans (h1 i), fun i => (h2 i).trans (hw.tally i)⟩

/-- The state that the islands' reaction finds among the others, with what the reactions before it keep. -/
theorem exists_found_by_islands {l : List Part} (hl : l.Nodup) (hx : .islands ∈ l) {Q : State → Prop}
    (hQ : ∀ s, ∀ x ∈ l, x ≠ .islands → Q s → Q (s.partReact x)) {y : State} (hy : Q y) :
    ∃ s, Q s ∧ Kept y s ∧ SameReadings y s ∧ SameReadings (s.partReact .islands) (l.foldl State.partReact y)
      ∧ Kept (s.partReact .islands) (l.foldl State.partReact y) := by
  obtain ⟨l1, l2, rfl, h1, h2⟩ := exists_split_of_nodup hl hx
  refine ⟨l1.foldl State.partReact y, ?_, foldl_kept l1 y, foldl_sameReadings h1 y, ?_, ?_⟩
  · exact foldl_inv (fun s x hx => hQ s x (by simp [hx]) fun h => h1 (h ▸ hx)) hy
  · rw [List.foldl_append, List.foldl_cons]
    exact foldl_sameReadings h2 _
  · rw [List.foldl_append, List.foldl_cons]
    exact foldl_kept l2 _

theorem settledBy_eq_some_iff (prev : Option (Fin 4)) (now : Fin 4) (q : Port) :
    settledBy prev now = some q ↔ prev = some now ∧ now.val = q.val := by
  unfold settledBy
  split
  · rename_i h
    split
    · rename_i hp
      simp only [hp, true_and, Option.some.injEq, Fin.ext_iff]
    · rename_i hp
      simp only [hp, false_and, iff_false]
      exact nofun
  · rename_i h
    refine ⟨nofun, fun ⟨_, hq⟩ => ?_⟩
    have := q.isLt
    omega

/-- The steps that wait as a field begins (R93, R97, R137, R146, R152, R154). -/
theorem mem_beginDues (z : State) (n : Field) (d : Due) : d ∈ beginDues z n ↔
    (∃ (r : Rec) (rec : Record), z.eng.records[r] = some rec ∧ d ∈ dueOfRecord r rec)
    ∨ (d = .windowJudged ∧ ∃ w, z.take.window = some w ∧ 5 ≤ fieldDiff n w.take)
    ∨ (d = .strobeDrop ∧ z.take.strobe = true) := by
  unfold beginDues
  rw [List.mem_append, List.mem_append, List.mem_flatMap, or_assoc]
  refine or_congr ?_ (or_congr ?_ ?_)
  · refine exists_congr fun r => ?_
    cases z.eng.records[r] <;> simp
  · have h : z.take.window.any (fun w => decide (5 ≤ fieldDiff n w.take)) = true ↔
        ∃ w, z.take.window = some w ∧ 5 ≤ fieldDiff n w.take := by
      rw [Option.any_eq_true]
      simp only [decide_eq_true_eq]
    split
    · rename_i hw
      simp only [List.mem_singleton, h.1 hw, and_true]
    · rename_i hw
      simp only [List.not_mem_nil, false_iff, not_and]
      exact fun _ hn => hw (h.2 hn)
  · split
    · rename_i hs
      simp only [List.mem_singleton, hs, and_true]
    · rename_i hs
      simp only [List.not_mem_nil, hs, and_false, Bool.false_eq_true]

theorem ofRec_of_mem_dueOfRecord {r : Rec} {rec : Record} {d : Due} (h : d ∈ dueOfRecord r rec) : d.ofRec r = true := by
  unfold dueOfRecord at h
  split at h
  · rw [List.mem_singleton.1 h]; exact decide_eq_true rfl
  · rw [List.mem_singleton.1 h]; exact decide_eq_true rfl
  · split at h <;> rw [List.mem_singleton.1 h] <;> exact decide_eq_true rfl
  · cases h

section Reads
variable {z y : State} {n : Field} {inSync : Bool} (h : Begun z y n inSync)
include h

theorem Begun.pins : y.pins = z.pins := by rw [h.eq]
theorem Begun.take : y.take = z.take := by rw [h.eq]
theorem Begun.due : y.due = beginDues z n := by rw [h.eq]
theorem Begun.ch : y.ch = z.ch := by rw [h.eq]
theorem Begun.tr : y.tr = z.tr := by rw [h.eq]
theorem Begun.det : y.det = z.det := by rw [h.eq]
theorem Begun.cues : y.cues = z.cues := by rw [h.eq]
theorem Begun.eng : y.eng = z.eng := by rw [h.eq]
theorem Begun.estop : y.estop = z.estop := by rw [h.eq]
theorem Begun.islTally (i : Isl) : y.isl[i].tally = z.isl[i].tally := by rw [h.isl i]
theorem Begun.reading (i : Isl) : y.isl[i].reading = z.isl[i].reading := by rw [h.isl i]

omit h in
theorem react_unmoved (o : BoundaryOrder) : (y.react o).unmoved = [] := by
  refine List.eq_nil_iff_forall_not_mem.2 fun p => ?_
  have hmem : .tracker p ∈ partOrder o := mem_partOrder o (mem_allParts_of_block rfl)
  exact foldl_at (I := fun _ => True) (J := fun s => p ∉ s.unmoved) (partOrder_nodup o) hmem (fun _ _ _ _ _ => trivial)
    (fun s _ => trackerReact_unmoved s p) (fun s x _ _ hs hp => hs ((partReact_kept s x).unmoved p hp)) (s := y) trivial

theorem react_still (o : BoundaryOrder) (p : Proj) : (y.react o).ch[p].still = min 63 (z.ch[p].still + 1) := by
  have hmem : .channel p ∈ partOrder o := mem_partOrder o (mem_allParts_of_block rfl)
  refine foldl_at (I := fun s => s.ch[p].still = z.ch[p].still) (J := fun s => s.ch[p].still = min 63 (z.ch[p].still + 1))
    (partOrder_nodup o) hmem (fun s x _ hx hs => (partReact_still s hx).trans hs) (fun s hs => ?_)
    (fun s x _ hx hs => (partReact_still s hx).trans hs)
    (s := y) (congrArg (fun v : Vector Channel 8 => v[p].still) h.ch)
  exact (channelReact_still s p).trans (by rw [hs])

/-- No take of the last four fields accounts for a change of tally in a state with this last take. -/
theorem ascribed_iff {s : State} (hs : Kept y s) :
    s.ascribed = true ↔ ∃ l, s.take.last = some l ∧ 1 ≤ fieldDiff n l.field ∧ fieldDiff n l.field ≤ 4 := by
  have hn : s.field = n := hs.field.trans h.field
  unfold State.ascribed
  rw [Option.any_eq_true]
  simp only [Bool.and_eq_true, decide_eq_true_eq, hn]

/-- A take of the field itself accounts for no change. -/
theorem not_ascribed_of_own {s : State} (hs : Kept y s) {l : LastTake} (hl : s.take.last = some l) (hfield : l.field = n) :
    s.ascribed = false := by
  rw [← Bool.not_eq_true, ascribed_iff h hs]
  rintro ⟨l', hl', h1, _⟩
  rw [hl] at hl'
  cases hl'
  rw [hfield] at h1
  simp [fieldDiff] at h1

/-- The turning of a tally is seen alike by the state that the boundary found and by the one that the islands find. -/
theorem tallyTurns_iff {s : State} (hs : Kept y s) (hr : SameReadings y s) (i : Isl) :
    s.isl[i].tallyTurns s.pins.isl[i].tly = true ↔ z.isl[i].tally = some (!z.pins.isl[i].tly) := by
  have ht : s.isl[i].tally = z.isl[i].tally := by rw [hr.isl i]; exact h.islTally i
  unfold Island.tallyTurns
  rw [decide_eq_true_eq, ht, hs.pins, h.pins]

/-- A change of tally is judged against the last take that the islands find. -/
theorem latched_of_turned {s t : State} (hs : Kept y s) (hr : SameReadings y s) (ht : Kept (s.partReact .islands) t) {i : Isl}
    (hturn : z.isl[i].tally = some (!z.pins.isl[i].tly)) (hasc : s.ascribed = false) : Latched t (.isl i .tallyChange) :=
  ht.latched _ ((islandsReact_reacted s i).turned ((tallyTurns_iff h hs hr i).2 hturn) hasc)

/-- No change of tally, or one that a take accounts for, is no event. -/
theorem unchanged_of_unturned {s t : State} (hs : Kept y s) (hr : SameReadings y s) (ht : SameReadings (s.partReact .islands) t) {i : Isl}
    (hno : z.isl[i].tally ≠ some (!z.pins.isl[i].tly) ∨ s.ascribed = true) :
    t.alarm.get (.isl i .tallyChange) = z.alarm.get (.isl i .tallyChange) := by
  calc t.alarm.get (.isl i .tallyChange) = (s.partReact .islands).alarm.get (.isl i .tallyChange) := ht.tally i
    _ = s.alarm.get (.isl i .tallyChange) :=
        (islandsReact_reacted s i).unturned (hno.imp_left fun hn => by
          rw [← Bool.not_eq_true, tallyTurns_iff h hs hr i]
          exact hn)
    _ = y.alarm.get (.isl i .tallyChange) := hr.tally i
    _ = z.alarm.get (.isl i .tallyChange) := h.tally i

/-- The last take stands as the boundary found it, or is of the field itself. -/
def LastTakeOf (z : State) (n : Field) (s : State) : Prop :=
  s.field = n ∧ (s.take.last = z.take.last ∨ ∃ l, s.take.last = some l ∧ l.field = n)

omit h in
theorem LastTakeOf.step {s : State} (hs : LastTakeOf z n s) (x : Part) : LastTakeOf z n (s.partReact x) := by
  obtain ⟨hn, hl⟩ := hs
  refine ⟨(partReact_kept s x).field.trans hn, ?_⟩
  rcases partReact_last s x with hk | ⟨l, hk, hf⟩
  · rw [hk]
    exact hl
  · exact .inr ⟨l, hk, hf.trans hn⟩

omit h in
theorem islands_mem_partOrder (o : BoundaryOrder) : .islands ∈ partOrder o := mem_partOrder o (mem_allParts_of_block rfl)

/-- With no take of the last four fields before the boundary, a change of tally is an event whatever the order (R98). -/
theorem react_tally_unascribed (o : BoundaryOrder) {i : Isl} (hturn : z.isl[i].tally = some (!z.pins.isl[i].tly))
    (hlast : ∀ l, z.take.last = some l → ¬(1 ≤ fieldDiff n l.field ∧ fieldDiff n l.field ≤ 4)) :
    Latched (y.react o) (.isl i .tallyChange) := by
  obtain ⟨s, hQ, hs, hr, -, ht⟩ := exists_found_by_islands (partOrder_nodup o) (islands_mem_partOrder o)
    (Q := LastTakeOf z n) (fun s x _ _ hs => hs.step x) (y := y) ⟨h.field, .inl (by rw [h.take])⟩
  refine latched_of_turned h hs hr ht hturn ?_
  rcases hQ.2 with hl | ⟨l, hl, hf⟩
  · rw [← Bool.not_eq_true, ascribed_iff h hs, hl]
    exact fun ⟨l, hl, hin⟩ => hlast l hl hin
  · exact not_ascribed_of_own h hs hl hf

/-- No change of tally, no event (R98). -/
theorem react_tally_unturned (o : BoundaryOrder) {i : Isl} (hno : z.isl[i].tally ≠ some (!z.pins.isl[i].tly)) :
    (y.react o).alarm.get (.isl i .tallyChange) = z.alarm.get (.isl i .tallyChange) := by
  obtain ⟨s, -, hs, hr, ht, -⟩ := exists_found_by_islands (partOrder_nodup o) (islands_mem_partOrder o)
    (Q := fun _ => True) (fun _ _ _ _ _ => trivial) (y := y) trivial
  exact unchanged_of_unturned h hs hr ht (.inl hno)

/-- Nothing that waits as the field begins is an arbitration. -/
theorem not_takeGrant_mem_begun : .takeGrant ∉ y.due := by
  rw [h.due, mem_beginDues]
  rintro (⟨r, rec, -, hd⟩ | ⟨hd, -⟩ | ⟨hd, -⟩)
  · exact absurd (ofRec_of_mem_dueOfRecord hd) nofun
  · cases hd
  · cases hd

/-- Where the order names no arbitration, a take of the last four fields accounts for a change (R98). -/
theorem react_tally_ascribed {o : BoundaryOrder} {i : Isl}
    (hlast : ∃ l, z.take.last = some l ∧ 1 ≤ fieldDiff n l.field ∧ fieldDiff n l.field ≤ 4) (ho : .take ∉ o.parts) :
    (y.react o).alarm.get (.isl i .tallyChange) = z.alarm.get (.isl i .tallyChange) := by
  obtain ⟨l, hl, htake⟩ := partOrder_take_last ho
  have hnodup := partOrder_nodup o
  have hmem := islands_mem_partOrder o
  rw [hl] at hnodup hmem
  have hmem : .islands ∈ l := by simpa using hmem
  obtain ⟨s, ⟨hQ, -⟩, hs, hr, ht, -⟩ := exists_found_by_islands (List.nodup_append.1 hnodup).1 hmem
    (Q := fun s => s.take.last = z.take.last ∧ .takeGrant ∉ s.due) (fun s x hx _ hs => by
      have hcalm := partReact_calm s (x := x) (fun hxt => htake (hxt ▸ hx)) hs.2
      exact ⟨hcalm.last.trans hs.1, hcalm.due (fun hxt => htake (hxt ▸ hx)) hs.2⟩) (y := y) ⟨by rw [h.take], not_takeGrant_mem_begun h⟩
  have hreact : (y.react o).alarm.get (.isl i .tallyChange) = (l.foldl State.partReact y).alarm.get (.isl i .tallyChange) := by
    unfold State.react
    rw [hl, List.foldl_append]
    exact (partReact_isl _ (x := .take) nofun).2 i
  rw [hreact]
  refine unchanged_of_unturned h hs hr ht (.inr ((ascribed_iff h hs).2 ?_))
  rw [hQ]
  exact hlast

/-- The request that is eligible as the field begins is granted by the arbitration that an order names first (R92, R93). -/
theorem granted_first (he : Eligible z n inSync) :
    ∃ l, ((y.partReact .take).partReact (.step .takeGrant)).take.last = some l ∧ l.field = n := by
  have hwin : y.winner.isSome = true := by
    rw [winner_isSome_iff, show y.field = n from h.field, h.made]
    exact (Eligible.congr (by rw [h.take]) n inSync).2 he
  have htake : y.partReact .take = y.addDue .takeGrant := if_pos hwin
  have hmem : .takeGrant ∈ (y.addDue .takeGrant).due := List.mem_append_right _ (List.mem_singleton_self _)
  rw [htake]
  show ∃ l, ((y.addDue .takeGrant).takeDue .takeGrant).take.last = _ ∧ _
  rw [takeDue_of_mem _ _ hmem rfl]
  let w := (y.addDue .takeGrant).dropDue .takeGrant
  obtain ⟨hreq, htb⟩ := readied_eq w
  have hready : w.readied.winner.isSome = true := by
    rw [winner_isSome_iff, show w.readied.field = y.field from congrArg Timebase.field htb, htb]
    refine (Eligible.congr ?_ _ _).2 ((winner_isSome_iff y).1 hwin)
    rw [hreq]
    rfl
  obtain ⟨g, hg⟩ := Option.isSome_iff_exists.1 hready
  obtain ⟨l, hl, hf⟩ := arbitrate_last_of_some w hg
  exact ⟨l, hl, hf.trans h.field⟩

/-- Where the order names the arbitration first, the grant of this very boundary accounts for no change (R97, R98). -/
theorem react_tally_grant_first {o : BoundaryOrder} {i : Isl} (hturn : z.isl[i].tally = some (!z.pins.isl[i].tly))
    (ho : o.parts.head? = some .take) (he : Eligible z n inSync) : Latched (y.react o) (.isl i .tallyChange) := by
  obtain ⟨l, hl⟩ := partOrder_take_first ho
  have hnodup := partOrder_nodup o
  have hmem := islands_mem_partOrder o
  rw [hl] at hnodup hmem
  have hmem : .islands ∈ l := by simpa using hmem
  let y2 := (y.partReact .take).partReact (.step .takeGrant)
  have hk : Kept y y2 := (partReact_kept y _).trans (partReact_kept _ _)
  have hr2 : SameReadings y y2 := foldl_sameReadings (l := [.take, .step .takeGrant]) (by simp) y
  obtain ⟨s, ⟨hsn, m, hm, hf⟩, hs, hr, -, ht⟩ := exists_found_by_islands (List.nodup_cons.1 (List.nodup_cons.1 hnodup).2).2 hmem
    (Q := fun s => s.field = n ∧ ∃ m, s.take.last = some m ∧ m.field = n) (fun s x _ _ ⟨hsn, m, hm, hf⟩ => by
      refine ⟨(partReact_kept s x).field.trans hsn, ?_⟩
      rcases partReact_last s x with hk | ⟨m', hk, hf'⟩
      · exact ⟨m, hk.trans hm, hf⟩
      · exact ⟨m', hk, hf'.trans hsn⟩) (y := y2) ⟨hk.field.trans h.field, granted_first h he⟩
  have hreact : y.react o = l.foldl State.partReact y2 := by
    unfold State.react
    rw [hl]
    rfl
  rw [hreact]
  exact latched_of_turned h (hk.trans hs) ⟨fun i => (hr2.isl i).trans (hr.isl i), fun i => (hr.tally i).trans (hr2.tally i)⟩ ht hturn
    (not_ascribed_of_own h (hk.trans hs) hm hf)

/-- What every order leaves: the flags, the still counts, the readings, and the judgement of the tallies. -/
theorem boundaryReads (o : BoundaryOrder) : BoundaryReads z (y.react o) n inSync o := by
  refine ⟨react_unmoved o, fun p => ⟨?_, react_still h o p⟩, fun i => ?_⟩
  · rw [(react_kept y o).flags]
    exact h.flags p
  · intro mpos tly
    obtain ⟨s, -, hs, hr, ht, -⟩ := exists_found_by_islands (partOrder_nodup o) (islands_mem_partOrder o)
      (Q := fun _ => True) (fun _ _ _ _ _ => trivial) (y := y) trivial
    have hisl := ((islandsReact_reacted s i).isl).trans (ht.isl i)
    have hpins : s.pins = z.pins := hs.pins.trans h.pins
    have hfound := hr.isl i
    rw [hpins] at hisl
    change (y.react o).isl[i] = _ at hisl
    refine ⟨?_, ?_, ?_, fun q => ?_, react_tally_unascribed h o, react_tally_unturned h o, react_tally_ascribed h,
      react_tally_grant_first h⟩
    · rw [hisl]; rfl
    · rw [hisl]; rfl
    · rw [hisl]
      show s.isl[i].tallyBefore = _
      rw [hfound]
      show y.isl[i].tallyBefore = _
      rw [h.isl i]
      cases z.isl[i].tally with
      | none => rfl
      | some b => cases b <;> rfl
    · rw [hisl]
      show settledBy s.isl[i].reading _ = _ ↔ _
      rw [settledBy_eq_some_iff]
      have hread : s.isl[i].reading = z.isl[i].reading := by
        rw [hfound]
        exact h.reading i
      rw [hread]

/-- What a boundary shows a window (R97). -/
def Window.shown (w : Window) (n : Field) (tallies : Vector Bool 4) : Window :=
  if 1 ≤ fieldDiff n w.take ∧ fieldDiff n w.take ≤ 4 then w.observe tallies else w

omit h in
/-- The islands' reaction shows the tallies of its own field. -/
theorem islandsReact_window (s : State) :
    (s.partReact .islands).take.window = s.take.window.map (fun w => w.shown s.field s.islandsRead.tallies)
      ∧ ∀ i : Isl, s.islandsRead.tallies[i] = s.pins.isl[i].tly := by
  obtain ⟨hw, hi⟩ := islandsRead_any s
  rw [partReact_islands]
  generalize s.islandsRead = w at hw hi
  refine ⟨?_, fun i => ?_⟩
  · rw [← hw.field, ← hw.window not_false]
    rfl
  · have ht : w.isl[i].tally = some s.pins.isl[i].tly := by
      rw [(hi i).isl]
      rfl
    simp only [State.tallies, Fin.getElem_fin, getElem_map4]
    exact congrArg (Option.getD · false) ht

omit h in
/-- A window that has seen the tallies is the window with what they show (R97). -/
theorem shown_spec (w : Window) (m : Field) (tallies : Vector Bool 4) :
    (w.shown m tallies).take = w.take ∧ (w.shown m tallies).target = w.target ∧ (w.shown m tallies).previous = w.previous
      ∧ ((w.shown m tallies).seenOn = true ↔
          w.seenOn = true ∨ ((1 ≤ fieldDiff m w.take ∧ fieldDiff m w.take ≤ 4) ∧ ∃ i, w.target = some i ∧ tallies[i] = true))
      ∧ ∀ i : Isl, (w.shown m tallies).seenOff[i] = true ↔
          w.seenOff[i] = true ∨ ((1 ≤ fieldDiff m w.take ∧ fieldDiff m w.take ≤ 4) ∧ tallies[i] = false) := by
  unfold Window.shown
  split
  · rename_i hin
    refine ⟨rfl, rfl, rfl, ?_, fun i => ?_⟩
    · show (w.seenOn || w.target.any (fun i => tallies[i])) = true ↔ _
      rw [Bool.or_eq_true, Option.any_eq_true]
      simp only [hin, true_and]
    · show (table4 (fun i => w.seenOff[i] || !tallies[i]))[i] = true ↔ _
      simp only [Fin.getElem_fin, getElem_table4, Bool.or_eq_true, Bool.not_eq_true', hin, true_and]
  · rename_i hin
    exact ⟨rfl, rfl, rfl, by simp only [hin, false_and, or_false], fun i => by simp only [hin, false_and, or_false]⟩

/-- An open window that no grant opens and no judgement closes first sees the tallies of the boundary (R97). -/
theorem react_window {o : BoundaryOrder} (ho : .take ∉ o.parts) (hj : .step .windowJudged ∉ o.parts) :
    ∃ tallies : Vector Bool 4, (∀ i : Isl, tallies[i] = z.pins.isl[i].tly)
      ∧ (y.react o).take.window = z.take.window.map (fun w => w.shown n tallies) := by
  obtain ⟨l, hl, htake⟩ := partOrder_take_last ho
  have hnodup := partOrder_nodup o
  have hmem := islands_mem_partOrder o
  have hjudge : .step .windowJudged ∉ l := fun hm => by
    have hm : .step .windowJudged ∈ partOrder o := hl ▸ List.mem_append_left _ hm
    rcases (mem_joined _ _ _).1 hm with hm | hm
    · cases hm
    · rcases List.mem_append.1 hm with hm | hm
      · obtain ⟨x, hx, hmem⟩ := List.mem_flatMap.1 hm
        cases x with
        | step d =>
          rw [List.mem_singleton.1 hmem] at hj
          exact hj hx
        | take => exact ho hx
        | _ => exact absurd (List.mem_singleton.1 hmem) nofun
      · exact absurd hm (by decide)
  rw [hl] at hnodup hmem
  have hmem : .islands ∈ l := by simpa using hmem
  have hcalm : ∀ s, ∀ x ∈ l, .takeGrant ∉ s.due → NoGrant x s (s.partReact x) ∧ .takeGrant ∉ (s.partReact x).due := by
    intro s x hx hd
    have hxt : x ≠ .take := fun h => htake (h ▸ hx)
    have hc := partReact_calm s hxt hd
    exact ⟨hc, hc.due hxt hd⟩
  obtain ⟨⟨tallies, ht, hw⟩, -⟩ := foldl_at (f := State.partReact) (s := y)
    (I := fun s => (Kept y s ∧ s.take.window = z.take.window) ∧ .takeGrant ∉ s.due)
    (J := fun s => (∃ tallies : Vector Bool 4, (∀ i : Isl, tallies[i] = z.pins.isl[i].tly)
      ∧ s.take.window = z.take.window.map (fun w => w.shown n tallies)) ∧ .takeGrant ∉ s.due)
    (List.nodup_append.1 hnodup).1 hmem
    (fun s x hx hxi hs => by
      obtain ⟨⟨hk, hwin⟩, hd⟩ := hs
      obtain ⟨hc, hd'⟩ := hcalm s x hx hd
      exact ⟨⟨hk.trans (partReact_kept s x), (hc.window hxi fun hx' => hjudge (hx' ▸ hx)).trans hwin⟩, hd'⟩)
    (fun s hs => by
      obtain ⟨⟨hk, hwin⟩, hd⟩ := hs
      obtain ⟨hshow, htly⟩ := islandsReact_window s
      refine ⟨⟨s.islandsRead.tallies, fun i => ?_, ?_⟩, (hcalm s _ hmem hd).2⟩
      · rw [htly i, hk.pins, h.pins]
      · rw [hshow, hwin, hk.field, show y.field = n from h.field])
    (fun s x hx hxi hs => by
      obtain ⟨⟨tallies, ht, hwin⟩, hd⟩ := hs
      obtain ⟨hc, hd'⟩ := hcalm s x hx hd
      exact ⟨⟨tallies, ht, (hc.window hxi fun hx' => hjudge (hx' ▸ hx)).trans hwin⟩, hd'⟩)
    ⟨⟨Kept.refl y, by rw [h.take]⟩, not_takeGrant_mem_begun h⟩
  refine ⟨tallies, ht, ?_⟩
  have hlast := (partReact_noGrant (l.foldl State.partReact y) (x := .take) nofun).window nofun nofun
  have hreact : y.react o = (l.foldl State.partReact y).partReact .take := by
    unfold State.react
    rw [hl, List.foldl_append]
    rfl
  rw [hreact, hlast, hw]

theorem boundaryShows {o : BoundaryOrder} (ho : .take ∉ o.parts) (hj : .step .windowJudged ∉ o.parts) :
    BoundaryShows z (y.react o) n := by
  obtain ⟨tallies, ht, hw⟩ := react_window h ho hj
  refine ⟨fun hn => by rw [hw, hn]; rfl, fun w hwz => ⟨w.shown n tallies, by rw [hw, hwz]; rfl, ?_⟩⟩
  obtain ⟨h1, h2, h3, h4, h5⟩ := shown_spec w n tallies
  simp only [ht] at h4 h5
  exact ⟨h1, h2, h3, h4, h5⟩

end Reads

end Sys2Proof.Machine
end

section
/-! The orders that move the blocks alone: what each of their reactions leaves of the others, and the mirrors (R82 to R85). -/

namespace Sys2Proof.Machine
open Sys2Proof.Claims

/-! ### The frame of each reaction -/

/-- The scope of the reactions of one projector's tracker and channel. -/
def Scope.of (p : Proj) : Scope := ⟨(· = p), (· = p), False, False, False⟩

/-- The scope of the islands' reaction, which ends records of some projectors and shows the tallies to the window. -/
def Scope.islands (R : Proj → Prop) : Scope := ⟨fun _ => False, R, True, False, False⟩

/-- The scope of an arming attempt on a projector. -/
def Scope.arming (s : State) (a : Proj) : Scope := ⟨fun p => p = a ∨ s.ch[p].state = .ready, (· = a), False, False, True⟩

theorem of_has (p : Proj) : (Scope.of p).Has p := ⟨rfl, rfl⟩

/-- No island is read. -/
abbrev noIsl : Isl → Prop := fun _ => False

theorem trackerReact_within (s : State) (p : Proj) : Within (.of p) noIsl s (s.trackerReact p) := by
  rw [trackerReact_eq]
  have hticked : Within (.of p) noIsl s (s.ticked p) :=
    { Within.refl (S := .of p) (P := noIsl) s with unmoved := fun q hq => (List.mem_filter.1 hq).1 }
  have htracked : Within (.of p) noIsl (s.ticked p) (s.tracked p) := (tracked_steady s (of_has p)).within not_false not_false
  refine (hticked.trans htracked).trans (wait_within _ _ fun d hd => .inl ⟨p, rfl, ?_⟩)
  rcases mem_trackerDues hd with rfl | rfl | rfl <;> simp [projSteps, trackerSteps]

theorem counted_within (s : State) (p : Proj) : Within (.of p) noIsl s (s.counted p) :=
  { Within.refl (S := .of p) (P := noIsl) s with
    films := fun _ hq => ⟨getElem_set_other _ _ hq, rfl, rfl, rfl⟩ }

theorem channelReact_within (s : State) (p : Proj) : Within (.of p) noIsl s (s.channelReact p) := by
  by_cases h : s.inputFaults p = []
  · rw [channelReact_of_none s p h]
    refine (counted_within s p).trans (wait_within _ _ fun d hd => .inl ⟨p, rfl, ?_⟩)
    rcases mem_channelDues hd with rfl | rfl | rfl | rfl <;> simp [projSteps]
  · rw [channelReact_of_faults s p h]
    exact (counted_within s p).trans ((enterFault_steady _ (of_has p) _).within not_false not_false)

theorem islandsReact_within {R : Proj → Prop} (s : State) (hr : ∀ i, DriftsWithin R s i) :
    Within (.islands R) (fun _ => True) s (s.partReact .islands) := by
  obtain ⟨h, -⟩ := islandsRead_within s hr
  rw [partReact_islands]
  generalize s.islandsRead = w at h
  exact { h with
    take := by rw [State.observeWindow, State.updTake, h.take]
    window := fun hn => absurd trivial hn }

theorem armAttempt_within (s : State) (a : Proj) : Within (.arming s a) noIsl s (s.armAttempt a) :=
  (armAttempt_steady (S := .arming s a) s ⟨⟨.inl rfl, rfl⟩, fun _ hb => .inr hb, trivial⟩).within not_false not_false

/-- What the take port's part makes of the requests and of the steps that wait, and nothing else (R92, R94). -/
theorem takesReact_eq (s : State) : ∃ slots ds, s.takesReact = { s with take := { s.take with slots := slots }, due := s.due ++ ds }
    ∧ ∀ d ∈ ds, d = .takeGrant := by
  unfold State.takesReact
  split
  · exact ⟨s.take.slots, [.takeGrant], rfl, fun d hd => List.mem_singleton.1 hd⟩
  · have h : ∃ slots, s.countDeferrals none = { s with take := { s.take with slots := slots } } := by
      unfold State.countDeferrals
      refine foldl_inv (I := fun w : State => ∃ slots, w = { s with take := { s.take with slots := slots } }) (fun w r _ hw => ?_)
        ⟨s.take.slots, rfl⟩
      obtain ⟨slots, rfl⟩ := hw
      split
      · exact ⟨_, rfl⟩
      · exact ⟨slots, rfl⟩
    obtain ⟨slots, h⟩ := h
    exact ⟨slots, [], by rw [h, List.append_nil], nofun⟩

/-! ### Arming attempts that do nothing -/

theorem armAttempt_of_not_run (s : State) (a : Proj) (h : s.ch[a].state ≠ .run) : s.armAttempt a = s := if_neg fun hr => h hr.1

/-- A list without CHANGE entries arms no record (R130). -/
theorem armAttempt_of_no_change (s : State) (a : Proj) (h : ∀ e ∈ s.cues.lists[a], e.kind.tag ≠ .change) : s.armAttempt a = s := by
  have hnone : ∀ f, s.firstChange a f = none := by
    intro f
    refine List.findSome?_eq_none_iff.2 fun e he => ?_
    have := h e he
    split
    · rename_i part hk
      rw [hk] at this
      exact absurd rfl this
    · rfl
  unfold State.armAttempt
  split
  · split
    · rfl
    · rw [hnone]
  · rfl

/-- A projector that belongs to a record arms none (R131). -/
theorem armAttempt_of_inRecord (s : State) (a : Proj) (h : s.inRecord a = true) : s.armAttempt a = s := by
  unfold State.armAttempt
  split
  · split
    · rfl
    · split
      · rfl
      · split
        · split
          · rfl
          · unfold State.armEntry
            rw [h]
            rfl
        · rfl
  · rfl

/-! ### The run of the reactions -/

/-- The arming attempts in their order. -/
def State.armed (s : State) : State := allProj.foldl State.armAttempt s

theorem partReact_take (s : State) : s.partReact .take = s.takesReact := rfl

theorem react_eq_blocks {o : BoundaryOrder} (ho : MovesBlocksAlone o) : ∃ l : List Part, l.Nodup ∧ (∀ x, x ∈ l ↔ Part.isBlock x = true)
    ∧ ∀ y : State, y.react o = (l.foldl State.partReact y).armed.takesReact := by
  obtain ⟨l, hl, hnodup, hmem⟩ := partOrder_blocks ho
  refine ⟨l, hnodup, hmem, fun y => ?_⟩
  have harmed : ∀ w : State, armingParts.foldl State.partReact w = w.armed := fun w => by
    rw [armingParts, List.foldl_map]
    rfl
  rw [State.react, hl, List.foldl_append, List.foldl_append, harmed, List.foldl_cons, List.foldl_nil]
  exact partReact_take _

/-- What every block keeps, every arming attempt and the take port's part keep, the boundary keeps. -/
theorem react_inv {o : BoundaryOrder} (ho : MovesBlocksAlone o) {I : State → Prop}
    (block : ∀ s x, Part.isBlock x = true → I s → I (s.partReact x)) (arming : ∀ s a, I s → I (s.armAttempt a))
    (take : ∀ s, I s → I s.takesReact) {y : State} (hy : I y) : I (y.react o) := by
  obtain ⟨l, -, hmem, hl⟩ := react_eq_blocks ho
  rw [hl]
  exact take _ (foldl_inv (fun s a _ => arming s a) (foldl_inv (fun s x hx => block s x ((hmem x).1 hx)) hy))

/-- A block among the others: what holds before its reaction, what the reaction brings about, what the other blocks then leave, and what
of that the arming attempts and the take port's part leave. -/
theorem react_at {o : BoundaryOrder} (ho : MovesBlocksAlone o) {x : Part} (hx : Part.isBlock x = true) {I J K : State → Prop}
    (before : ∀ s y, Part.isBlock y = true → y ≠ x → I s → I (s.partReact y)) (at_ : ∀ s, I s → J (s.partReact x))
    (after : ∀ s y, Part.isBlock y = true → y ≠ x → J s → J (s.partReact y)) (moved : ∀ s, J s → K s)
    (arming : ∀ s a, K s → K (s.armAttempt a)) (take : ∀ s, K s → K s.takesReact) {y : State} (hy : I y) : K (y.react o) := by
  obtain ⟨l, hnodup, hmem, hl⟩ := react_eq_blocks ho
  rw [hl]
  exact take _ (foldl_inv (fun s a _ => arming s a) (moved _ (foldl_at hnodup ((hmem x).2 hx)
    (fun s y hy => before s y ((hmem y).1 hy)) at_ (fun s y hy => after s y ((hmem y).1 hy)) hy)))

/-! ### The mirrors -/

/-- An island that has yet to react, as the boundary found it. -/
structure MirrorFound (y : State) (i : Isl) (s : State) : Prop where
  lock : NoMirrorLock s
  pins : s.pins = y.pins
  field : s.field = y.field
  isl : s.isl[i] = { y.isl[i] with claim := s.isl[i].claim }
  dues : ∀ d : Due, d = .mirrorComplete i ∨ d = .mirrorDeadline i → d ∉ s.due

/-- An island that has reacted, its mirror as the boundary makes it. -/
structure MirrorRead (y : State) (i : Isl) (s : State) : Prop where
  lock : NoMirrorLock s
  mismatch : s.isl[i].mismatch = (y.isl[i].readAll y.pins.isl[i].mpos).mismatch
  drifted : y.isl[i].drifting y.pins.isl[i].mpos = true → (s.alarm.get (.isl i .mirrorMismatch)).set = true
  dues : ∀ d : Due, d = .mirrorComplete i ∨ d = .mirrorDeadline i →
    (d ∈ s.due ↔ d ∈ mirrorDues i y.isl[i] y.pins.isl[i].mpos y.field)

theorem mem_due_iff_of_within {S : Scope} {s t : State} (h : Within S noIsl s t) (hlock : NoMirrorLock s) {d : Due} {i : Isl}
    (hd : d = .mirrorComplete i ∨ d = .mirrorDeadline i) : d ∈ t.due ↔ d ∈ s.due := by
  have hof : d.ofMirror = true := by rcases hd with rfl | rfl <;> rfl
  refine ⟨fun ht => ?_, fun hs => (h.mirrors hlock).2.2 d hs hof⟩
  rcases h.waits d ht with hs | ⟨p, -, hp⟩ | ⟨j, hj, -⟩
  · exact hs
  · rcases hd with rfl | rfl <;> simp [projSteps, trackerSteps] at hp
  · exact hj.elim

theorem MirrorFound.step {S : Scope} {y s t : State} {i : Isl} (h : MirrorFound y i s) (k : Within S noIsl s t) : MirrorFound y i t := by
  obtain ⟨hlock, hm, -⟩ := k.mirrors h.lock
  obtain ⟨hc, hp, hmm⟩ := hm i not_false
  refine ⟨hlock, k.pins.trans h.pins, k.field.trans h.field, ?_, fun d hd ht => h.dues d hd ((mem_due_iff_of_within k h.lock hd).1 ht)⟩
  rw [k.isl i not_false, hc, hp, hmm, h.isl]

theorem MirrorRead.step {S : Scope} {y s t : State} {i : Isl} (h : MirrorRead y i s) (k : Within S noIsl s t) : MirrorRead y i t := by
  obtain ⟨hlock, hm, -⟩ := k.mirrors h.lock
  exact ⟨hlock, (hm i not_false).2.2.trans h.mismatch, fun hd => k.latched _ (h.drifted hd),
    fun d hd => (mem_due_iff_of_within k h.lock hd).trans (h.dues d hd)⟩

theorem MirrorFound.read {y s : State} {i : Isl} (h : MirrorFound y i s) : MirrorRead y i (s.partReact .islands) := by
  have hr := islandsReact_reacted s i
  have hw := islandsReact_within (R := fun _ => True) s fun _ _ _ _ _ _ _ => .inl trivial
  have hmirror := (hr.mirror h.lock).2.2
  have hdrift := hr.drifted
  have hdues := hr.dues h.lock
  rw [h.pins, h.isl] at hmirror hdrift hdues
  rw [h.field] at hdues
  refine ⟨(hw.mirrors h.lock).1, hmirror, hdrift, fun d hd => ?_⟩
  rw [hdues d (by rcases hd with rfl | rfl <;> rfl) hd]
  exact ⟨fun x => x.resolve_left (h.dues d hd), .inr⟩

theorem MirrorRead.takes {y s : State} {i : Isl} (h : MirrorRead y i s) : MirrorRead y i s.takesReact := by
  obtain ⟨slots, ds, heq, hds⟩ := takesReact_eq s
  rw [heq]
  refine ⟨h.lock, h.mismatch, h.drifted, fun d hd => ?_⟩
  rw [← h.dues d hd, List.mem_append]
  refine ⟨fun x => x.resolve_right fun hmem => ?_, .inl⟩
  rw [hds d hmem] at hd
  rcases hd with hd | hd <;> cases hd

/-- A block other than the islands is one projector's. -/
theorem block_within (s : State) {x : Part} (hx : Part.isBlock x = true) (hi : x ≠ .islands) :
    ∃ p, (x = .tracker p ∨ x = .channel p) ∧ Within (.of p) noIsl s (s.partReact x) := by
  cases x with
  | tracker p => exact ⟨p, .inl rfl, trackerReact_within s p⟩
  | channel p => exact ⟨p, .inr rfl, channelReact_within s p⟩
  | islands => exact absurd rfl hi
  | _ => cases hx

/-- The mirror of an island after a boundary. -/
theorem react_mirror {o : BoundaryOrder} (ho : MovesBlocksAlone o) {y : State} {i : Isl} (hy : MirrorFound y i y) :
    MirrorRead y i (y.react o) := by
  refine react_at ho (x := .islands) rfl (I := MirrorFound y i) (fun s x hx hi hs => ?_) (fun s hs => hs.read)
    (fun s x hx hi hs => ?_) (fun _ hs => hs) (fun s a hs => hs.step (armAttempt_within s a)) (fun s hs => hs.takes) hy
  · obtain ⟨p, -, hw⟩ := block_within s hx hi
    exact hs.step hw
  · obtain ⟨p, -, hw⟩ := block_within s hx hi
    exact hs.step hw

/-- The mirror of the boundary's clauses, in the terms of the reaction (R82, R85). -/
theorem home_iff_atHome (z : State) (i : Isl) : z.isl[i].home z.pins.isl[i].mpos = true ↔ AtHome z i := by
  unfold Island.home
  rw [decide_eq_true_eq, settledBy_eq_some_iff]
  rfl

theorem drifting_iff_drifts (z : State) (i : Isl) : z.isl[i].drifting z.pins.isl[i].mpos = true ↔ Drifts z i := by
  unfold Island.drifting Drifts
  simp only [Bool.and_eq_true, Option.isNone_iff_eq_none, Bool.not_eq_true', decide_eq_true_eq, ← Bool.not_eq_true, home_iff_atHome,
    and_assoc]

theorem mismatch_readAll_iff (z : State) (i : Isl) : (z.isl[i].readAll z.pins.isl[i].mpos).mismatch = true ↔
    Drifts z i ∨ (z.isl[i].mismatch = true ∧ ¬AtHome z i) := by
  unfold Island.readAll Island.read
  simp only [Bool.or_eq_true, Bool.and_eq_true, Bool.not_eq_true', ← Bool.not_eq_true, home_iff_atHome, drifting_iff_drifts, or_comm]

/-- The mirror's steps that come to wait at a boundary (R83, R84). -/
theorem mem_mirrorDues_iff {i : Isl} {u : Island} {mpos : Fin 4} {n : Field} :
    (u.pending = none → mirrorDues i u mpos n = [])
    ∧ ∀ cmd, u.pending = some cmd →
      (.mirrorComplete i ∈ mirrorDues i u mpos n ↔ u.reading = some mpos ∧ mpos.val = cmd.port.val)
      ∧ (.mirrorDeadline i ∈ mirrorDues i u mpos n ↔
          ¬(u.reading = some mpos ∧ mpos.val = cmd.port.val) ∧ fieldDiff cmd.deadline n ≤ 0) := by
  refine ⟨fun h => by rw [mirrorDues, h], fun cmd h => ?_⟩
  unfold mirrorDues
  rw [h, ← settledBy_eq_some_iff]
  simp only
  split
  · rename_i hs
    simp [hs]
  · rename_i hs
    unfold fieldReached
    split <;> simp_all

/-- The mirror clauses of a boundary (R82 to R85). -/
theorem boundaryMirrors {z y : State} {n : Field} {inSync : Bool} (h : Begun z y n inSync) {o : BoundaryOrder}
    (ho : MovesBlocksAlone o) : BoundaryMirrors z (y.react o) n := by
  intro hlock i
  have hdues : ∀ d : Due, d = .mirrorComplete i ∨ d = .mirrorDeadline i → d ∉ y.due := by
    intro d hd
    rw [h.due, mem_beginDues]
    rintro (⟨r, rec, -, hmem⟩ | ⟨hmem, -⟩ | ⟨hmem, -⟩)
    · have := ofRec_of_mem_dueOfRecord hmem
      rcases hd with rfl | rfl <;> cases this
    · rcases hd with rfl | rfl <;> cases hmem
    · rcases hd with rfl | rfl <;> cases hmem
  have hy : MirrorFound y i y := ⟨by rw [NoMirrorLock, h.eng]; exact hlock, rfl, rfl, rfl, hdues⟩
  obtain ⟨-, hmis, hdrift, hdue⟩ := react_mirror ho hy
  rw [h.pins, h.isl i] at hmis hdrift hdue
  rw [show y.field = n from h.field] at hdue
  have hmis' : (y.react o).isl[i].mismatch = true ↔ Drifts z i ∨ (z.isl[i].mismatch = true ∧ ¬AtHome z i) := by
    rw [hmis]
    exact mismatch_readAll_iff z i
  obtain ⟨hnone, hsome⟩ := mem_mirrorDues_iff (i := i) (u := { z.isl[i] with tallyBefore := z.isl[i].tally.getD false })
    (mpos := z.pins.isl[i].mpos) (n := n)
  refine ⟨fun hd => ⟨hmis'.2 (.inl hd), hdrift ((drifting_iff_drifts z i).2 hd)⟩, fun hd => ?_, fun hp => ?_, fun cmd hp => ?_⟩
  · rw [hmis']
    exact or_iff_right hd
  · rw [hdue _ (.inl rfl), hdue _ (.inr rfl), hnone hp]
    exact ⟨List.not_mem_nil, List.not_mem_nil⟩
  · rw [hdue _ (.inl rfl), hdue _ (.inr rfl)]
    exact hsome cmd hp

end Sys2Proof.Machine
end

section
/-! Reactions that nothing disturbs: a tracker with an empty list, a channel without LOOP and TAIL, a film at rest (R24, R31, R55, R72). -/

namespace Sys2Proof.Machine
open Sys2Proof.Claims

/-! ### An empty list (R55, R63, R72) -/

section Empty
variable (s : State) (p : Proj) (h : s.cues.lists[p] = [])
include h

theorem missMarks_of_empty : s.missMarks p = s := by
  unfold State.missMarks
  rw [h]
  split <;> rfl

theorem reachPass_of_empty : s.reachPass p = s := by
  unfold State.reachPass
  rw [h]
  split <;> rfl

theorem ahead_of_empty : s.ahead p = 0 := by
  unfold State.ahead
  rw [h]
  rfl

omit h in
theorem lowTest_zero : s.lowTest p 0 = s := by
  unfold State.lowTest
  have hno : (decide (s.cues.low[p] ≠ 0) && decide (s.cues.low[p] ≤ 0) && decide (s.ahead p < s.cues.low[p])) = false := by
    simp
  exact congrArg (fun c => s.passIf c (.proj p .cueLow)) hno

theorem takeMatch_of_empty (d : Int) : s.takeMatch p d =
    (s.updTr p (fun t => { t with strayMarks := satInc Config.countMax t.strayMarks })).passUnlessQuiet p .strayMark := by
  unfold State.takeMatch
  rw [h]
  rfl

end Empty

/-- The notices that the queue holds, with the one that a stray mark may yet post. -/
def State.load (s : State) (p : Proj) : Nat :=
  s.line.queue.length + if (s.alarm.get (.proj p .strayMark)).set = true then 0 else 1

/-- What a frame advance with no entry to reach makes of a projector: its samples, its stray marks, and at most so many notices. -/
structure Strayed (k : Nat) (p : Proj) (s t : State) : Prop where
  eq : t = { s with
    tr := t.tr, det := t.det, alarm := t.alarm, line := { s.line with queue := t.line.queue, discarded := t.line.discarded } }
  others : ∀ q : Proj, q ≠ p → t.tr[q] = s.tr[q] ∧ t.det[q] = s.det[q]
  tr : t.tr[p] = { s.tr[p] with strayMarks := t.tr[p].strayMarks }
  load : t.load p ≤ s.load p + k

namespace Strayed
variable {k j : Nat} {p : Proj} {s t u : State}

theorem refl (s : State) : Strayed 0 p s s := ⟨rfl, fun _ _ => ⟨rfl, rfl⟩, rfl, Nat.le_refl _⟩

theorem trans (h : Strayed k p s t) (g : Strayed j p t u) : Strayed (k + j) p s u where
  eq := by rw [g.eq, h.eq]
  others q hq := ⟨(g.others q hq).1.trans (h.others q hq).1, (g.others q hq).2.trans (h.others q hq).2⟩
  tr := by rw [g.tr, h.tr]
  load := by have := h.load; have := g.load; omega

end Strayed

theorem updDet_strayed (s : State) (p : Proj) (f : Detector → Detector) : Strayed 0 p s (s.updDet p f) :=
  ⟨rfl, fun _ hq => ⟨rfl, getElem_set_other _ _ hq⟩, rfl, Nat.le_refl _⟩

theorem passNoticeLost_queue (s : State) : s.passNoticeLost.line.queue = s.line.queue := by
  unfold State.passNoticeLost
  simp only
  split
  · rfl
  · split <;> rfl

/-- A stray mark posts its notice once (R166). -/
theorem pass_strayMark_load (s : State) (p : Proj) : (s.pass (.proj p .strayMark)).load p ≤ s.load p := by
  have hset := pass_latches s (.proj p .strayMark)
  unfold State.load
  rw [if_pos hset]
  by_cases hs : (s.alarm.get (.proj p .strayMark)).set = true
  · rw [if_pos hs]
    have : s.pass (.proj p .strayMark) = s.putLatch (.proj p .strayMark) { s.alarm.get (.proj p .strayMark) with
      count := satInc 255 (s.alarm.get (.proj p .strayMark)).count } := if_pos hs
    rw [this]
    exact Nat.le_refl _
  · rw [if_neg hs]
    exact pass_queue_length s _

theorem takeMatch_strayed (s : State) (p : Proj) (h : s.cues.lists[p] = []) (d : Int) :
    Strayed 0 p s (s.takeMatch p d) ∧ (s.takeMatch p d).det = s.det := by
  rw [takeMatch_of_empty s p h]
  let s1 := s.updTr p (fun t => { t with strayMarks := satInc Config.countMax t.strayMarks })
  have h1 : Strayed 0 p s s1 :=
    ⟨rfl, fun _ hq => ⟨getElem_set_other _ _ hq, rfl⟩, by simp only [s1, State.updTr_tr, getElem_set_same], Nat.le_refl _⟩
  have h2 : Strayed 0 p s1 (s1.passUnlessQuiet p .strayMark) := by
    have hn := passUnlessQuiet_notified s1 p .strayMark
    refine ⟨by rw [hn.eq], fun q _ => by rw [hn.tr, hn.det]; exact ⟨rfl, rfl⟩, by rw [hn.tr], ?_⟩
    unfold State.passUnlessQuiet State.passIf
    split
    · exact pass_strayMark_load s1 p
    · exact Nat.le_refl _
  exact ⟨h1.trans h2, (passUnlessQuiet_notified s1 p .strayMark).det⟩

theorem takeWaiting_strayed (s : State) (p : Proj) (h : s.cues.lists[p] = []) :
    Strayed 0 p s (s.takeWaiting p) ∧ (s.takeWaiting p).det[p] = { s.det[p] with found := none } := by
  unfold State.takeWaiting
  cases hf : s.det[p].found with
  | none =>
    have heta : s.det[p] = { s.det[p] with found := s.det[p].found } := rfl
    rw [hf] at heta
    exact ⟨Strayed.refl s, heta⟩
  | some d =>
    obtain ⟨h2, hdet⟩ := takeMatch_strayed (s.updDet p (fun d => { d with found := none })) p h d
    refine ⟨(updDet_strayed s p _).trans h2, ?_⟩
    show ((s.updDet p _).takeMatch p d).det[p] = _
    rw [hdet, State.updDet_det, getElem_set_same]

theorem handMatch_strayed (s : State) (p : Proj) (h : s.cues.lists[p] = []) (d : Int) : Strayed 0 p s (s.handMatch p d) := by
  unfold State.handMatch
  split
  · exact updDet_strayed s p _
  · exact (takeMatch_strayed s p h d).1

theorem reportPosition_strayed (s : State) (p : Proj) : Strayed 1 p s (s.reportPosition p) ∧ (s.reportPosition p).det = s.det := by
  have hpost : ∀ n, Strayed 1 p s (s.postPosition n) ∧ (s.postPosition n).det = s.det := by
    intro n
    unfold State.postPosition
    split
    · refine ⟨⟨rfl, fun _ _ => ⟨rfl, rfl⟩, rfl, ?_⟩, rfl⟩
      simp only [State.load, State.updLine, List.length_map]
      exact Nat.le_succ _
    · split
      · refine ⟨⟨rfl, fun _ _ => ⟨rfl, rfl⟩, rfl, ?_⟩, rfl⟩
        simp only [State.load, State.enqueue, State.updLine, List.length_append, List.length_singleton]
        exact Nat.le_of_eq (Nat.add_right_comm _ _ _)
      · exact ⟨⟨rfl, fun _ _ => ⟨rfl, rfl⟩, rfl, Nat.le_succ _⟩, rfl⟩
  unfold State.reportPosition
  simp only
  split
  · exact hpost _
  · exact ⟨⟨rfl, fun _ _ => ⟨rfl, rfl⟩, rfl, Nat.le_succ _⟩, rfl⟩

/-- A frame advance with no entry to reach: its samples and stray marks, then the tail-out test (R55, R68, R72, R157). -/
theorem frameAdvanced_of_empty (s : State) (p : Proj) (h : s.cues.lists[p] = []) :
    ∃ w, Strayed 1 p s w ∧ s.frameAdvanced p 0 = w.tailoutOf p
      ∧ (s.ch[p].sampling = true → s.det[p].history.length < 8 → s.det[p].history.length + 1 < s.det[p].sigLen →
          w.det[p].history = s.det[p].history ++ [s.det[p].latch] ∧ w.det[p].latch = s.pins.proj[p].cue) := by
  let s1 := if s.ch[p].sampling then s.updDet p (fun d => d.sample s.pins.proj[p].cue) else s
  let isMatch := s.ch[p].sampling && s1.det[p].matched
  let s2 := if isMatch then s1.updDet p Detector.emptied else s1
  let s4 := (s2.reportPosition p).takeWaiting p
  let s5 := if isMatch then s4.handMatch p s.tr[p].frame else s4
  have h1 : Strayed 0 p s s1 := by
    unfold s1
    split
    · exact updDet_strayed s p _
    · exact Strayed.refl s
  have h2 : Strayed 0 p s1 s2 := by
    unfold s2
    split
    · exact updDet_strayed s1 p _
    · exact Strayed.refl s1
  obtain ⟨h3, hdet3⟩ := reportPosition_strayed s2 p
  have hempty : ∀ {k w}, Strayed k p s w → w.cues.lists[p] = [] := fun hw => by rw [hw.eq]; exact h
  have h03 := (h1.trans h2).trans h3
  obtain ⟨h4, hdet4⟩ := takeWaiting_strayed (s2.reportPosition p) p (hempty h03)
  have h04 := h03.trans h4
  have h5 : Strayed 0 p s4 s5 := by
    unfold s5
    split
    · exact handMatch_strayed s4 p (hempty h04) _
    · exact Strayed.refl s4
  have heq : s.frameAdvanced p 0 = s5.tailoutOf p := by
    have hs3 : (((s2.reportPosition p).missMarks p).reachPass p).lowTest p 0 = s2.reportPosition p := by
      rw [missMarks_of_empty _ p (hempty h03), reachPass_of_empty _ p (hempty h03), lowTest_zero _ p]
    unfold State.frameAdvanced
    show State.tailoutOf (if isMatch then
      (((((s2.reportPosition p).missMarks p).reachPass p).lowTest p 0).takeWaiting p).handMatch p s.tr[p].frame
      else ((((s2.reportPosition p).missMarks p).reachPass p).lowTest p 0).takeWaiting p) p = _
    rw [hs3]
  refine ⟨s5, h04.trans h5, heq, fun hsamp hlen hsig => ?_⟩
  have hs1 : s1.det[p] = s.det[p].sample s.pins.proj[p].cue := by
    unfold s1
    rw [if_pos hsamp, State.updDet_det, getElem_set_same]
  have hhist : (s.det[p].sample s.pins.proj[p].cue).history = s.det[p].history ++ [s.det[p].latch] := if_pos hlen
  have hno : isMatch = false := by
    unfold isMatch Detector.matched
    rw [hs1, hhist]
    have : ¬(s.det[p].sample s.pins.proj[p].cue).sigLen ≤ (s.det[p].history ++ [s.det[p].latch]).length := by
      rw [List.length_append, List.length_singleton]
      show ¬s.det[p].sigLen ≤ _
      omega
    rw [decide_eq_false this, Bool.false_and, Bool.and_false]
  have hs5 : s5.det[p] = { s.det[p].sample s.pins.proj[p].cue with found := none } := by
    have h2' : s2 = s1 := by unfold s2; rw [hno]; rfl
    have : s5 = s4 := by unfold s5; rw [hno]; rfl
    rw [this, hdet4, hdet3, h2', hs1]
  rw [hs5]
  exact ⟨hhist, rfl⟩

/-! ### The cadence advance, case by case (R55) -/

section Advance
variable (s : State) (p : Proj)

/-- A tracker that is to make a frame advance at this boundary, to a position. -/
def State.stepped (s : State) (p : Proj) (q : Pos) : State := (s.ticked p).updTr p (fun t => { t with pos := some q, frame := q.f })

theorem tracked_of_slip (h : s.slipsNow p = true) : s.tracked p = s.ticked p := if_pos h

theorem tracked_of_no_slip (h : s.slipsNow p = false) : s.tracked p = (s.ticked p).cadenceAdvance p := by
  unfold State.tracked
  rw [h]
  rfl

/-- A tracker that is not LOCKED does not advance. -/
theorem tracked_of_not_locked (h : s.tr[p].lock ≠ .locked) : s.tracked p = s.ticked p := by
  unfold State.tracked
  split
  · rfl
  · unfold State.cadenceAdvance
    split
    · rename_i hl _
      exact absurd hl h
    · rfl

theorem tracked_of_no_pos (h : s.tr[p].pos = none) : s.tracked p = s.ticked p := by
  unfold State.tracked
  split
  · rfl
  · unfold State.cadenceAdvance
    split
    · rename_i hq
      exact nomatch h.symm.trans hq
    · rfl

variable {s p} {q : Pos} (hslip : s.slipsNow p = false) (hlock : s.tr[p].lock = .locked) (hpos : s.tr[p].pos = some q)
include hslip hlock hpos

theorem tracked_cases : s.tracked p =
    if q.advance.f = q.f then (s.ticked p).updTr p (fun t => { t with pos := some q.advance })
    else if s.tr[p].frame < Config.frameMax then (s.stepped p q.advance).frameAdvanced p (s.ahead p)
    else ((s.ticked p).updTr p (fun t => { t with pos := some { q.advance with f := q.f } })).pass (.proj p .counterLimit) := by
  rw [tracked_of_no_slip s p hslip]
  unfold State.cadenceAdvance
  rw [show (s.ticked p).tr[p].lock = .locked from hlock, show (s.ticked p).tr[p].pos = some q from hpos]
  rfl

end Advance

/-! ### The tail-out test (R157) -/

theorem tailoutOf_of_no_tailout (s : State) (p : Proj)
    (h : ∀ (r : Rec) (rec : Record), s.eng.records[r] = some rec → rec.a = p → rec.state ≠ .tailout) : s.tailoutOf p = s := by
  unfold State.tailoutOf
  cases hr : s.asOutgoing p with
  | none => rfl
  | some r =>
    obtain ⟨rec, hrec, ha⟩ := asOutgoing_some hr
    unfold State.tailoutTest
    simp only [hrec]
    split
    · rfl
    · rw [if_neg fun ht => h r rec hrec ha ht.1]

/-! ### Reactions that nothing disturbs -/

/-- A channel that has counted a boundary at most, beside what it was. -/
def Channel.Counts (c d : Channel) : Prop :=
  d = { c with still := d.still, strike := d.strike, runup := d.runup, lampFails := d.lampFails }

/-- A reaction of one projector that reaches no other block. -/
structure Hushed (p : Proj) (s t : State) : Prop where
  eq : t = { s with
    ch := t.ch, tr := t.tr, det := t.det, alarm := t.alarm
    line := { s.line with queue := t.line.queue, discarded := t.line.discarded }, due := t.due, unmoved := t.unmoved }
  others : ∀ q : Proj, q ≠ p → t.ch[q] = s.ch[q] ∧ t.tr[q] = s.tr[q] ∧ t.det[q] = s.det[q]
  ch : s.ch[p].Counts t.ch[p]
  dues : ∃ ds, t.due = s.due ++ ds ∧ ∀ d ∈ ds, d ∈ projSteps p

/-- What a tracker with nothing to reach makes of itself. -/
def Tracker.Advances (x y : Tracker) : Prop := y = { x with pos := y.pos, frame := y.frame, strayMarks := y.strayMarks }

/-- A tracker with nothing to reach and no tail-out to end moves its own film alone. -/
theorem tracked_hushed (s : State) (p : Proj) (h : s.cues.lists[p] = [])
    (ht : ∀ (r : Rec) (rec : Record), s.eng.records[r] = some rec → rec.a = p → rec.state ≠ .tailout) :
    Hushed p s (s.tracked p) ∧ (s.tracked p).ch = s.ch ∧ (s.tracked p).due = s.due ∧ s.tr[p].Advances (s.tracked p).tr[p] := by
  have hticked : Hushed p s (s.ticked p) :=
    ⟨rfl, fun _ _ => ⟨rfl, rfl, rfl⟩, rfl, [], (List.append_nil _).symm, nofun⟩
  have hupd : ∀ f : Tracker → Tracker, Hushed p s ((s.ticked p).updTr p f) := fun f =>
    ⟨rfl, fun _ hq => ⟨rfl, getElem_set_other _ _ hq, rfl⟩, rfl, [], (List.append_nil _).symm, nofun⟩
  have htr : ∀ f : Tracker → Tracker, ((s.ticked p).updTr p f).tr[p] = f s.tr[p] := fun f => getElem_set_same _ _ _
  by_cases hslip : s.slipsNow p = true
  · rw [tracked_of_slip s p hslip]
    exact ⟨hticked, rfl, rfl, rfl⟩
  by_cases hlock : s.tr[p].lock = .locked
  swap
  · rw [tracked_of_not_locked s p hlock]
    exact ⟨hticked, rfl, rfl, rfl⟩
  cases hpos : s.tr[p].pos with
  | none =>
    rw [tracked_of_no_pos s p hpos]
    exact ⟨hticked, rfl, rfl, rfl⟩
  | some q =>
    rw [tracked_cases (by simpa using hslip) hlock hpos]
    split
    · refine ⟨hupd _, rfl, rfl, ?_⟩
      rw [htr]
      rfl
    · split
      · rw [ahead_of_empty s p h]
        obtain ⟨w, hw, heq, -⟩ := frameAdvanced_of_empty (s.stepped p q.advance) p h
        have hno : w.tailoutOf p = w := tailoutOf_of_no_tailout w p (by rw [hw.eq]; exact ht)
        rw [heq, hno]
        have hstep : Hushed p s (s.stepped p q.advance) := hupd _
        refine ⟨⟨?_, fun x hx => ?_, ?_, [], ?_, nofun⟩, ?_, ?_, ?_⟩
        · rw [hw.eq, hstep.eq]
        · obtain ⟨h1, h2⟩ := hw.others x hx
          obtain ⟨g1, g2, g3⟩ := hstep.others x hx
          exact ⟨by rw [hw.eq]; exact g1, h1.trans g2, h2.trans g3⟩
        · rw [hw.eq]; exact rfl
        · rw [hw.eq, List.append_nil]; rfl
        · rw [hw.eq]; rfl
        · rw [hw.eq]; rfl
        · rw [hw.tr, show (s.stepped p q.advance).tr[p] = _ from htr _]
          rfl
      · have hn := pass_notified ((s.ticked p).updTr p (fun t => { t with pos := some { q.advance with f := q.f } })) (.proj p .counterLimit)
        have hstep := hupd (fun t => { t with pos := some { q.advance with f := q.f } })
        refine ⟨⟨?_, fun x hx => ?_, ?_, [], ?_, nofun⟩, hn.ch, hn.due, ?_⟩
        · rw [hn.eq]; rfl
        · rw [hn.ch, hn.tr, hn.det]
          exact hstep.others x hx
        · rw [hn.ch]; exact rfl
        · rw [hn.due, List.append_nil]; rfl
        · exact Eq.mpr (congrArg s.tr[p].Advances ((congrArg (fun v : Vector Tracker 8 => v[p]) hn.tr).trans (htr _))) rfl

theorem trackerReact_hushed (s : State) (p : Proj) (h : s.cues.lists[p] = [])
    (ht : ∀ (r : Rec) (rec : Record), s.eng.records[r] = some rec → rec.a = p → rec.state ≠ .tailout) :
    Hushed p s (s.trackerReact p) ∧ (s.trackerReact p).ch = s.ch := by
  obtain ⟨hw, hch, hdue, -⟩ := tracked_hushed s p h ht
  have hds : ∀ d ∈ s.trackerDues p, d ∈ projSteps p := fun d hd => by
    rcases mem_trackerDues hd with rfl | rfl | rfl <;> simp [projSteps, trackerSteps]
  rw [trackerReact_eq]
  exact ⟨⟨by rw [State.wait, hw.eq], hw.others, hw.ch, s.trackerDues p, by rw [State.wait, hdue], hds⟩, hch⟩

/-! ### A film at rest -/

/-- A channel in which no film runs. -/
def Channel.Rests (c : Channel) : Prop := c.running = false ∧ c.state ≠ .inch

/-- A consumption with the film at rest changes no channel. -/
theorem consume_ch (s : State) (p : Proj) (e : CueEntry) (o : CueOutcome) (v : Int) : (s.consume p e o v false).ch = s.ch := by
  obtain ⟨w, hw, -, h⟩ := consume_cases s p e o v false
  rw [h, if_neg fun hc => Bool.false_ne_true hc.2.2, hw.ch]
  unfold State.removeCue
  simp only
  split <;> rfl

theorem giveStop_ch (s : State) (p : Proj) (h : s.ch[p].Rests) : (s.giveStop p).ch = s.ch := by
  unfold State.giveStop State.requestStop
  split
  · rfl
  · unfold State.doStop
    have hrun : ¬s.ch[p].running = true := by
      rw [h.1]
      exact Bool.false_ne_true
    simp only [if_neg hrun, if_neg h.2]
    exact (engineStop_engineOnly s p).ch

theorem tailoutTest_ch (s : State) (r : Rec) (h : ∀ rec, s.eng.records[r] = some rec → s.ch[rec.a].Rests) :
    (s.tailoutTest r).ch = s.ch := by
  unfold State.tailoutTest
  split
  · rfl
  · rename_i rec hrec
    split
    · rfl
    · split
      · have he := (endRecord_engineOnly s r (rec.result.getD .onTime)).ch
        rw [giveStop_ch _ _ (by rw [he]; exact h rec hrec), he]
      · rfl

section Rests
variable (s : State) (p : Proj) (h : s.ch[p].Rests)
include h

theorem tailoutOf_ch : (s.tailoutOf p).ch = s.ch := by
  unfold State.tailoutOf
  cases hr : s.asOutgoing p with
  | none => rfl
  | some r =>
    refine tailoutTest_ch s r fun rec hrec => ?_
    obtain ⟨rec', hrec', ha⟩ := asOutgoing_some hr
    rw [hrec] at hrec'
    cases hrec'
    subst ha
    exact h

theorem missMarks_ch : (s.missMarks p).ch = s.ch := by
  unfold State.missMarks
  split
  · refine foldl_inv (I := fun w : State => w.ch = s.ch) (fun w e _ hw => ?_) rfl
    have hrun : w.ch[p].running = false := by rw [hw]; exact h.1
    rw [(pass_notified _ _).ch, hrun, consume_ch, hw]
  · rfl

theorem reachPass_ch : s.reachPass p = s := by
  unfold State.reachPass
  rw [h.1]
  rfl

theorem applyCorrection_ch (c : Int) : (s.applyCorrection p c).ch = s.ch := by
  let s1 := (s.updTr p (fun t => t.corrected c)).passIf (!frameInRange (s.tr[p].frame + c)) (.proj p .counterLimit)
  let s2 := if c = 0 then s1 else s1.engineCorrected p
  have h1 : s1.ch = s.ch := (passIf_notified _ _ _).ch
  have h2 : s2.ch = s.ch := by
    unfold s2
    split
    · exact h1
    · rw [← h1]
      unfold State.engineCorrected
      simp only
      split
      · rfl
      · split <;> rfl
  have hrest : ∀ w : State, w.ch = s.ch → w.ch[p].Rests := fun w hw => by rw [hw]; exact h
  have h3 : (if 0 < c then s2.reachPass p else s2) = s2 := by
    rw [reachPass_ch s2 p (hrest s2 h2), ite_self]
  have heq : s.applyCorrection p c = ((if 0 < c then s2.reachPass p else s2).lowTest p (s.ahead p)).tailoutOf p := rfl
  have hlow : (s2.lowTest p (s.ahead p)).ch = s.ch := (passIf_notified _ _ _).ch.trans h2
  rw [heq, h3, tailoutOf_ch _ p (hrest _ hlow), hlow]

theorem takeMatch_ch (d : Int) : (s.takeMatch p d).ch = s.ch := by
  unfold State.takeMatch
  split
  · rename_i e _
    have hlow : ((s.consume p e .matched ((e.pos : Int) - d) s.ch[p].running).lowTest p (s.ahead p)).ch = s.ch := by
      rw [h.1]
      exact (passIf_notified _ _ _).ch.trans (consume_ch s p e _ _)
    simp only
    rw [applyCorrection_ch _ p (by rw [hlow]; exact h), hlow]
  · exact (passUnlessQuiet_notified _ _ _).ch

theorem takeWaiting_ch : (s.takeWaiting p).ch = s.ch := by
  unfold State.takeWaiting
  split
  · rfl
  · rename_i d _
    exact takeMatch_ch (s.updDet p (fun d => { d with found := none })) p h d

theorem handMatch_ch (d : Int) : (s.handMatch p d).ch = s.ch := by
  unfold State.handMatch
  split
  · rfl
  · exact takeMatch_ch s p h d

/-- A frame advance with the film at rest moves no channel. -/
theorem frameAdvanced_ch (before : Nat) : (s.frameAdvanced p before).ch = s.ch := by
  let s1 := if s.ch[p].sampling then s.updDet p (fun d => d.sample s.pins.proj[p].cue) else s
  let isMatch := s.ch[p].sampling && s1.det[p].matched
  let s2 := if isMatch then s1.updDet p Detector.emptied else s1
  let s3 := (((s2.reportPosition p).missMarks p).reachPass p).lowTest p before
  let s4 := s3.takeWaiting p
  let s5 := if isMatch then s4.handMatch p s.tr[p].frame else s4
  have hrest : ∀ w : State, w.ch = s.ch → w.ch[p].Rests := fun w hw => by rw [hw]; exact h
  have h1 : s1.ch = s.ch := by unfold s1; split <;> rfl
  have h2 : s2.ch = s.ch := by
    unfold s2
    split
    · exact h1
    · exact h1
  have hrep : (s2.reportPosition p).ch = s.ch := by
    rw [(reportPosition_strayed s2 p).1.eq]
    exact h2
  have hmiss : ((s2.reportPosition p).missMarks p).ch = s.ch := (missMarks_ch _ p (hrest _ hrep)).trans hrep
  have h3 : s3.ch = s.ch := by
    refine (passIf_notified _ _ _).ch.trans ?_
    rw [reachPass_ch _ p (hrest _ hmiss)]
    exact hmiss
  have h4 : s4.ch = s.ch := (takeWaiting_ch s3 p (hrest _ h3)).trans h3
  have h5 : s5.ch = s.ch := by
    unfold s5
    split
    · exact (handMatch_ch s4 p (hrest _ h4) _).trans h4
    · exact h4
  exact (tailoutOf_ch s5 p (hrest _ h5)).trans h5

theorem trackerReact_ch : (s.trackerReact p).ch = s.ch := by
  rw [trackerReact_eq]
  show (s.tracked p).ch = s.ch
  by_cases hslip : s.slipsNow p = true
  · rw [tracked_of_slip s p hslip]
    rfl
  by_cases hlock : s.tr[p].lock = .locked
  swap
  · rw [tracked_of_not_locked s p hlock]
    rfl
  cases hpos : s.tr[p].pos with
  | none =>
    rw [tracked_of_no_pos s p hpos]
    rfl
  | some q =>
    rw [tracked_cases (by simpa using hslip) hlock hpos]
    split
    · rfl
    · split
      · exact frameAdvanced_ch (s.stepped p q.advance) p h _
      · exact (pass_notified _ _).ch

end Rests

theorem counted_ch (s : State) (p : Proj) : (s.counted p).ch[p] = s.ch[p].count s.field s.alarm.flags[p].lampok :=
  getElem_set_same _ _ _

theorem channelReact_hushed (s : State) (p : Proj) (h : s.inputFaults p = []) :
    Hushed p s (s.channelReact p) ∧ (s.channelReact p).tr = s.tr ∧ (s.channelReact p).det = s.det := by
  rw [channelReact_of_none s p h]
  refine ⟨⟨rfl, fun q hq => ⟨getElem_set_other _ _ hq, rfl, rfl⟩, ?_, channelDues p (s.counted p).ch[p], rfl, fun d hd => ?_⟩, rfl, rfl⟩
  · show s.ch[p].Counts (s.counted p).ch[p]
    rw [counted_ch]
    rfl
  · rcases mem_channelDues hd with rfl | rfl | rfl | rfl <;> simp [projSteps]

end Sys2Proof.Machine
end

section
/-! The channels at a boundary (R20 to R31). -/

namespace Sys2Proof.Machine
open Sys2Proof.Claims

/-! ### Which reaction a waiting step belongs to -/

/-- The block whose reaction has a step wait. -/
def Due.part : Due → Option Part
  | .lockDeclared p | .slipCorrection p | .missingEdge p => some (.tracker p)
  | .strikeEnd p | .lampFail p | .runupTimeout p | .coastEnd p => some (.channel p)
  | .mirrorComplete _ | .mirrorDeadline _ => some .islands
  | _ => none

theorem part_of_ofRec {d : Due} {r : Rec} : d.ofRec r = true → d.part = none := by
  cases d <;> simp [Due.ofRec, Due.part]

theorem part_of_ofMirror {d : Due} : d.ofMirror = true → d.part = some .islands := by
  cases d <;> simp [Due.ofMirror, Due.part]

/-- A step that a block's reaction has wait is no record's. -/
theorem ofRec_of_part {d : Due} {x : Part} (h : d.part = some x) (r : Rec) : d.ofRec r = false := by
  cases hr : d.ofRec r with
  | false => rfl
  | true => exact nomatch h.symm.trans (part_of_ofRec hr)

/-- A projector's step is no record's and no mirror's. -/
theorem free_of_part {d : Due} {x : Part} (h : d.part = some x) (hx : x ≠ .islands) : d.Free := by
  refine ⟨?_, ofRec_of_part h⟩
  cases hm : d.ofMirror with
  | false => rfl
  | true => exact absurd (Option.some.inj (h.symm.trans (part_of_ofMirror hm))) hx

theorem tracked_within (s : State) (p : Proj) : Steady (.of p) (s.ticked p) (s.tracked p) := tracked_steady s (of_has p)

/-- A block has no step wait but its own. -/
theorem block_waits (s : State) {x : Part} (hx : Part.isBlock x = true) {d : Due} (hd : d ∈ (s.partReact x).due) :
    d ∈ s.due ∨ d.part = some x := by
  cases x with
  | tracker p =>
    change d ∈ (s.trackerReact p).due at hd
    rw [trackerReact_eq] at hd
    rcases List.mem_append.1 hd with hd | hd
    · exact .inl (((tracked_within s p).waits not_false).1 d hd)
    · rcases mem_trackerDues hd with rfl | rfl | rfl <;> exact .inr rfl
  | channel p =>
    change d ∈ (s.channelReact p).due at hd
    by_cases h : s.inputFaults p = []
    · rw [channelReact_of_none s p h] at hd
      rcases List.mem_append.1 hd with hd | hd
      · exact .inl hd
      · rcases mem_channelDues hd with rfl | rfl | rfl | rfl <;> exact .inr rfl
    · rw [channelReact_of_faults s p h] at hd
      exact .inl (((enterFault_steady (S := .of p) (s.counted p) (of_has p) _).waits not_false).1 d hd)
  | islands =>
    have hw := islandsReact_within (R := fun _ => True) s fun _ _ _ _ _ _ _ => .inl trivial
    rcases hw.waits d hd with hd | ⟨p, hp, -⟩ | ⟨i, -, rfl | rfl⟩
    · exact .inl hd
    · exact hp.elim
    · exact .inr rfl
    · exact .inr rfl
  | _ => cases hx

/-- A block takes no step of a projector or of the take port away. -/
theorem block_keeps (s : State) {x : Part} (hx : Part.isBlock x = true) {d : Due} (hf : d.Free) (hd : d ∈ s.due) :
    d ∈ (s.partReact x).due := by
  by_cases hi : x = .islands
  · subst hi
    exact (islandsReact_within (R := fun _ => True) s fun _ _ _ _ _ _ _ => .inl trivial).kept d hd hf
  · obtain ⟨p, -, hw⟩ := block_within s hx hi
    exact hw.kept d hd hf

theorem block_due_iff (s : State) {x : Part} (hx : Part.isBlock x = true) {d : Due} (hf : d.Free) (hp : d.part ≠ some x) :
    d ∈ (s.partReact x).due ↔ d ∈ s.due :=
  ⟨fun h => (block_waits s hx h).resolve_right hp, block_keeps s hx hf⟩

theorem armAttempt_due_iff (s : State) (a : Proj) {d : Due} (hf : d.Free) : d ∈ (s.armAttempt a).due ↔ d ∈ s.due := by
  have h := (armAttempt_steady (S := .arming s a) s ⟨⟨.inl rfl, rfl⟩, fun _ hb => .inr hb, trivial⟩).waits not_false
  exact ⟨h.1 d, fun hd => h.2 d hd hf⟩

theorem takesReact_due_iff (s : State) {d : Due} (hd : d ≠ .takeGrant) : d ∈ s.takesReact.due ↔ d ∈ s.due := by
  obtain ⟨slots, ds, heq, hds⟩ := takesReact_eq s
  rw [heq, List.mem_append]
  exact ⟨fun h => h.resolve_right fun hm => hd (hds d hm), .inl⟩

theorem takesReact_ch (s : State) : s.takesReact.ch = s.ch := by
  obtain ⟨slots, ds, heq, -⟩ := takesReact_eq s
  rw [heq]

theorem takesReact_cues (s : State) : s.takesReact.cues = s.cues := by
  obtain ⟨slots, ds, heq, -⟩ := takesReact_eq s
  rw [heq]

/-! ### A projector in no record -/

theorem inNoRecord_within {S : Scope} {s t : State} {P : Isl → Prop} {p : Proj} (h : InNoRecord s p) (k : Within S P s t) (hS : ¬S.arms) :
    InNoRecord t p := by
  intro r rec hr
  obtain ⟨old, hold, hrec⟩ := (k.olds hS).2.1 r rec hr
  rw [hrec]
  exact h r old hold

theorem block_inNoRecord (s : State) {x : Part} (hx : Part.isBlock x = true) {p : Proj} (h : InNoRecord s p) :
    InNoRecord (s.partReact x) p := by
  by_cases hi : x = .islands
  · subst hi
    exact inNoRecord_within h (islandsReact_within (R := fun _ => True) s fun _ _ _ _ _ _ _ => .inl trivial) not_false
  · obtain ⟨q, -, hw⟩ := block_within s hx hi
    exact inNoRecord_within h hw not_false

theorem block_list_nil (s : State) {x : Part} (hx : Part.isBlock x = true) {p : Proj} (h : s.cues.lists[p] = []) :
    (s.partReact x).cues.lists[p] = [] := by
  have hshrink : ∀ e ∈ (s.partReact x).cues.lists[p], e ∈ s.cues.lists[p] := by
    by_cases hi : x = .islands
    · subst hi
      exact (islandsReact_within (R := fun _ => True) s fun _ _ _ _ _ _ _ => .inl trivial).shrink p
    · obtain ⟨q, -, hw⟩ := block_within s hx hi
      exact hw.shrink p
  refine List.eq_nil_iff_forall_not_mem.2 fun e he => ?_
  have := hshrink e he
  rw [h] at this
  exact List.not_mem_nil this

/-- The film of a projector beside a block that is not its own. -/
theorem block_films (s : State) {x : Part} (hx : Part.isBlock x = true) {p : Proj} (ht : x ≠ .tracker p) (hc : x ≠ .channel p) :
    (s.partReact x).ch[p] = s.ch[p] ∧ (s.partReact x).tr[p] = s.tr[p] ∧ (s.partReact x).det[p] = s.det[p]
      ∧ (s.partReact x).cues.lists[p] = s.cues.lists[p] := by
  by_cases hi : x = .islands
  · subst hi
    exact (islandsReact_within (R := fun _ => True) s fun _ _ _ _ _ _ _ => .inl trivial).films p not_false
  · obtain ⟨q, hq, hw⟩ := block_within s hx hi
    refine hw.films p fun hpq : p = q => ?_
    subst hpq
    rcases hq with rfl | rfl
    · exact ht rfl
    · exact hc rfl

/-! ### A channel beside the other reactions -/

/-- A channel stands with a value and some of its steps waiting, and its tracker does not disturb it: the film rests, or its list is
empty and it is in no record. -/
structure Stands (p : Proj) (v : Channel) (ds : List Due) (s : State) : Prop where
  ch : s.ch[p] = v
  dues : ∀ d : Due, d.part = some (.channel p) → (d ∈ s.due ↔ d ∈ ds)
  placid : v.Rests ∨ (s.cues.lists[p] = [] ∧ InNoRecord s p)

/-- A tracker that nothing disturbs leaves its channel alone. -/
theorem trackerReact_ch_of_placid (s : State) (p : Proj) (h : s.ch[p].Rests ∨ (s.cues.lists[p] = [] ∧ InNoRecord s p)) :
    (s.trackerReact p).ch = s.ch := by
  rcases h with h | ⟨hl, hr⟩
  · exact trackerReact_ch s p h
  · exact (trackerReact_hushed s p hl fun r rec hrec ha => absurd ha (hr r rec hrec).1).2

theorem Stands.step {p : Proj} {v : Channel} {ds : List Due} {s : State} (h : Stands p v ds s) {x : Part}
    (hx : Part.isBlock x = true) (hc : x ≠ .channel p) : Stands p v ds (s.partReact x) := by
  refine ⟨?_, fun d hd => ?_, h.placid.imp_right fun ⟨hl, hr⟩ => ⟨block_list_nil s hx hl, block_inNoRecord s hx hr⟩⟩
  · by_cases ht : x = .tracker p
    · subst ht
      have hch : (s.trackerReact p).ch = s.ch := trackerReact_ch_of_placid s p (by rw [h.ch]; exact h.placid)
      exact (congrArg (fun w : Vector Channel 8 => w[p]) hch).trans h.ch
    · exact (block_films s hx ht hc).1.trans h.ch
  · rw [block_due_iff s hx (free_of_part hd nofun) (by rw [hd]; exact fun h => hc (Option.some.inj h).symm), h.dues d hd]

/-- An arming attempt starts no channel but one in READY (R137). -/
theorem armAttempt_ch (s : State) (a : Proj) {p : Proj} (hr : s.ch[p].state ≠ .ready)
    (hl : s.ch[p].state ≠ .run ∨ s.cues.lists[p] = []) : (s.armAttempt a).ch[p] = s.ch[p] := by
  by_cases hap : a = p
  · subst hap
    rcases hl with hl | hl
    · rw [armAttempt_of_not_run s a hl]
    · rw [armAttempt_of_no_change s a (by rw [hl]; exact nofun)]
  · exact ((armAttempt_within s a).films p fun h => h.elim (fun h => hap h.symm) hr).1

/-- The flags of a projector as the boundary samples them (R173). -/
def flagsOf (q : ProjPins) : ProjFlags := ⟨q.lampok, q.loop, q.tail⟩

section Counts
variable {z y : State} {n : Field} {inSync : Bool} (h : Begun z y n inSync)
include h

/-- No step of a block waits as the field begins. -/
theorem Begun.not_mem_due {d : Due} {x : Part} (hd : d.part = some x) : d ∉ y.due := by
  rw [h.due, mem_beginDues]
  rintro (⟨r, rec, -, hmem⟩ | ⟨rfl, -⟩ | ⟨rfl, -⟩)
  · have := ofRec_of_mem_dueOfRecord hmem
    rw [ofRec_of_part hd r] at this
    cases this
  · cases hd
  · cases hd

/-- The channel as the field begins: as the boundary found it, with none of its steps waiting. -/
theorem Begun.stands {p : Proj} (hplacid : z.ch[p].Rests ∨ (z.cues.lists[p] = [] ∧ InNoRecord z p)) : Stands p z.ch[p] [] y := by
  refine ⟨congrArg (fun v : Vector Channel 8 => v[p]) h.ch, fun d hd => ?_, hplacid.imp_right fun ⟨hl, hr⟩ => ⟨?_, ?_⟩⟩
  · exact ⟨fun hm => absurd hm (h.not_mem_due hd), fun hm => absurd hm List.not_mem_nil⟩
  · rw [h.cues]
    exact hl
  · rw [InNoRecord, h.eng]
    exact hr

/-- The flags and the field that a reaction finds are those of the boundary. -/
theorem Begun.flags_of_kept {s : State} (hk : Kept y s) (p : Proj) : s.alarm.flags[p] = flagsOf z.pins.proj[p] := by
  rw [hk.flags]
  exact h.flags p

theorem Begun.field_of_kept {s : State} (hk : Kept y s) : s.field = n := hk.field.trans h.field

/-- The faults that LOOP and TAIL raise, from the state that the boundary found. -/
theorem Begun.inputFaults {s : State} (hk : Kept y s) {p : Proj} (hch : s.ch[p] = z.ch[p]) :
    s.inputFaults p = (z.ch[p].count n z.pins.proj[p].lampok).inputFaults n (flagsOf z.pins.proj[p]) := by
  unfold State.inputFaults
  rw [counted_ch, hch, h.flags_of_kept hk, h.field_of_kept hk]
  rfl

variable {o : BoundaryOrder} (ho : MovesBlocksAlone o) {p : Proj}
include ho

/-- A channel that LOOP and TAIL do not disturb, and its tracker does not, counts the boundary and has its steps wait. -/
theorem react_counts (hplacid : z.ch[p].Rests ∨ (z.cues.lists[p] = [] ∧ InNoRecord z p))
    (hin : (z.ch[p].count n z.pins.proj[p].lampok).inputFaults n (flagsOf z.pins.proj[p]) = []) :
    (z.ch[p].state ≠ .ready → (y.react o).ch[p] = z.ch[p].count n z.pins.proj[p].lampok)
      ∧ ∀ d : Due, d.part = some (.channel p) →
        (d ∈ (y.react o).due ↔ d ∈ channelDues p (z.ch[p].count n z.pins.proj[p].lampok)) := by
  let v := z.ch[p].count n z.pins.proj[p].lampok
  have key : (v.state ≠ .ready → (y.react o).ch[p] = v ∧ (v.state ≠ .run ∨ (y.react o).cues.lists[p] = []))
      ∧ ∀ d : Due, d.part = some (.channel p) → (d ∈ (y.react o).due ↔ d ∈ channelDues p v) := by
    refine react_at ho (x := .channel p) rfl (I := fun s => Kept y s ∧ Stands p z.ch[p] [] s) (J := Stands p v (channelDues p v))
      (K := fun s => (v.state ≠ .ready → s.ch[p] = v ∧ (v.state ≠ .run ∨ s.cues.lists[p] = []))
        ∧ ∀ d : Due, d.part = some (.channel p) → (d ∈ s.due ↔ d ∈ channelDues p v))
      (fun s x hx hxp hs => ⟨hs.1.trans (partReact_kept s x), hs.2.step hx hxp⟩) (fun s hs => ?_)
      (fun s x hx hxp hs => hs.step hx hxp) (fun s hs => ⟨fun _ => ⟨hs.ch, ?_⟩, hs.dues⟩)
      (fun s a hs => ⟨fun hr => ?_, fun d hd => (armAttempt_due_iff s a (free_of_part hd nofun)).trans (hs.2 d hd)⟩)
      (fun s hs => ⟨fun hr => ?_, fun d hd => (takesReact_due_iff s fun h => by rw [h] at hd; cases hd).trans (hs.2 d hd)⟩)
      ⟨Kept.refl y, h.stands hplacid⟩
    · obtain ⟨hk, hst⟩ := hs
      have hch : (s.counted p).ch[p] = v := by
        rw [counted_ch, hst.ch, h.flags_of_kept hk, h.field_of_kept hk]
        rfl
      show Stands p v (channelDues p v) (s.channelReact p)
      rw [channelReact_of_none s p ((h.inputFaults hk hst.ch).trans hin), hch]
      refine ⟨hch, fun d hd => ?_, hst.placid⟩
      show d ∈ s.due ++ _ ↔ _
      rw [List.mem_append, hst.dues d hd]
      exact or_iff_right List.not_mem_nil
    · exact hs.placid.imp (fun hr hrun => by simpa [Channel.running, hrun] using hr.1) And.left
    · obtain ⟨hch, hl⟩ := hs.1 hr
      rw [← hch] at hr hl
      refine ⟨(armAttempt_ch s a hr hl).trans hch, hch ▸ hl.imp_right fun hl => ?_⟩
      refine List.eq_nil_iff_forall_not_mem.2 fun e he => ?_
      have := (armAttempt_within s a).shrink p e he
      rw [hl] at this
      exact List.not_mem_nil this
    · rw [takesReact_ch, takesReact_cues]
      exact hs.1 hr
  exact ⟨fun hr => (key.1 hr).1, key.2⟩

end Counts

end Sys2Proof.Machine
end

section
/-! The faults of LOOP and TAIL at a boundary, and the channels' clauses (R21 to R31). -/

namespace Sys2Proof.Machine
open Sys2Proof.Claims

/-! ### Entry to FAULT -/

/-- A channel's faults at a boundary: those of LOOP and TAIL with the lamp's and the run-up's beside them (R31). -/
def Channel.boundaryFaults (c : Channel) (n : Field) (f : ProjFlags) : List ChanFault :=
  c.inputFaults n f ++ c.countFaults (decide (c.lampFails = 2)) true

/-- What an entry to FAULT makes of the projector (R31). -/
theorem enterFault_spec (s : State) (p : Proj) {fs : List ChanFault} (hfs : fs ≠ []) :
    (s.enterFault p fs).ch[p] = s.ch[p].toFault ((fs.head?.map ChanFault.cause).getD .none) (fs.any (fun x => x = .lampFail))
      ∧ (s.enterFault p fs).tr[p] = s.tr[p].motorOff
      ∧ ∀ f ∈ fs, ((s.enterFault p fs).alarm.get (.proj p f.alarm)).set = true := by
  cases fs with
  | nil => exact absurd rfl hfs
  | cons f fs =>
    have h := beforeFault_handedOn s p (f :: fs)
    rw [enterFault_eq]
    refine ⟨?_, ?_, fun x hx => beforeFault_latches s p (f :: fs) hx⟩
    · rw [State.updTr_ch, State.updCh_ch, getElem_set_same, h.ch]
      rfl
    · rw [State.updTr_tr, getElem_set_same, State.updCh_tr, h.tr]

/-- A projector in FAULT at a boundary, its motor off. -/
structure Faulted (p : Proj) (v : Channel) (fs : List ChanFault) (s : State) : Prop where
  ch : s.ch[p] = v
  motor : s.tr[p].motor = false
  lock : s.tr[p].lock = .unlocked
  latched : ∀ f ∈ fs, (s.alarm.get (.proj p f.alarm)).set = true

/-- A tracker that is not LOCKED stays as it is. -/
theorem trackerReact_tr_of_not_locked (s : State) (p : Proj) (h : s.tr[p].lock ≠ .locked) : (s.trackerReact p).tr = s.tr := by
  rw [trackerReact_eq]
  show (s.tracked p).tr = s.tr
  rw [tracked_of_not_locked s p h]
  rfl

theorem Faulted.step {p : Proj} {v : Channel} {fs : List ChanFault} {s : State} (h : Faulted p v fs s) (hv : v.Rests) {x : Part}
    (hx : Part.isBlock x = true) (hc : x ≠ .channel p) : Faulted p v fs (s.partReact x) := by
  have hl : ∀ f ∈ fs, ((s.partReact x).alarm.get (.proj p f.alarm)).set = true := fun f hf =>
    (partReact_kept s x).latched _ (h.latched f hf)
  by_cases ht : x = .tracker p
  · subst ht
    have hch : (s.trackerReact p).ch = s.ch := trackerReact_ch s p (by rw [h.ch]; exact hv)
    have htr : (s.trackerReact p).tr = s.tr := trackerReact_tr_of_not_locked s p (by rw [h.lock]; exact nofun)
    exact ⟨(congrArg (fun w : Vector Channel 8 => w[p]) hch).trans h.ch,
      (congrArg (fun w : Vector Tracker 8 => w[p].motor) htr).trans h.motor,
      (congrArg (fun w : Vector Tracker 8 => w[p].lock) htr).trans h.lock, hl⟩
  · obtain ⟨hch, htr, -, -⟩ := block_films s hx ht hc
    exact ⟨hch.trans h.ch, (congrArg Tracker.motor htr).trans h.motor, (congrArg Tracker.lock htr).trans h.lock, hl⟩

theorem Faulted.arming {p : Proj} {v : Channel} {fs : List ChanFault} {s : State} (h : Faulted p v fs s) (hv : v.state = .fault)
    (a : Proj) : Faulted p v fs (s.armAttempt a) := by
  have hst : s.ch[p].state = .fault := by rw [h.ch, hv]
  by_cases hap : a = p
  · subst hap
    rw [armAttempt_of_not_run s a (by rw [hst]; exact nofun)]
    exact h
  · have hw := armAttempt_within s a
    obtain ⟨hch, htr, -, -⟩ := hw.films p fun hf => hf.elim (fun hpa => hap hpa.symm) (by rw [hst]; exact nofun)
    exact ⟨hch.trans h.ch, (congrArg Tracker.motor htr).trans h.motor, (congrArg Tracker.lock htr).trans h.lock,
      fun f hf => hw.latched _ (h.latched f hf)⟩

theorem Faulted.takes {p : Proj} {v : Channel} {fs : List ChanFault} {s : State} (h : Faulted p v fs s) :
    Faulted p v fs s.takesReact := by
  obtain ⟨slots, ds, heq, -⟩ := takesReact_eq s
  rw [heq]
  exact ⟨h.ch, h.motor, h.lock, h.latched⟩

section Faults
variable {z y : State} {n : Field} {inSync : Bool} (h : Begun z y n inSync) {o : BoundaryOrder} (ho : MovesBlocksAlone o) {p : Proj}
include h ho

/-- A channel that LOOP or TAIL puts in FAULT stays there to the end of the boundary (R31). -/
theorem react_faulted (hplacid : z.ch[p].Rests ∨ (z.cues.lists[p] = [] ∧ InNoRecord z p)) {c : Channel}
    (hc : z.ch[p].count n z.pins.proj[p].lampok = c) {fs : List ChanFault} (hfs : c.boundaryFaults n (flagsOf z.pins.proj[p]) = fs)
    (hin : c.inputFaults n (flagsOf z.pins.proj[p]) ≠ []) :
    Faulted p (c.toFault ((fs.head?.map ChanFault.cause).getD .none) (fs.any (fun x => x = .lampFail))) fs (y.react o) := by
  let v := c.toFault ((fs.head?.map ChanFault.cause).getD .none) (fs.any (fun x => x = .lampFail))
  have hv : v.state = .fault := rfl
  have hrest : v.Rests := ⟨rfl, nofun⟩
  refine react_at ho (x := .channel p) rfl (I := fun s => Kept y s ∧ Stands p z.ch[p] [] s) (J := Faulted p v fs) (K := Faulted p v fs)
    (fun s x hx hxp hs => ⟨hs.1.trans (partReact_kept s x), hs.2.step hx hxp⟩) (fun s hs => ?_)
    (fun s x hx hxp hs => hs.step hrest hx hxp) (fun _ hs => hs) (fun s a hs => hs.arming hv a) (fun s hs => hs.takes)
    ⟨Kept.refl y, h.stands hplacid⟩
  obtain ⟨hk, hst⟩ := hs
  have hch : (s.counted p).ch[p] = c := by
    rw [counted_ch, hst.ch, h.flags_of_kept hk, h.field_of_kept hk, ← hc]
    rfl
  have hinp : s.inputFaults p = c.inputFaults n (flagsOf z.pins.proj[p]) := by
    rw [h.inputFaults hk hst.ch, hc]
  have hall : s.inputFaults p ++ (s.counted p).ch[p].countFaults (decide ((s.counted p).ch[p].lampFails = 2)) true = fs := by
    rw [hinp, hch, ← hfs]
    rfl
  show Faulted p v fs (s.channelReact p)
  rw [channelReact_of_faults s p (by rw [hinp]; exact hin), hall]
  have hne : fs ≠ [] := by
    rw [← hfs]
    exact fun h0 => hin (List.append_eq_nil_iff.1 h0).1
  obtain ⟨h1, h2, h3⟩ := enterFault_spec (s.counted p) p hne
  rw [hch] at h1
  exact ⟨h1, by rw [h2]; rfl, by rw [h2]; rfl, h3⟩

end Faults

/-! ### The channel's own arithmetic -/

section Channel
variable (c : Channel) (p : Proj) (n : Field)

theorem strikeEnd_mem : .strikeEnd p ∈ channelDues p c ↔ c.state = .strike ∧ ∃ x, c.strike = some x ∧ x.limit ≤ x.count := by
  unfold channelDues
  simp [Option.any_eq_true, Timer.reached]

theorem lampFail_mem : .lampFail p ∈ channelDues p c ↔ c.lampFails = 2 := by
  unfold channelDues
  simp

theorem runupTimeout_mem : .runupTimeout p ∈ channelDues p c ↔ c.state = .runup ∧ ∃ x, c.runup = some x ∧ x.limit ≤ x.count := by
  unfold channelDues
  simp [Channel.runupOut, Option.any_eq_true, Timer.reached]

theorem coastEnd_mem : .coastEnd p ∈ channelDues p c ↔ c.state = .coast ∧ c.config.stillness ≤ c.still := by
  unfold channelDues
  simp [Channel.isStill]

/-- A timer that counts a boundary reaches its end by its count (R21, R25). -/
theorem exists_tick_reached (x : Option Timer) :
    (∃ t, x.map (fun t => t.tick n) = some t ∧ t.limit ≤ t.count) ↔ ∃ t, x = some t ∧ t.limit ≤ (ticked t n).count := by
  cases x with
  | none => simp
  | some t =>
    have h : t.tick n = ticked t n := rfl
    have hl : (ticked t n).limit = t.limit := by unfold ticked; split <;> rfl
    simp [h, hl]

/-- The lamp watch of a channel in READY, RUNUP or RUN (R24). -/
theorem watchLamp_of_watched {lampok : Bool} (h : c.state = .ready ∨ c.state = .runup ∨ c.state = .run) :
    c.watchLamp lampok = if lampok then 0 else min 2 (c.lampFails + 1) := by
  unfold Channel.watchLamp Channel.running
  rw [if_pos (by simpa using h)]
  rfl

theorem watchLamp_of_unwatched {lampok : Bool} (h : ¬(c.state = .ready ∨ c.state = .runup ∨ c.state = .run)) :
    c.watchLamp lampok = 0 := by
  unfold Channel.watchLamp Channel.running
  rw [if_neg (by simpa using h)]

/-- LOOP and TAIL raise nothing on a channel without them, or with its film at rest (R31). -/
theorem inputFaults_eq_nil {f : ProjFlags} (h : (f.loop = false ∧ f.tail = false) ∨ c.Rests) : c.inputFaults n f = [] := by
  unfold Channel.inputFaults
  rcases h with ⟨h1, h2⟩ | ⟨h1, h2⟩
  · simp [h1, h2]
  · simp [h1, h2]

theorem rests_of_state (h : c.state = .strike ∨ c.state = .coast ∨ c.state = .ready) : c.Rests := by
  unfold Channel.Rests Channel.running
  rcases h with h | h | h <;> rw [h] <;> exact ⟨rfl, nofun⟩

end Channel

/-- LOOP and TAIL as the boundary's clause counts them (R31). -/
theorem inputFaults_eq (c : Channel) (n : Field) (f : ProjFlags) (hfresh : ∀ x ∈ c.record, x.startField ≠ n) : c.inputFaults n f =
    (if f.loop = true ∧ (c.state = .runup ∨ c.state = .run) then [.loopLoss] else [])
      ++ (if f.tail = true ∧ (c.state = .runup ∨ c.state = .run ∨ c.state = .inch) then [.runout] else []) := by
  have hno : c.record.any (fun r => decide (r.startField = n)) = false := by
    rw [← Bool.not_eq_true, Option.any_eq_true]
    rintro ⟨x, hx, hn⟩
    exact hfresh x hx (of_decide_eq_true hn)
  unfold Channel.inputFaults Channel.running
  simp only [hno]
  simp [or_assoc]

/-- The lamp among the faults of a boundary (R24, R31). -/
theorem lampFail_mem_boundaryFaults (c : Channel) (n : Field) (f : ProjFlags) :
    ChanFault.lampFail ∈ c.boundaryFaults n f ↔ (c.state = .ready ∨ c.state = .runup ∨ c.state = .run) ∧ c.lampFails = 2 := by
  unfold Channel.boundaryFaults Channel.inputFaults Channel.countFaults Channel.running
  simp only [List.mem_append]
  constructor
  · rintro ((hm | hm) | (hm | hm)) <;> split at hm <;> simp_all
  · intro hc
    right
    left
    simp [hc]

theorem any_lampFail_iff (fs : List ChanFault) : fs.any (fun x => x = .lampFail) = true ↔ .lampFail ∈ fs := by
  simp [List.any_eq_true]

section Clauses
variable {z y : State} {n : Field} {inSync : Bool} (h : Begun z y n inSync) {o : BoundaryOrder} (ho : MovesBlocksAlone o) (p : Proj)
include h ho

/-- The faults of LOOP and TAIL at a boundary (R24, R31). -/
theorem channel_fault_clause (hl : z.cues.lists[p] = []) (hr : InNoRecord z p) (hfresh : ∀ x ∈ z.ch[p].record, x.startField ≠ n) :
    let c := z.ch[p]
    let pins := z.pins.proj[p]
    let t := y.react o
    let fails := if pins.lampok then 0 else min 2 (c.lampFails + 1)
    let loop : Prop := pins.loop = true ∧ (c.state = .runup ∨ c.state = .run)
    let tail : Prop := pins.tail = true ∧ (c.state = .runup ∨ c.state = .run ∨ c.state = .inch)
    loop ∨ tail →
      t.ch[p].state = .fault ∧ t.ch[p].motor = false ∧ t.ch[p].douse = false ∧ t.tr[p].motor = false ∧ t.tr[p].lock = .unlocked
      ∧ (loop → t.ch[p].cause = .loopLoss ∧ Latched t (.proj p .loopLoss))
      ∧ (¬loop → t.ch[p].cause = .runout)
      ∧ (tail → Latched t (.proj p .runout))
      ∧ (c.state = .runup ∨ c.state = .run → fails = 2 → t.ch[p].lamp = false ∧ Latched t (.proj p .lampFail))
      ∧ (c.state = .inch ∨ fails ≠ 2 → t.ch[p].lamp = c.lamp) := by
  intro c pins t fails loop tail hlt
  let d := c.count n pins.lampok
  let rest := d.countFaults (decide (d.lampFails = 2)) true
  have hinputs : d.inputFaults n (flagsOf pins) = (if loop then [.loopLoss] else []) ++ (if tail then [.runout] else []) :=
    inputFaults_eq d n (flagsOf pins) hfresh
  have hfaults : d.boundaryFaults n (flagsOf pins)
      = ((if loop then [.loopLoss] else []) ++ (if tail then [.runout] else [])) ++ rest := by
    rw [← hinputs]
    rfl
  have hne : d.inputFaults n (flagsOf pins) ≠ [] := by
    rw [hinputs]
    rcases hlt with hL | hT
    · rw [if_pos hL]
      exact nofun
    · rw [if_pos hT]
      exact List.append_ne_nil_of_right_ne_nil _ nofun
  obtain ⟨hch, hmotor, hlock, hlatched⟩ := react_faulted h ho (.inr ⟨hl, hr⟩) rfl rfl hne
  change t.ch[p] = _ at hch
  have hlamp := lampFail_mem_boundaryFaults d n (flagsOf pins)
  have hcause : t.ch[p].cause = (((d.boundaryFaults n (flagsOf pins)).head?).map ChanFault.cause).getD .none := by rw [hch]; rfl
  have hdlamp : t.ch[p].lamp = (c.lamp && !(d.boundaryFaults n (flagsOf pins)).any (fun x => x = .lampFail)) := by rw [hch]; rfl
  have hfails : c.state = .runup ∨ c.state = .run → d.lampFails = fails := fun hrun => watchLamp_of_watched c (.inr hrun)
  have hmem : ∀ f ∈ d.boundaryFaults n (flagsOf pins), Latched t (.proj p f.alarm) := hlatched
  refine ⟨by rw [hch]; rfl, by rw [hch]; rfl, by rw [hch]; rfl, hmotor, hlock, fun hL => ⟨?_, hmem .loopLoss ?_⟩, fun hL => ?_,
    fun hT => hmem .runout ?_, fun hrun h2 => ?_, fun hno => ?_⟩
  · rw [hcause, hfaults, if_pos hL]
    rfl
  · rw [hfaults, if_pos hL]
    exact List.mem_cons_self
  · rw [hcause, hfaults, if_neg hL, if_pos (hlt.resolve_left hL)]
    rfl
  · rw [hfaults, if_pos hT]
    simp
  · have hin : .lampFail ∈ d.boundaryFaults n (flagsOf pins) := hlamp.2 ⟨.inr hrun, (hfails hrun).trans h2⟩
    rw [hdlamp, (any_lampFail_iff _).2 hin]
    exact ⟨Bool.and_false _, hmem .lampFail hin⟩
  · have hout : .lampFail ∉ d.boundaryFaults n (flagsOf pins) := by
      rw [hlamp]
      rintro ⟨hst, h2⟩
      rcases hno with hi | hf
      · change c.state = _ ∨ c.state = _ ∨ c.state = _ at hst
        rw [hi] at hst
        rcases hst with hst | hst | hst <;> cases hst
      · rcases hst with hready | hrun
        · change c.state = _ at hready
          rcases hlt with ⟨-, hst⟩ | ⟨-, hst⟩ <;> rw [hready] at hst <;> simp at hst
        · exact hf ((hfails hrun).symm.trans h2)
    have hany : (d.boundaryFaults n (flagsOf pins)).any (fun x => x = .lampFail) = false := by
      rw [← Bool.not_eq_true, any_lampFail_iff]
      exact hout
    rw [hdlamp, hany]
    exact Bool.and_true _

/-- The channel clauses of a boundary (R20 to R31). -/
theorem boundaryChannels : BoundaryChannels z (y.react o) n := by
  intro p c pins still fails
  have hcounts := fun (hst : c.state = .strike ∨ c.state = .coast ∨ c.state = .ready) =>
    react_counts h ho (p := p) (.inl (rests_of_state c hst)) (inputFaults_eq_nil _ n (.inr (rests_of_state c hst)))
  refine ⟨fun hst => ?_, fun hst => ?_, fun hst => ?_, fun hst hu hr => ?_, fun hl hr hfresh => channel_fault_clause h ho p hl hr hfresh⟩
  · obtain ⟨hch, hdue⟩ := hcounts (.inl hst)
    have hwatch := watchLamp_of_unwatched c (lampok := pins.lampok) (by rw [hst]; simp)
    refine ⟨?_, ?_⟩
    · rw [hch (by rw [hst]; exact nofun)]
      show Channel.count c n pins.lampok = _
      unfold Channel.count
      rw [hwatch]
      rfl
    · rw [hdue _ rfl, strikeEnd_mem]
      show c.state = .strike ∧ _ ↔ _
      rw [and_iff_right hst]
      exact exists_tick_reached n c.strike
  · obtain ⟨hch, hdue⟩ := hcounts (.inr (.inl hst))
    refine ⟨by rw [hch (by rw [hst]; exact nofun)]; exact hst, ?_⟩
    rw [hdue _ rfl, coastEnd_mem]
    exact and_iff_right hst
  · obtain ⟨-, hdue⟩ := hcounts (.inr (.inr hst))
    rw [hdue _ rfl, lampFail_mem]
    show c.watchLamp pins.lampok = 2 ↔ _
    rw [watchLamp_of_watched c (.inl hst)]
  · obtain ⟨hl, hloop, htail⟩ := hu
    obtain ⟨hch, hdue⟩ := react_counts h ho (p := p) (.inr ⟨hl, hr⟩) (inputFaults_eq_nil _ n (.inl ⟨hloop, htail⟩))
    have hwatch := watchLamp_of_watched c (lampok := pins.lampok) (.inr hst)
    refine ⟨?_, ?_, ?_⟩
    · rw [hch (by rcases hst with hst | hst <;> rw [hst] <;> exact nofun)]
      show Channel.count c n pins.lampok = _
      unfold Channel.count
      rw [hwatch]
      rfl
    · rw [hdue _ rfl, lampFail_mem]
      show c.watchLamp pins.lampok = 2 ↔ _
      rw [hwatch]
    · rw [hdue _ rfl, runupTimeout_mem]
      show c.state = .runup ∧ _ ↔ _
      exact and_congr_right fun _ => exists_tick_reached n c.runup

end Clauses

end Sys2Proof.Machine
end

section
/-! The trackers at a boundary (R54 to R58, R63). -/

namespace Sys2Proof.Machine
open Sys2Proof.Claims

/-! ### A film beside the other reactions -/

/-- What the reactions but its tracker's leave of a film that LOOP and TAIL do not stop. -/
structure Beside (p : Proj) (s t : State) : Prop where
  kept : Kept s t
  tr : t.tr[p] = s.tr[p]
  det : t.det[p] = s.det[p]
  list : t.cues.lists[p] = s.cues.lists[p]
  ch : s.ch[p].Counts t.ch[p]

namespace Beside
variable {p : Proj} {s t u : State}

theorem refl (s : State) : Beside p s s := ⟨Kept.refl s, rfl, rfl, rfl, rfl⟩

theorem trans (h : Beside p s t) (k : Beside p t u) : Beside p s u where
  kept := h.kept.trans k.kept
  tr := k.tr.trans h.tr
  det := k.det.trans h.det
  list := k.list.trans h.list
  ch := by
    have h1 := h.ch
    have h2 := k.ch
    unfold Channel.Counts at *
    rw [h2, h1]

theorem state (h : Beside p s t) : t.ch[p].state = s.ch[p].state := by rw [h.ch]

end Beside

/-- LOOP and TAIL are not asserted on a projector at a boundary. -/
def Loose (p : Proj) (s : State) : Prop := s.alarm.flags[p].loop = false ∧ s.alarm.flags[p].tail = false

theorem Loose.of_kept {p : Proj} {s t : State} (h : Loose p s) (k : Kept s t) : Loose p t := by
  unfold Loose
  rw [k.flags]
  exact h

theorem Loose.inputFaults {p : Proj} {s : State} (h : Loose p s) : s.inputFaults p = [] := inputFaults_eq_nil _ _ (.inl h)

theorem block_beside (s : State) {x : Part} (hx : Part.isBlock x = true) {p : Proj} (hp : x ≠ .tracker p) (hl : Loose p s) :
    Beside p s (s.partReact x) := by
  by_cases hc : x = .channel p
  · subst hc
    obtain ⟨hh, htr, hdet⟩ := channelReact_hushed s p hl.inputFaults
    refine ⟨partReact_kept s _, congrArg (fun v : Vector Tracker 8 => v[p]) htr, congrArg (fun v : Vector Detector 8 => v[p]) hdet, ?_,
      hh.ch⟩
    show (s.channelReact p).cues.lists[p] = _
    rw [hh.eq]
  · obtain ⟨h1, h2, h3, h4⟩ := block_films s hx hp hc
    refine ⟨partReact_kept s x, h2, h3, h4, ?_⟩
    rw [h1]
    rfl

theorem armAttempt_beside (s : State) (a : Proj) {p : Proj} (hr : s.ch[p].state ≠ .ready)
    (hl : s.ch[p].state ≠ .run ∨ ∀ e ∈ s.cues.lists[p], e.kind.tag ≠ .change) : Beside p s (s.armAttempt a) := by
  by_cases hap : a = p
  · subst hap
    have hno : s.armAttempt a = s := hl.elim (armAttempt_of_not_run s a) (armAttempt_of_no_change s a)
    rw [hno]
    exact Beside.refl s
  · obtain ⟨h1, h2, h3, h4⟩ := (armAttempt_within s a).films p fun h => h.elim (fun h => hap h.symm) hr
    refine ⟨partReact_kept s (.arming a), h2, h3, h4, ?_⟩
    rw [h1]
    rfl

theorem takesReact_beside (s : State) (p : Proj) : Beside p s s.takesReact := by
  have hk : Kept s s.takesReact := partReact_kept s .take
  obtain ⟨slots, ds, heq, -⟩ := takesReact_eq s
  rw [heq] at hk ⊢
  exact ⟨hk, rfl, rfl, rfl, rfl⟩

/-- A film that LOOP and TAIL do not stop is found by its tracker as the boundary found it, and left as its tracker leaves it, unless an
arming attempt starts the projector or finds a CHANGE entry. -/
theorem react_around_tracker {o : BoundaryOrder} (ho : MovesBlocksAlone o) {p : Proj} {y : State} (hl : Loose p y) {Q : State → Prop}
    (hQ : ∀ s x, Part.isBlock x = true → x ≠ .tracker p → Beside p y s → Q s → Q (s.partReact x)) (hy : Q y) :
    ∃ s, Beside p y s ∧ Q s
      ∧ (∀ d : Due, d.part = some (.tracker p) → (d ∈ s.due ↔ d ∈ y.due) ∧ (d ∈ (y.react o).due ↔ d ∈ (s.trackerReact p).due))
      ∧ ((s.trackerReact p).ch[p].state ≠ .ready →
          ((s.trackerReact p).ch[p].state ≠ .run ∨ ∀ e ∈ (s.trackerReact p).cues.lists[p], e.kind.tag ≠ .change) →
          Beside p (s.trackerReact p) (y.react o)) := by
  let Found (s : State) : Prop := Beside p y s ∧ Q s ∧ ∀ d : Due, d.part = some (.tracker p) → (d ∈ s.due ↔ d ∈ y.due)
  have key : ∃ s, Found s ∧ (∀ d : Due, d.part = some (.tracker p) → (d ∈ (y.react o).due ↔ d ∈ (s.trackerReact p).due))
      ∧ ((s.trackerReact p).ch[p].state ≠ .ready →
          ((s.trackerReact p).ch[p].state ≠ .run ∨ ∀ e ∈ (s.trackerReact p).cues.lists[p], e.kind.tag ≠ .change) →
          Beside p (s.trackerReact p) (y.react o)) := by
    refine react_at ho (x := .tracker p) rfl (I := Found)
      (J := fun t => ∃ s, Found s ∧ (∀ d : Due, d.part = some (.tracker p) → (d ∈ t.due ↔ d ∈ (s.trackerReact p).due))
        ∧ Beside p (s.trackerReact p) t)
      (K := fun t => ∃ s, Found s ∧ (∀ d : Due, d.part = some (.tracker p) → (d ∈ t.due ↔ d ∈ (s.trackerReact p).due))
        ∧ ((s.trackerReact p).ch[p].state ≠ .ready →
          ((s.trackerReact p).ch[p].state ≠ .run ∨ ∀ e ∈ (s.trackerReact p).cues.lists[p], e.kind.tag ≠ .change) →
          Beside p (s.trackerReact p) t)) ?_ ?_ ?_ ?_ ?_ ?_ ⟨Beside.refl y, hy, fun _ _ => Iff.rfl⟩
    · rintro s x hx hp ⟨hb, hq, hd⟩
      exact ⟨hb.trans (block_beside s hx hp (hl.of_kept hb.kept)), hQ s x hx hp hb hq, fun d hdp =>
        (block_due_iff s hx (free_of_part hdp nofun) (by rw [hdp]; exact fun h => hp (Option.some.inj h).symm)).trans (hd d hdp)⟩
    · exact fun s hs => ⟨s, hs, fun _ _ => Iff.rfl, Beside.refl _⟩
    · rintro t x hx hp ⟨s, hs, hd, hb⟩
      have hloose : Loose p t := (hl.of_kept (hs.1.kept.trans (partReact_kept s (.tracker p)))).of_kept hb.kept
      exact ⟨s, hs, fun d hdp =>
        (block_due_iff t hx (free_of_part hdp nofun) (by rw [hdp]; exact fun h => hp (Option.some.inj h).symm)).trans (hd d hdp),
        hb.trans (block_beside t hx hp hloose)⟩
    · exact fun t ⟨s, hs, hd, hb⟩ => ⟨s, hs, hd, fun _ _ => hb⟩
    · rintro t a ⟨s, hs, hd, hb⟩
      refine ⟨s, hs, fun d hdp => (armAttempt_due_iff t a (free_of_part hdp nofun)).trans (hd d hdp), fun hr hc => ?_⟩
      have hbt := hb hr hc
      refine hbt.trans (armAttempt_beside t a (by rw [hbt.state]; exact hr) (hc.imp (fun h => by rw [hbt.state]; exact h) fun h => ?_))
      rw [hbt.list]
      exact h
    · rintro t ⟨s, hs, hd, hb⟩
      exact ⟨s, hs, fun d hdp => (takesReact_due_iff t fun h => by rw [h] at hdp; cases hdp).trans (hd d hdp), fun hr hc =>
        (hb hr hc).trans (takesReact_beside t p)⟩
  obtain ⟨s, ⟨hb, hq, hd⟩, hdue, hrest⟩ := key
  exact ⟨s, hb, hq, fun d hdp => ⟨hd d hdp, hdue d hdp⟩, hrest⟩

/-! ### The tracker's clauses -/

section Steps
variable (s : State) (p : Proj)

theorem slipsNow_iff : s.slipsNow p = true ↔ s.tr[p].lock = .locked ∧ ∃ w, s.tr[p].slipWait = some w ∧ w.boundary = s.field := by
  unfold State.slipsNow
  simp [Option.any_eq_true]

theorem slipCorrection_mem : .slipCorrection p ∈ s.trackerDues p ↔
    s.tr[p].lock = .locked ∧ ∃ w, s.tr[p].slipWait = some w ∧ w.boundary = s.field := by
  rw [← slipsNow_iff]
  unfold State.trackerDues
  simp

theorem lockDeclared_mem : .lockDeclared p ∈ s.trackerDues p ↔
    s.tr[p].lock = .search ∧ ∃ q, s.tr[p].pendingLock = some q ∧ q.declare = s.field := by
  unfold State.trackerDues State.locksNow
  simp [Option.any_eq_true]

/-- A tracker with nothing to reach misses the edge that it was to have (R58). -/
theorem missingEdge_mem (h : s.tr[p].Advances (s.tracked p).tr[p]) : .missingEdge p ∈ s.trackerDues p ↔
    ¬(s.tr[p].lock = .locked ∧ ∃ w, s.tr[p].slipWait = some w ∧ w.boundary = s.field)
      ∧ s.tr[p].lock = .locked ∧ ∃ d, s.tr[p].edgeDue = some d ∧ s.field = d + 2 := by
  have hmiss : (s.tracked p).tr[p].edgeMissing s.field = s.tr[p].edgeMissing s.field := by
    rw [h]
    rfl
  rw [← slipsNow_iff]
  unfold State.trackerDues
  simp only [hmiss, List.mem_append]
  unfold Tracker.edgeMissing
  simp [Option.any_eq_true]

end Steps

/-- The advance of a LOCKED tracker with nothing to reach, in its three cases (R47, R55, R63). -/
theorem trackerReact_of_empty (s : State) (p : Proj) (hl : s.cues.lists[p] = []) (hr : InNoRecord s p) {q : Pos}
    (hlock : s.tr[p].lock = .locked) (hpos : s.tr[p].pos = some q) (hslip : s.slipsNow p = false) :
    let x := s.tr[p]
    let q' := q.advance
    let w := s.trackerReact p
    (q'.f = q.f → w.tr[p] = { x with pos := some q' })
      ∧ (q'.f ≠ q.f → x.frame < 999999 → w.tr[p].pos = some q' ∧ w.tr[p].frame = q'.f
          ∧ (s.ch[p].sampling = true → s.det[p].history.length < 8 → s.det[p].history.length + 1 < s.det[p].sigLen →
              w.det[p].history = s.det[p].history ++ [s.det[p].latch] ∧ w.det[p].latch = s.pins.proj[p].cue))
      ∧ (q'.f ≠ q.f → 999999 ≤ x.frame → w.tr[p].pos = some { q' with f := q.f } ∧ w.tr[p].frame = x.frame
          ∧ Latched w (.proj p .counterLimit)) := by
  intro x q' w
  have hw : w = (s.tracked p).wait (s.trackerDues p) := trackerReact_eq s p
  have hcases := tracked_cases hslip hlock hpos
  have hown : ∀ f : Tracker → Tracker, ((s.ticked p).updTr p f).tr[p] = f x := fun f => getElem_set_same _ _ _
  rw [hw]
  refine ⟨fun hf => ?_, fun hf hx => ?_, fun hf hx => ?_⟩
  · rw [hcases, if_pos hf]
    exact hown (fun t => { t with pos := some q.advance })
  · rw [hcases, if_neg hf, if_pos (show s.tr[p].frame < Config.frameMax from hx), ahead_of_empty s p hl]
    obtain ⟨v, hv, heq, hdet⟩ := frameAdvanced_of_empty (s.stepped p q.advance) p hl
    have hno : v.tailoutOf p = v := tailoutOf_of_no_tailout v p (by
      rw [hv.eq]
      exact fun r rec hrec ha => absurd ha (hr r rec hrec).1)
    rw [heq, hno]
    have htr : v.tr[p] = { x with pos := some q', frame := q'.f, strayMarks := v.tr[p].strayMarks } := by
      rw [hv.tr, show (s.stepped p q.advance).tr[p] = _ from hown _]
    refine ⟨congrArg Tracker.pos htr, congrArg Tracker.frame htr, hdet⟩
  · rw [hcases, if_neg hf, if_neg (by exact not_lt.2 hx)]
    have hn := pass_notified ((s.ticked p).updTr p (fun t => { t with pos := some { q.advance with f := q.f } })) (.proj p .counterLimit)
    have htr := (congrArg (fun v : Vector Tracker 8 => v[p]) hn.tr).trans (hown _)
    have hframe := congrArg Tracker.frame htr
    exact ⟨congrArg Tracker.pos htr, hframe, pass_latches _ _⟩

section Clauses
variable {z y : State} {n : Field} {inSync : Bool} (h : Begun z y n inSync) {o : BoundaryOrder} (ho : MovesBlocksAlone o)
include h

theorem Begun.loose {p : Proj} (hloop : z.pins.proj[p].loop = false) (htail : z.pins.proj[p].tail = false) : Loose p y := by
  unfold Loose
  rw [h.flags p]
  exact ⟨hloop, htail⟩

include ho

/-- The tracker clauses of a boundary (R54 to R58, R63). -/
theorem boundaryTrackers : BoundaryTrackers z (y.react o) n := by
  rintro p ⟨hl, hloop, htail⟩ hr x slip
  obtain ⟨s, hb, hrs, hdues, hafter⟩ := react_around_tracker ho (h.loose hloop htail) (Q := fun s => InNoRecord s p)
    (fun s x hx _ _ hs => block_inNoRecord s hx hs) (by rw [InNoRecord, h.eng]; exact hr)
  have hls : s.cues.lists[p] = [] := hb.list.trans (by rw [h.cues]; exact hl)
  have htr : s.tr[p] = x := hb.tr.trans (congrArg (fun v : Vector Tracker 8 => v[p]) h.tr)
  have hdet : s.det[p] = z.det[p] := hb.det.trans (congrArg (fun v : Vector Detector 8 => v[p]) h.det)
  have hstate : s.ch[p].state = z.ch[p].state := hb.state.trans (congrArg (fun v : Vector Channel 8 => v[p].state) h.ch)
  have hfield : s.field = n := hb.kept.field.trans h.field
  have hpins : s.pins = z.pins := hb.kept.pins.trans h.pins
  have hno : ∀ (r : Rec) (rec : Record), s.eng.records[r] = some rec → rec.a = p → rec.state ≠ .tailout :=
    fun r rec hrec ha => absurd ha (hrs r rec hrec).1
  obtain ⟨hhush, -, hdue, hadv⟩ := tracked_hushed s p hls hno
  have hmem : ∀ d : Due, d.part = some (.tracker p) → (d ∈ (y.react o).due ↔ d ∈ s.trackerDues p) := by
    intro d hd
    rw [(hdues d hd).2, trackerReact_eq]
    show d ∈ (s.tracked p).due ++ _ ↔ _
    rw [hdue, List.mem_append, (hdues d hd).1]
    exact or_iff_right (h.not_mem_due hd)
  refine ⟨?_, ?_, ?_, fun q hlock hpos hslip hready => ?_⟩
  · rw [hmem _ rfl, slipCorrection_mem, htr, hfield]
  · rw [hmem _ rfl, lockDeclared_mem, htr, hfield]
  · rw [hmem _ rfl, missingEdge_mem s p hadv, htr, hfield]
  · have hslip' : s.slipsNow p = false := by
      rw [← Bool.not_eq_true, slipsNow_iff, htr, hfield]
      exact hslip
    have hch : (s.trackerReact p).ch[p].state = z.ch[p].state :=
      (congrArg (fun v : Vector Channel 8 => v[p].state) (trackerReact_hushed s p hls hno).2).trans hstate
    have hlist : (s.trackerReact p).cues.lists[p] = [] := block_list_nil s (x := .tracker p) rfl hls
    have hbeside := hafter (by rw [hch]; exact hready) (.inr (by rw [hlist]; exact nofun))
    have hspec := trackerReact_of_empty s p hls hrs (by rw [htr]; exact hlock) (by rw [htr]; exact hpos) hslip'
    have hsamp : s.ch[p].sampling = z.ch[p].sampling := by unfold Channel.sampling; rw [hstate]
    rw [htr, hdet, hpins, hsamp] at hspec
    obtain ⟨h1, h2, h3⟩ := hspec
    rw [hbeside.tr, hbeside.det]
    exact ⟨h1, h2, fun hf hx => ⟨(h3 hf hx).1, (h3 hf hx).2.1, hbeside.kept.latched _ (h3 hf hx).2.2⟩⟩

end Clauses

end Sys2Proof.Machine
end

section
/-! The take port and the records at a boundary (R92 to R97, R129, R137, R146, R152, R154). -/

namespace Sys2Proof.Machine
open Sys2Proof.Claims

/-! ### Steps that no block has wait -/

section Steps
variable {o : BoundaryOrder} (ho : MovesBlocksAlone o) (y : State)
include ho

/-- A step of no block comes to wait at no reaction, but for an arbitration (R92). -/
theorem react_waits {d : Due} (hp : d.part = none) (hd : d ≠ .takeGrant) (h : d ∈ (y.react o).due) : d ∈ y.due := by
  refine react_inv ho (I := fun s => d ∈ s.due → d ∈ y.due) (fun s x hx hs hm => hs ?_) (fun s a hs hm => hs ?_) (fun s hs hm => hs ?_) id h
  · exact (block_waits s hx hm).resolve_right (by rw [hp]; exact nofun)
  · exact ((armAttempt_steady (S := .arming s a) s ⟨⟨.inl rfl, rfl⟩, fun _ hb => .inr hb, trivial⟩).waits not_false).1 d hm
  · exact (takesReact_due_iff s hd).1 hm

/-- A step of the take port that waits as the field begins waits to the end (R93, R97). -/
theorem react_due_iff {d : Due} (hf : d.Free) (hp : d.part = none) (hd : d ≠ .takeGrant) : d ∈ (y.react o).due ↔ d ∈ y.due := by
  refine ⟨react_waits ho y hp hd, fun h => ?_⟩
  exact react_inv ho (I := fun s => d ∈ s.due) (fun s x hx hs => block_keeps s hx hf hs)
    (fun s a hs => (armAttempt_due_iff s a hf).2 hs) (fun s hs => (takesReact_due_iff s hd).2 hs) h

end Steps

/-! ### A record that nothing disturbs -/

/-- A record stands, with the steps of its own that wait. -/
structure RecStands (r : Rec) (rec : Record) (ds : List Due) (s : State) : Prop where
  entry : s.eng.records[r] = some rec
  dues : ∀ d ∈ ds, d.ofRec r = true → d ∈ s.due

theorem RecStands.within {S : Scope} {P : Isl → Prop} {r : Rec} {rec : Record} {ds : List Due} {s t : State} (h : RecStands r rec ds s)
    (k : Within S P s t) (hS : ¬S.Takes rec) : RecStands r rec ds t := by
  obtain ⟨h1, -, h2⟩ := k.records r rec h.entry hS
  exact ⟨h1, fun d hd ho => h2 d (h.dues d hd ho) ho⟩

theorem RecStands.hushed {p : Proj} {r : Rec} {rec : Record} {ds : List Due} {s t : State} (h : RecStands r rec ds s)
    (k : Hushed p s t) : RecStands r rec ds t := by
  obtain ⟨new, hnew, -⟩ := k.dues
  refine ⟨?_, fun d hd ho => ?_⟩
  · rw [k.eq]
    exact h.entry
  · rw [hnew]
    exact List.mem_append_left _ (h.dues d hd ho)

/-- A projector of a record belongs to it. -/
theorem inRecord_of_mem {s : State} {r : Rec} {rec : Record} (h : s.eng.records[r] = some rec) {p : Proj} (hp : rec.a = p ∨ rec.b = p) :
    s.inRecord p = true := by
  have hfind : ∀ f : Record → Bool, f rec = true → (s.findRec f).isSome = true := by
    intro f hf
    unfold State.findRec
    rw [List.find?_isSome]
    exact ⟨r, mem_allRec r, by rw [h]; exact hf⟩
  unfold State.inRecord
  rw [Bool.or_eq_true]
  exact hp.imp (fun hp => hfind _ (decide_eq_true hp)) fun hp => hfind _ (decide_eq_true hp)

/-- An arming attempt touches no record that there is (R129, R131). -/
theorem RecStands.arming {r : Rec} {rec : Record} {ds : List Due} {s : State} (h : RecStands r rec ds s) (a : Proj) :
    RecStands r rec ds (s.armAttempt a) := by
  by_cases ha : rec.a = a ∨ rec.b = a
  · rw [armAttempt_of_inRecord s a (inRecord_of_mem h.entry ha)]
    exact h
  · exact h.within (armAttempt_within s a) ha

theorem RecStands.takes {r : Rec} {rec : Record} {ds : List Due} {s : State} (h : RecStands r rec ds s) :
    RecStands r rec ds s.takesReact := by
  obtain ⟨slots, new, heq, -⟩ := takesReact_eq s
  rw [heq]
  exact ⟨h.entry, fun d hd ho => List.mem_append_left _ (h.dues d hd ho)⟩

/-! ### Records that share no projector -/

theorem recordsDisjoint_within {S : Scope} {P : Isl → Prop} {s t : State} (h : RecordsDisjoint s) (k : Within S P s t) (hS : ¬S.arms) :
    RecordsDisjoint t := by
  intro r x rec rec' hr hx
  obtain ⟨old, hold, hrec⟩ := (k.olds hS).2.1 r rec hr
  obtain ⟨old', hold', hrec'⟩ := (k.olds hS).2.1 x rec' hx
  rw [hrec, hrec']
  exact h r x old old' hold hold'

/-- A block within the frame of blocks: it makes no record and no claim. -/
theorem block_any (s : State) {x : Part} (hx : Part.isBlock x = true) : ∃ S P, Within S P s (s.partReact x) ∧ ¬S.arms := by
  by_cases hi : x = .islands
  · subst hi
    exact ⟨_, _, islandsReact_within (R := fun _ => True) s fun _ _ _ _ _ _ _ => .inl trivial, not_false⟩
  · obtain ⟨p, -, hw⟩ := block_within s hx hi
    exact ⟨_, _, hw, not_false⟩

theorem block_recordsDisjoint (s : State) {x : Part} (hx : Part.isBlock x = true) (h : RecordsDisjoint s) :
    RecordsDisjoint (s.partReact x) := by
  obtain ⟨S, P, hw, hS⟩ := block_any s hx
  exact recordsDisjoint_within h hw hS

/-- The one record of two that share a projector. -/
theorem RecordsDisjoint.eq_of_shared {s : State} (h : RecordsDisjoint s) {r x : Rec} {rec rec' : Record}
    (hr : s.eng.records[r] = some rec) (hx : s.eng.records[x] = some rec') {p : Proj} (hp : rec.a = p ∨ rec.b = p)
    (hp' : rec'.a = p ∨ rec'.b = p) : r = x ∧ rec = rec' := by
  have hrx : r = x := by
    by_contra hne
    obtain ⟨-, hd⟩ := h r x rec rec' hr hx
    obtain ⟨h1, h2, h3, h4⟩ := hd hne
    rcases hp with rfl | rfl <;> rcases hp' with hp' | hp'
    · exact h1 hp'.symm
    · exact h2 hp'.symm
    · exact h3 hp'.symm
    · exact h4 hp'.symm
  subst hrx
  rw [hr] at hx
  exact ⟨rfl, Option.some.inj hx⟩

/-- A record before TAILOUT whose projectors nothing disturbs. -/
structure RecordHeld (r : Rec) (rec : Record) (ds : List Due) (s : State) : Prop where
  stands : RecStands r rec ds s
  disjoint : RecordsDisjoint s
  lists : ∀ p : Proj, rec.a = p ∨ rec.b = p → s.cues.lists[p] = []
  loose : ∀ p : Proj, rec.a = p ∨ rec.b = p → Loose p s
  live : rec.state ≠ .tailout

/-- No drift reaches the claims of a record. -/
def NoDriftOf (r : Rec) (s : State) : Prop :=
  ∀ i : Isl, s.isl[i].claim = some r → s.isl[i].drifting s.pins.isl[i].mpos = false

/-- A mirror that does not drift does not begin to while other blocks react. -/
theorem drifting_within {S : Scope} {s t : State} (h : Within S noIsl s t) {i : Isl}
    (hd : s.isl[i].drifting s.pins.isl[i].mpos = false) : t.isl[i].drifting t.pins.isl[i].mpos = false := by
  cases hp : t.isl[i].pending with
  | some cmd =>
    unfold Island.drifting
    rw [hp]
    rfl
  | none =>
    obtain ⟨hs, hc⟩ := h.idle i not_false hp
    have heq : t.isl[i].drifting s.pins.isl[i].mpos = s.isl[i].drifting s.pins.isl[i].mpos := by
      rw [h.isl i not_false, hp, hc, ← hs]
      rfl
    rw [h.pins, heq, hd]

theorem NoDriftOf.step {r : Rec} {s : State} (h : NoDriftOf r s) {x : Part} (hx : Part.isBlock x = true) (hi : x ≠ .islands) :
    NoDriftOf r (s.partReact x) := by
  obtain ⟨p, -, hw⟩ := block_within s hx hi
  exact fun i hc => drifting_within hw (h i ((hw.olds not_false).1 i r hc))

theorem RecordHeld.step {r : Rec} {rec : Record} {ds : List Due} {s : State} (h : RecordHeld r rec ds s) {x : Part}
    (hx : Part.isBlock x = true) (hi : x = .islands → NoDriftOf r s) : RecordHeld r rec ds (s.partReact x) := by
  refine ⟨?_, block_recordsDisjoint s hx h.disjoint, fun p hp => block_list_nil s hx (h.lists p hp),
    fun p hp => (h.loose p hp).of_kept (partReact_kept s x), h.live⟩
  cases x with
  | tracker p =>
    by_cases hp : rec.a = p ∨ rec.b = p
    · refine h.stands.hushed (trackerReact_hushed s p (h.lists p hp) fun r' rec' hrec' ha => ?_).1
      obtain ⟨-, rfl⟩ := h.disjoint.eq_of_shared h.stands.entry hrec' hp (.inl ha)
      exact h.live
    · exact h.stands.within (trackerReact_within s p) hp
  | channel p =>
    by_cases hp : rec.a = p ∨ rec.b = p
    · exact h.stands.hushed (channelReact_hushed s p (h.loose p hp).inputFaults).1
    · exact h.stands.within (channelReact_within s p) hp
  | islands =>
    refine h.stands.within (islandsReact_within (R := fun q => q ≠ rec.a ∧ q ≠ rec.b) s fun i hd r' rec' hc hrec' _ => .inl ?_) ?_
    · have hr : r ≠ r' := fun hr => by
        rw [← hr] at hc
        rw [hi rfl i hc] at hd
        cases hd
      constructor
      · exact fun ha => hr (h.disjoint.eq_of_shared h.stands.entry hrec' (.inl rfl) (.inl ha)).1
      · exact fun ha => hr (h.disjoint.eq_of_shared h.stands.entry hrec' (.inr rfl) (.inl ha)).1
    · rintro (h | h)
      · exact h.1 rfl
      · exact h.2 rfl
  | _ => cases hx

/-- A record that nothing disturbs stands to the end of the boundary with its steps waiting. -/
theorem react_recStands {o : BoundaryOrder} (ho : MovesBlocksAlone o) {r : Rec} {rec : Record} {ds : List Due} {y : State}
    (hy : RecordHeld r rec ds y) (hd : NoDriftOf r y) : RecStands r rec ds (y.react o) :=
  react_at ho (x := .islands) rfl (I := fun s => RecordHeld r rec ds s ∧ NoDriftOf r s) (J := RecordHeld r rec ds) (K := RecStands r rec ds)
    (fun _ _ hx hi hs => ⟨hs.1.step hx fun h => absurd h hi, hs.2.step hx hi⟩) (fun _ hs => hs.1.step rfl fun _ => hs.2)
    (fun _ _ hx hi hs => hs.step hx fun h => absurd h hi) (fun _ hs => hs.stands) (fun _ a hs => hs.arming a) (fun _ hs => hs.takes)
    ⟨hy, hd⟩

/-! ### A boundary at which nothing is disturbed -/

/-- What a boundary that nothing disturbs makes of the blocks but the requests, the takes made, the records and the lists: the films, the
readings, the window, the latches, the queue and the steps that wait. -/
structure Unstirred (s t : State) : Prop where
  eq : t = { s with
    ch := t.ch, tr := t.tr, det := t.det, isl := t.isl, alarm := t.alarm, due := t.due, unmoved := t.unmoved
    take := { s.take with window := t.take.window }
    line := { s.line with queue := t.line.queue, discarded := t.line.discarded } }

namespace Unstirred
variable {s t u : State}

theorem refl (s : State) : Unstirred s s := ⟨rfl⟩

theorem trans (h : Unstirred s t) (k : Unstirred t u) : Unstirred s u := ⟨by rw [k.eq, h.eq]⟩

theorem take (h : Unstirred s t) : t.take = { s.take with window := t.take.window } := by rw [h.eq]
theorem eng (h : Unstirred s t) : t.eng = s.eng := by rw [h.eq]
theorem cues (h : Unstirred s t) : t.cues = s.cues := by rw [h.eq]
theorem pins (h : Unstirred s t) : t.pins = s.pins := by rw [h.eq]

end Unstirred

theorem Hushed.unstirred {p : Proj} {s t : State} (h : Hushed p s t) : Unstirred s t := ⟨by rw [h.eq]⟩

theorem Notified.unstirred {s t : State} (h : Notified s t) : Unstirred s t := ⟨by rw [h.eq]⟩

theorem observeWindow_unstirred (s : State) : Unstirred s s.observeWindow := ⟨rfl⟩

/-- An island's reaction without a drift leaves the other islands, the requests and the records. -/
theorem islandStep_of_no_drift (s : State) (i : Isl) (h : s.isl[i].drifting s.pins.isl[i].mpos = false) :
    Unstirred s (s.islandStep i) ∧ ∀ j : Isl, j ≠ i → (s.islandStep i).isl[j] = s.isl[j] := by
  have hread : s.mirrorRead i = s.updIsl i (fun u => u.read s.pins.isl[i].mpos) := by
    unfold State.mirrorRead
    rw [h]
    rfl
  obtain ⟨w, hw, hisl, hn⟩ : ∃ w : State, Unstirred s w ∧ (∀ j : Isl, j ≠ i → w.isl[j] = s.isl[j]) ∧ Notified w (s.islandStep i) := by
    unfold State.islandStep
    rw [readMirror_eq, hread, readTally_eq]
    exact ⟨_, ⟨rfl⟩, fun j hj => (getElem_set_other _ _ hj).trans (getElem_set_other _ _ hj), passIf_notified _ _ _⟩
  exact ⟨hw.trans hn.unstirred, fun j hj => by rw [hn.isl, hisl j hj]⟩

/-- The islands' reaction without a drift leaves the requests, the takes and the records. -/
theorem islandsReact_of_no_drift (s : State) (h : ∀ i : Isl, s.isl[i].drifting s.pins.isl[i].mpos = false) :
    Unstirred s (s.partReact .islands) := by
  have hread : Unstirred s s.islandsRead := (foldl_along (f := State.islandStep) (l := allIsl) (done := []) (s := s)
    (I := fun done w => Unstirred s w ∧ ∀ i ∉ done, w.isl[i] = s.isl[i]) (fun done w i hi hw => ?_) (by decide)
    ⟨Unstirred.refl s, fun _ _ => rfl⟩).1
  · rw [partReact_islands]
    exact hread.trans (observeWindow_unstirred _)
  · obtain ⟨hun, hrest⟩ := hw
    obtain ⟨h1, h2⟩ := islandStep_of_no_drift w i (by
      rw [hrest i hi, hun.pins]
      exact h i)
    refine ⟨hun.trans h1, fun j hj => ?_⟩
    simp only [List.mem_append, List.mem_singleton, not_or] at hj
    rw [h2 j hj.2, hrest j hj.1]

/-- A request that is due counts a deferral when nothing is granted (R94). -/
def ChangeReq.deferred (q : ChangeReq) (n : Field) : ChangeReq :=
  if requestDue q.posted q.due n then { q with deferrals := satInc 255 q.deferrals } else q

/-- Each due changeover request counts a deferral where no request is granted (R94). -/
theorem countDeferrals_none_slots (s : State) (r : Rec) :
    (s.countDeferrals none).take.slots[r] = s.take.slots[r].map (fun q => q.deferred s.field) := by
  let f : State → Rec → State := fun s r =>
    if s.slotDue r && decide ((none : Option Origin) ≠ some (.record r)) then
      s.updTake (fun t =>
        { t with slots := t.slots.set r (t.slots[r].map (fun q => { q with deferrals := satInc 255 q.deferrals })) })
    else s
  have hf : ∀ (w : State) (x : Rec), (f w x).field = w.field ∧ (x ≠ r → (f w x).take.slots[r] = w.take.slots[r]) := by
    intro w x
    unfold f
    split
    · exact ⟨rfl, fun hx => getElem_set_other _ _ (Ne.symm hx)⟩
    · exact ⟨rfl, fun _ => rfl⟩
  refine foldl_at (f := f) (l := allRec) (x := r) (I := fun w => w.field = s.field ∧ w.take.slots[r] = s.take.slots[r])
    (J := fun w => w.take.slots[r] = s.take.slots[r].map (fun q => q.deferred s.field)) (by decide) (mem_allRec r)
    (fun w x _ hx hw => ⟨(hf w x).1.trans hw.1, ((hf w x).2 hx).trans hw.2⟩) (fun w hw => ?_)
    (fun w x _ hx hw => ((hf w x).2 hx).trans hw) ⟨rfl, rfl⟩
  obtain ⟨hn, hs⟩ := hw
  rw [← hs, ← hn]
  unfold f State.slotDue
  cases hq : w.take.slots[r] with
  | none =>
    rw [if_neg (by simp)]
    exact hq
  | some q =>
    by_cases hd : requestDue q.posted q.due w.field = true
    · rw [if_pos (by simpa using hd)]
      show (w.take.slots.set r _)[r] = _
      rw [getElem_set_same, hq]
      exact congrArg some (if_pos hd).symm
    · rw [if_neg (by simpa using hd), hq]
      exact congrArg some (if_neg hd).symm

/-! ### The step of a record's state (R137, R146, R152, R154) -/

theorem ofRec_inj {d : Due} {r x : Rec} (hr : d.ofRec r = true) (hx : d.ofRec x = true) : r = x := by
  cases d <;> simp_all [Due.ofRec]

section Dues
variable {r : Rec} {rec : Record}

theorem changeoverStart_mem : .changeoverStart r ∈ dueOfRecord r rec ↔ rec.state = .armed := by
  unfold dueOfRecord
  cases rec.state <;> cases rec.method <;> simp

theorem lockDecision_mem : .lockDecision r ∈ dueOfRecord r rec ↔ rec.state = .starting := by
  unfold dueOfRecord
  cases rec.state <;> cases rec.method <;> simp

theorem switchCut_mem : .switchCut r ∈ dueOfRecord r rec ↔ rec.state = .locked ∧ rec.method = .switch := by
  unfold dueOfRecord
  cases rec.state <;> cases rec.method <;> simp

theorem mirrorCut_mem : .mirrorCut r ∈ dueOfRecord r rec ↔ rec.state = .locked ∧ rec.method = .mirror := by
  unfold dueOfRecord
  cases rec.state <;> cases rec.method <;> simp

end Dues

section Clauses
variable {z y : State} {n : Field} {inSync : Bool} (h : Begun z y n inSync) {o : BoundaryOrder} (ho : MovesBlocksAlone o)
include h

/-- The mirrors as the reactions find them drift as the boundary says (R85). -/
theorem Begun.drifting_iff (i : Isl) : y.isl[i].drifting y.pins.isl[i].mpos = true ↔ Drifts z i := by
  rw [← drifting_iff_drifts, h.pins, h.isl i]
  rfl

theorem Begun.not_drifting {i : Isl} (hd : ¬Drifts z i) : y.isl[i].drifting y.pins.isl[i].mpos = false := by
  rw [← Bool.not_eq_true, h.drifting_iff]
  exact hd

/-- A record's step that waits as the reactions begin is the step of its state. -/
theorem Begun.dueOfRecord {r : Rec} {d : Due} (hd : d.ofRec r = true) (hm : d ∈ y.due) :
    ∃ rec, z.eng.records[r] = some rec ∧ d ∈ Machine.dueOfRecord r rec := by
  rw [h.due, mem_beginDues] at hm
  rcases hm with ⟨x, rec, hrec, hmem⟩ | ⟨rfl, -⟩ | ⟨rfl, -⟩
  · obtain rfl := ofRec_inj (ofRec_of_mem_dueOfRecord hmem) hd
    exact ⟨rec, hrec, hmem⟩
  · cases hd
  · cases hd

/-- No arbitration waits as the reactions begin. -/
theorem Begun.not_mem_takeGrant : .takeGrant ∉ y.due := by
  rw [h.due, mem_beginDues]
  rintro (⟨r, rec, -, hm⟩ | ⟨hm, -⟩ | ⟨hm, -⟩)
  · exact absurd (ofRec_of_mem_dueOfRecord hm) nofun
  · cases hm
  · cases hm

include ho

/-- A boundary that nothing disturbs leaves the requests and the records to the take port's part (R92, R94). -/
theorem react_unstirred (hu : ∀ p : Proj, Undisturbed z p) (hd : ∀ i : Isl, ¬Drifts z i)
    (ht : ∀ (r : Rec) (rec : Record), z.eng.records[r] = some rec → rec.state ≠ .tailout) :
    ∃ w : State, y.react o = w.takesReact ∧ Unstirred y w ∧ Kept y w ∧ .takeGrant ∉ w.due := by
  obtain ⟨l, hnodup, hmem, hl⟩ := react_eq_blocks ho
  have hlists : ∀ s, Unstirred y s → ∀ p : Proj, s.cues.lists[p] = [] := fun s hs p => by
    rw [hs.cues, h.cues]
    exact (hu p).1
  have hrecs : ∀ s, Unstirred y s → ∀ (r : Rec) (rec : Record), s.eng.records[r] = some rec → rec.state ≠ .tailout := fun s hs => by
    rw [hs.eng, h.eng]
    exact ht
  have hfilm : ∀ s x, Part.isBlock x = true → x ≠ .islands → Unstirred y s → Kept y s → Unstirred s (s.partReact x) := by
    intro s x hx hi hs hk
    cases x with
    | tracker p => exact (trackerReact_hushed s p (hlists s hs p) fun r rec hr _ => hrecs s hs r rec hr).1.unstirred
    | channel p =>
      exact (channelReact_hushed s p ((h.loose (hu p).2.1 (hu p).2.2).of_kept hk).inputFaults).1.unstirred
    | islands => exact absurd rfl hi
    | _ => cases hx
  have hblocks : Unstirred y (l.foldl State.partReact y) ∧ Kept y (l.foldl State.partReact y) := by
    refine foldl_at (x := .islands)
      (I := fun s => (Unstirred y s ∧ Kept y s) ∧ ∀ i : Isl, s.isl[i].drifting s.pins.isl[i].mpos = false)
      (J := fun s => Unstirred y s ∧ Kept y s) hnodup ((hmem _).2 rfl) (fun s x hx hi hs => ?_) (fun s hs => ?_)
      (fun s x hx hi hs => ⟨hs.1.trans (hfilm s x ((hmem x).1 hx) hi hs.1 hs.2), hs.2.trans (partReact_kept s x)⟩)
      ⟨⟨Unstirred.refl y, Kept.refl y⟩, fun i => h.not_drifting (hd i)⟩
    · obtain ⟨⟨hs, hk⟩, hdrift⟩ := hs
      obtain ⟨p, -, hw⟩ := block_within s ((hmem x).1 hx) hi
      exact ⟨⟨hs.trans (hfilm s x ((hmem x).1 hx) hi hs hk), hk.trans (partReact_kept s x)⟩, fun i => drifting_within hw (hdrift i)⟩
    · obtain ⟨⟨hs, hk⟩, hdrift⟩ := hs
      exact ⟨hs.trans (islandsReact_of_no_drift s hdrift), hk.trans (partReact_kept s .islands)⟩
  have hgrant : .takeGrant ∉ (l.foldl State.partReact y).due := by
    refine foldl_inv (I := fun s : State => .takeGrant ∉ s.due) (fun s x hx hs hm => ?_) h.not_mem_takeGrant
    exact (block_waits s ((hmem x).1 hx) hm).elim hs nofun
  have harmed : (l.foldl State.partReact y).armed = l.foldl State.partReact y := by
    refine foldl_inv (I := fun s => s = l.foldl State.partReact y) (fun s a _ hs => ?_) rfl
    subst hs
    exact armAttempt_of_no_change _ a (by rw [hlists _ hblocks.1 a]; exact nofun)
  refine ⟨_, hl y, ?_⟩
  rw [harmed]
  exact ⟨hblocks.1, hblocks.2, hgrant⟩

/-- A record's step that waits after the boundary is the step of the state that its record was found in (R137, R146, R152, R154). -/
theorem react_dueOfRecord {r : Rec} {d : Due} (hd : d.ofRec r = true) (hm : d ∈ (y.react o).due) :
    ∃ rec, z.eng.records[r] = some rec ∧ d ∈ Machine.dueOfRecord r rec := by
  have hg : d ≠ .takeGrant := fun hg => by
    rw [hg] at hd
    cases hd
  exact h.dueOfRecord hd (react_waits ho y (part_of_ofRec hd) hg hm)

/-- The step of an undisturbed record's state waits to the end (R137, R146, R152, R154). -/
theorem react_mem_dueOfRecord {r : Rec} {rec : Record} {d : Due} (hrec : z.eng.records[r] = some rec) (hdis : RecordsDisjoint z)
    (hun : Undisturbed.Record z r rec) (hd : d ∈ Machine.dueOfRecord r rec) : d ∈ (y.react o).due := by
  obtain ⟨ha, hb, hdrift⟩ := hun
  have hfilm : ∀ p : Proj, rec.a = p ∨ rec.b = p → Undisturbed z p := by
    rintro p (rfl | rfl)
    · exact ha
    · exact hb
  have hlive : rec.state ≠ .tailout := fun ht => by
    unfold Machine.dueOfRecord at hd
    rw [ht] at hd
    cases hd
  have hdue : d ∈ y.due := by
    rw [h.due, mem_beginDues]
    exact .inl ⟨r, rec, hrec, hd⟩
  have hheld : RecordHeld r rec [d] y := by
    refine ⟨⟨by rw [h.eng]; exact hrec, fun x hx _ => List.mem_singleton.1 hx ▸ hdue⟩, ?_, fun p hp => ?_, fun p hp => ?_, hlive⟩
    · unfold RecordsDisjoint
      rw [h.eng]
      exact hdis
    · rw [h.cues]
      exact (hfilm p hp).1
    · exact h.loose (hfilm p hp).2.1 (hfilm p hp).2.2
  refine (react_recStands ho hheld fun i hc => h.not_drifting (hdrift i ?_)).dues d (List.mem_singleton_self d) (ofRec_of_mem_dueOfRecord hd)
  rw [h.isl i] at hc
  exact hc

/-- The requests and the arbitration of a boundary that nothing disturbs (R92, R94). -/
theorem react_requests (hu : ∀ p : Proj, Undisturbed z p) (hd : ∀ i : Isl, ¬Drifts z i)
    (ht : ∀ (r : Rec) (rec : Record), z.eng.records[r] = some rec → rec.state ≠ .tailout) :
    (.takeGrant ∈ (y.react o).due ↔ Eligible z n inSync)
      ∧ (Eligible z n inSync → (y.react o).take = { z.take with window := (y.react o).take.window })
      ∧ (¬Eligible z n inSync → ∀ r : Rec, (y.react o).take.slots[r] = z.take.slots[r].map (fun q => q.deferred n)) := by
  obtain ⟨w, hw, hun, hk, hwait⟩ := react_unstirred h ho hu hd ht
  have htake : w.take = { z.take with window := w.take.window } := by
    rw [hun.take, h.take]
  have hslots : w.take.slots = z.take.slots := by rw [htake]
  have hfield : w.field = n := hk.field.trans h.field
  have hmade : w.tb.madeInSync = inSync := (congrArg Timebase.madeInSync hk.tb).trans h.made
  have helig : w.winner.isSome = true ↔ Eligible z n inSync := by
    rw [winner_isSome_iff, hfield, hmade]
    refine Eligible.congr ?_ n inSync
    rw [htake]
  rw [hw]
  unfold State.takesReact
  by_cases he : w.winner.isSome = true
  · rw [if_pos he]
    exact ⟨iff_of_true (List.mem_append_right _ (List.mem_singleton_self _)) (helig.1 he), fun _ => htake, fun hn => absurd (helig.1 he) hn⟩
  · rw [if_neg he]
    have hne : ¬Eligible z n inSync := fun hh => he (helig.2 hh)
    refine ⟨iff_of_false (fun hm => ?_) hne, fun hh => absurd hh hne, fun _ r => ?_⟩
    · exact hwait (((countDeferrals_steady (S := .calm) w none calm_open).calm not_false).2 hm)
    · rw [countDeferrals_none_slots, hslots, hfield]

/-- The take clauses of a boundary (R92 to R97, R129, R137, R146, R152, R154). -/
theorem boundaryTakes : BoundaryTakes z (y.react o) n inSync := by
  have hown : ∀ {r : Rec} {d : Due}, d.ofRec r = true → d ∈ (y.react o).due → ∃ rec, z.eng.records[r] = some rec ∧ d ∈ Machine.dueOfRecord r rec :=
    react_dueOfRecord h ho
  refine ⟨?_, ?_, fun r => ⟨fun hm => ?_, fun hm => ?_, fun hm => ?_, fun hm => ?_, fun rec hrec hdis hun => ?_⟩, fun hu hd ht => ?_⟩
  · rw [react_due_iff ho y (d := .strobeDrop) ⟨rfl, fun _ => rfl⟩ rfl nofun, h.due, mem_beginDues]
    refine ⟨?_, fun hs => .inr (.inr ⟨rfl, hs⟩)⟩
    rintro (⟨r, rec, -, hm⟩ | ⟨hm, -⟩ | ⟨-, hs⟩)
    · exact absurd (ofRec_of_mem_dueOfRecord hm) nofun
    · cases hm
    · exact hs
  · rw [react_due_iff ho y (d := .windowJudged) ⟨rfl, fun _ => rfl⟩ rfl nofun, h.due, mem_beginDues]
    refine ⟨?_, fun hs => .inr (.inl ⟨rfl, hs⟩)⟩
    rintro (⟨r, rec, -, hm⟩ | ⟨-, hs⟩ | ⟨hm, -⟩)
    · exact absurd (ofRec_of_mem_dueOfRecord hm) nofun
    · exact hs
    · cases hm
  · obtain ⟨rec, hrec, hd⟩ := hown (d := .changeoverStart r) (decide_eq_true rfl) hm
    exact ⟨rec, hrec, changeoverStart_mem.1 hd⟩
  · obtain ⟨rec, hrec, hd⟩ := hown (d := .lockDecision r) (decide_eq_true rfl) hm
    exact ⟨rec, hrec, lockDecision_mem.1 hd⟩
  · obtain ⟨rec, hrec, hd⟩ := hown (d := .switchCut r) (decide_eq_true rfl) hm
    exact ⟨rec, hrec, switchCut_mem.1 hd⟩
  · obtain ⟨rec, hrec, hd⟩ := hown (d := .mirrorCut r) (decide_eq_true rfl) hm
    exact ⟨rec, hrec, mirrorCut_mem.1 hd⟩
  · have hdue : ∀ d, d ∈ Machine.dueOfRecord r rec → d ∈ (y.react o).due := fun d => react_mem_dueOfRecord h ho hrec hdis hun
    exact ⟨fun hs => hdue _ (changeoverStart_mem.2 hs), fun hs => hdue _ (lockDecision_mem.2 hs),
      fun hs hm => hdue _ (switchCut_mem.2 ⟨hs, hm⟩), fun hs hm => hdue _ (mirrorCut_mem.2 ⟨hs, hm⟩)⟩
  · obtain ⟨hgrant, htake, hslots⟩ := react_requests h ho hu hd ht
    refine ⟨hgrant, htake, fun he r => ⟨fun hq => ?_, fun q hq => ⟨fun hr => ?_, fun hr => ?_⟩⟩⟩
    · rw [hslots he r, hq]
      rfl
    · rw [hslots he r, hq]
      exact congrArg some (if_pos ((requestDue_iff _ _ _).2 hr))
    · rw [hslots he r, hq]
      exact congrArg some (if_neg fun hh => hr ((requestDue_iff _ _ _).1 hh))

end Clauses

end Sys2Proof.Machine
end

section
/-! The entries that a frame advance reaches: the MARK entries passed, then those that the reach pass takes (R71, R116 to R119). -/

namespace Sys2Proof.Machine
open Sys2Proof.Claims

/-! ### A list whose entries carry different numbers (R108) -/

/-- No two entries carry one number. -/
def Numbered (l : List CueEntry) : Prop := (l.map CueEntry.number).Nodup

theorem Numbered.eq {l : List CueEntry} (h : Numbered l) {x y : CueEntry} (hx : x ∈ l) (hy : y ∈ l) (hn : x.number = y.number) : x = y :=
  List.inj_on_of_nodup_map h hx hy hn

theorem Numbered.filter {l : List CueEntry} (h : Numbered l) (f : CueEntry → Bool) : Numbered (l.filter f) :=
  List.Nodup.sublist (List.filter_sublist.map _) h

theorem eraseP_number {l : List CueEntry} (h : Numbered l) (n : Nat) :
    l.eraseP (fun e => e.number = n) = l.filter (fun e => e.number ≠ n) := by
  induction l with
  | nil => rfl
  | cons x l ih =>
    obtain ⟨hx, hl⟩ := List.nodup_cons.1 h
    by_cases hn : x.number = n
    · rw [List.eraseP_cons_of_pos (by simpa using hn), List.filter_cons_of_neg (by simpa using hn)]
      refine (List.filter_eq_self.2 fun e he => ?_).symm
      have hne : e.number ≠ n := fun hen => hx (by
        rw [hn, ← hen]
        exact List.mem_map_of_mem he)
      simpa using hne
    · rw [List.eraseP_cons_of_neg (by simpa using hn), List.filter_cons_of_pos (by simpa using hn), ih hl]

/-- Removing a number filters the list. -/
theorem removeCue_list (s : State) (p : Proj) (h : Numbered s.cues.lists[p]) (n : Nat) :
    (s.removeCue p n).cues.lists[p] = s.cues.lists[p].filter (fun e => e.number ≠ n) := by
  rw [← eraseP_number h]
  unfold State.removeCue
  simp only
  split
  · exact getElem_set_same _ _ _
  · rename_i hno
    refine (List.eraseP_of_forall_not fun e he hen => hno ?_).symm
    exact List.any_eq_true.2 ⟨e, he, hen⟩

/-- In a whole cue store a list's entries carry different numbers. -/
theorem numbered_of_whole {c : CueStore} (h : c.Whole) (p : Proj) : Numbered c.lists[p] := by
  refine List.pairwise_map.2 ((h.ascend p).imp_of_mem fun {x y} hx hy hpos hn => ?_)
  obtain rfl := (h.numbers p p x hx y hy hn).2
  exact Nat.lt_irrefl _ hpos

/-! ### One consumption (R116, R124) -/

/-- What a consumption touches: the mode of the channel in an underrun, the list, the notices. -/
structure Consumed (p : Proj) (s t : State) : Prop where
  eq : t = { s with
    ch := t.ch, cues := t.cues, alarm := t.alarm, line := { s.line with queue := t.line.queue, discarded := t.line.discarded } }
  ch : t.ch[p] = { s.ch[p] with mode := t.ch[p].mode }
  mode : t.cues.lists[p] ≠ [] → t.ch[p].mode = s.ch[p].mode

theorem consume_consumed (s : State) (p : Proj) (e : CueEntry) (o : CueOutcome) (v : Int) (b : Bool) :
    Consumed p s (s.consume p e o v b) ∧ (s.consume p e o v b).cues = (s.removeCue p e.number).cues := by
  obtain ⟨w, hw, -, h⟩ := consume_cases s p e o v b
  have hremove : s.removeCue p e.number = { s with cues := (s.removeCue p e.number).cues } := by
    unfold State.removeCue
    simp only
    split <;> rfl
  have hch : w.ch = s.ch := hw.ch.trans (by rw [hremove])
  have heq : w = { s with
      cues := w.cues, alarm := w.alarm, line := { s.line with queue := w.line.queue, discarded := w.line.discarded } } := by
    rw [hw.eq, hremove]
  rw [h]
  split
  · rename_i hc
    refine ⟨⟨?_, ?_, fun hne => absurd hc.1 ?_⟩, hw.cues⟩
    · rw [State.updCh, heq]
    · have hset : (w.updCh p Channel.toManual).ch[p] = s.ch[p].toManual :=
        (getElem_set_same _ _ _).trans (congrArg (fun v : Vector Channel 8 => v[p].toManual) hch)
      rw [hset]
      rfl
    · rw [← hw.cues]
      exact hne
  · refine ⟨⟨?_, ?_, fun _ => ?_⟩, hw.cues⟩
    · rw [hch]
      exact heq
    · exact (congrArg (fun v : Vector Channel 8 => v[p]) hch).trans (by rw [hch])
    · rw [hch]

/-! ### A pass over entries of a list -/

/-- A pass over the entries of a list that satisfy a test, with some of them left: those dealt with have left the list, and the mode
stands while the list is not empty. -/
structure Passing (p : Proj) (l : List CueEntry) (taken : CueEntry → Bool) (v : State) (rest : List CueEntry) (w : State) : Prop where
  steady : Steady (.of p) v w
  list : w.cues.lists[p] = l.filter (fun e => decide (e ∈ rest) || !taken e)
  numbered : Numbered rest
  mem : ∀ e ∈ rest, e ∈ l ∧ taken e = true
  mode : w.cues.lists[p] ≠ [] → w.ch[p].mode = v.ch[p].mode
  frame : w.tr[p].frame = v.tr[p].frame
  det : w.det = v.det

/-- A fold with what holds before each of the entries that are left. -/
theorem foldl_rest {σ α : Type} {f : σ → α → σ} {I : List α → σ → Prop} (step : ∀ x rest s, I (x :: rest) s → I rest (f s x)) :
    ∀ {l : List α} {s : σ}, I l s → I [] (l.foldl f s) := by
  intro l
  induction l with
  | nil => exact fun h => h
  | cons x l ih => exact fun {s} h => ih (step x l s h)

namespace Passing
variable {p : Proj} {l rest : List CueEntry} {taken : CueEntry → Bool} {v w t : State}

theorem begin (s : State) (p : Proj) (h : Numbered s.cues.lists[p]) (taken : CueEntry → Bool) :
    Passing p s.cues.lists[p] taken s (s.cues.lists[p].filter taken) s where
  steady := Steady.refl s
  list := by
    refine (List.filter_eq_self.2 fun e he => ?_).symm
    cases ht : taken e
    · rw [Bool.not_false, Bool.or_true]
    · rw [decide_eq_true (List.mem_filter.2 ⟨he, ht⟩), Bool.true_or]
  numbered := h.filter taken
  mem e he := List.mem_filter.1 he
  mode _ := rfl
  frame := rfl
  det := rfl

theorem done (h : Passing p l taken v [] w) : w.cues.lists[p] = l.filter (fun e => !taken e) := by
  rw [h.list]
  exact List.filter_congr fun e _ => by simp

/-- An operation between the consumptions. -/
theorem beside (h : Passing p l taken v rest w) (k : Steady (.of p) w t) (hcues : t.cues = w.cues) (hmode : t.ch[p].mode = w.ch[p].mode)
    (hframe : t.tr[p].frame = w.tr[p].frame) (hdet : t.det = w.det) : Passing p l taken v rest t where
  steady := h.steady.trans k
  list := by rw [hcues, h.list]
  numbered := h.numbered
  mem := h.mem
  mode hne := hmode.trans (h.mode (by rw [← hcues]; exact hne))
  frame := hframe.trans h.frame
  det := hdet.trans h.det

theorem notified (h : Passing p l taken v rest w) (k : Notified w t) (ks : Steady (.of p) w t) : Passing p l taken v rest t :=
  h.beside ks k.cues (by rw [k.ch]) (by rw [k.tr]) k.det

theorem consume {e : CueEntry} (h : Passing p l taken v (e :: rest) w) (hl : Numbered l) (o : CueOutcome) (x : Int) (b : Bool) :
    Passing p l taken v rest (w.consume p e o x b) := by
  obtain ⟨hc, hcues⟩ := consume_consumed w p e o x b
  obtain ⟨hel, het⟩ := h.mem e List.mem_cons_self
  obtain ⟨hnotin, hrest⟩ := List.nodup_cons.1 h.numbered
  have hlist : (w.consume p e o x b).cues.lists[p] = l.filter (fun e => decide (e ∈ rest) || !taken e) := by
    rw [hcues, removeCue_list w p (by rw [h.list]; exact hl.filter _), h.list, List.filter_filter]
    refine List.filter_congr fun y hy => ?_
    rw [Bool.eq_iff_iff]
    simp only [Bool.and_eq_true, decide_eq_true_eq, Bool.or_eq_true, List.mem_cons, Bool.not_eq_true']
    constructor
    · rintro ⟨hn, (rfl | hy') | hy'⟩
      · exact absurd rfl hn
      · exact .inl hy'
      · exact .inr hy'
    · rintro (hy' | hy')
      · exact ⟨fun hn => hnotin (hn ▸ List.mem_map_of_mem hy'), .inl (.inr hy')⟩
      · refine ⟨fun hn => ?_, .inr hy'⟩
        rw [hl.eq hy hel hn, het] at hy'
        cases hy'
  refine ⟨h.steady.trans (consume_steady w (of_has p).film e o x b), hlist, hrest, fun y hy => h.mem y (List.mem_cons_of_mem e hy),
    fun hne => (hc.mode hne).trans (h.mode ?_), ?_, ?_⟩
  · exact List.ne_nil_of_mem (a := e) (by rw [h.list]; exact List.mem_filter.2 ⟨hel, by simp⟩)
  · exact (congrArg (fun s : State => s.tr[p].frame) hc.eq).trans h.frame
  · exact (congrArg State.det hc.eq).trans h.det

end Passing

end Sys2Proof.Machine
end

section
/-! STOP cues and the other entries of a reach pass (R117 to R119, R141, R142). -/

namespace Sys2Proof.Machine
open Sys2Proof.Claims

/-! ### The records that a STOP ends (R29, R141, R142, R158) -/

/-- No record is left that a STOP on the projector ends. -/
def Freed (p : Proj) (s : State) : Prop :=
  ∀ (r : Rec) (rec : Record), s.eng.records[r] = some rec → rec.a ≠ p ∧ (rec.b = p → rec.state = .tailout)

theorem Freed.within {S : Scope} {P : Isl → Prop} {p : Proj} {s t : State} (h : Freed p s) (k : Within S P s t) (hS : ¬S.arms) :
    Freed p t := by
  intro r rec hrec
  obtain ⟨old, hold, heq⟩ := (k.olds hS).2.1 r rec hrec
  rw [heq]
  exact h r old hold

theorem findRec_none {s : State} {f : Record → Bool} (h : s.findRec f = none) {r : Rec} {rec : Record}
    (hrec : s.eng.records[r] = some rec) : f rec = false := by
  have := List.find?_eq_none.1 h r (mem_allRec r)
  rw [hrec] at this
  simpa using this

/-- A record left after the ending of another is one of the others. -/
theorem endRecord_others (s : State) (r : Rec) (res : Result) {x : Rec} {rec : Record} (h : (s.endRecord r res).eng.records[x] = some rec) :
    x ≠ r ∧ ∃ old, s.eng.records[x] = some old ∧ rec = { old with flags := rec.flags } := by
  refine ⟨fun hx => ?_, ?_⟩
  · rw [hx, endRecord_free] at h
    cases h
  · have hs : Steady ⟨fun _ => False, fun _ => True, False, False, False⟩ s (s.endRecord r res) :=
      endRecord_steady s r res fun _ _ => .inl trivial
    exact (hs.olds not_false).2.1 x rec h

/-- A STOP ends the record of its projector, where no two records share one (R129). -/
theorem engineStop_freed (s : State) (p : Proj) (hd : RecordsDisjoint s) : Freed p (s.engineStop p) := by
  have hother : ∀ {r x : Rec} {rec old : Record}, s.eng.records[r] = some rec → rec.a = p ∨ rec.b = p → x ≠ r →
      s.eng.records[x] = some old → old.a ≠ p ∧ old.b ≠ p := fun hrec hp hx hold =>
    ⟨fun ha => hx (hd.eq_of_shared hold hrec (.inl ha) hp).1, fun hb => hx (hd.eq_of_shared hold hrec (.inr hb) hp).1⟩
  have hended : ∀ {r : Rec} {rec : Record} (res : Result), s.eng.records[r] = some rec → rec.a = p ∨ rec.b = p →
      Freed p (s.endRecord r res) := by
    intro r rec res hrec hp x new hnew
    obtain ⟨hx, old, hold, heq⟩ := endRecord_others s r res hnew
    obtain ⟨ha, hb⟩ := hother hrec hp hx hold
    rw [heq]
    exact ⟨ha, fun h => absurd h hb⟩
  unfold State.engineStop
  cases hout : s.asOutgoing p with
  | some r =>
    obtain ⟨rec, hrec, ha⟩ := asOutgoing_some hout
    exact hended _ hrec (.inl ha)
  | none =>
    have hno : ∀ (x : Rec) (rec : Record), s.eng.records[x] = some rec → rec.a ≠ p := fun x rec hx =>
      of_decide_eq_false (findRec_none hout hx)
    cases hin : s.asIncoming p with
    | none => exact fun x rec hx => ⟨hno x rec hx, fun hb => absurd hb (of_decide_eq_false (findRec_none hin hx))⟩
    | some r =>
      obtain ⟨rec, hrec, hb⟩ := asIncoming_some hin
      simp only [hrec, Option.any_some, decide_eq_true_eq]
      split
      · rename_i ht
        intro x old hold
        refine ⟨hno x old hold, fun hob => ?_⟩
        obtain ⟨-, rfl⟩ := hd.eq_of_shared hold hrec (.inr hob) (.inr hb)
        exact ht
      · exact hended _ hrec (.inr hb)

/-! ### A projector given a STOP (R18, R29) -/

/-- A projector in COAST after a STOP, its tracker told that the motor is off. -/
structure Stopped (p : Proj) (s : State) : Prop where
  state : s.ch[p].state = .coast
  motor : s.ch[p].motor = false
  douse : s.ch[p].douse = false
  tracker : s.tr[p].motor = false
  lock : s.tr[p].lock = .unlocked

/-- What an operation leaves of the film beside the mode and the quiet window. -/
structure FilmKept (p : Proj) (s t : State) : Prop where
  ch : t.ch[p] = { s.ch[p] with mode := t.ch[p].mode }
  tr : t.tr[p] = { s.tr[p] with quiet := t.tr[p].quiet }

namespace FilmKept
variable {p : Proj} {s t u : State}

theorem trans (h : FilmKept p s t) (k : FilmKept p t u) : FilmKept p s u := ⟨by rw [k.ch, h.ch], by rw [k.tr, h.tr]⟩

theorem state (h : FilmKept p s t) : t.ch[p].state = s.ch[p].state := by rw [h.ch]

theorem running (h : FilmKept p s t) : t.ch[p].running = s.ch[p].running := by
  unfold Channel.running
  rw [h.state]

theorem stopped (h : FilmKept p s t) (hs : Stopped p s) : Stopped p t := by
  obtain ⟨h1, h2, h3, h4, h5⟩ := hs
  constructor
  · rw [h.ch]; exact h1
  · rw [h.ch]; exact h2
  · rw [h.ch]; exact h3
  · rw [h.tr]; exact h4
  · rw [h.tr]; exact h5

end FilmKept

theorem FilmKept.of_eq {p : Proj} {s t : State} (hch : t.ch = s.ch) (htr : t.tr = s.tr) : FilmKept p s t := by
  constructor
  · rw [hch]
  · rw [htr]

theorem Consumed.filmKept {p : Proj} {s t : State} (h : Consumed p s t) : FilmKept p s t :=
  ⟨h.ch, by rw [congrArg State.tr h.eq]⟩

theorem giveStop_of_estop (s : State) (p : Proj) (h : s.estop = true) : s.giveStop p = s := by
  unfold State.giveStop State.requestStop
  rw [if_pos h]

/-- A STOP on a running or stopped projector leaves it stopped, its list and its frame count as they are. -/
theorem giveStop_stopped (s : State) (p : Proj) (h : s.estop = false) (hrun : s.ch[p].running = true ∨ Stopped p s) :
    Stopped p (s.giveStop p) ∧ (RecordsDisjoint s → Freed p (s.giveStop p)) ∧ (s.giveStop p).cues = s.cues
      ∧ (s.giveStop p).det = s.det ∧ (s.giveStop p).ch[p].mode = s.ch[p].mode ∧ (s.giveStop p).tr[p].frame = s.tr[p].frame
      ∧ (s.giveStop p).tr[p].quiet = s.tr[p].quiet := by
  have hgive : s.giveStop p = s.doStop p := by
    unfold State.giveStop State.requestStop
    rw [if_neg (by rw [h]; exact Bool.false_ne_true)]
  obtain ⟨w, hw, heq, -, hch, htr⟩ := doStop_handedOn s p
  have he := engineStop_engineOnly w p
  have hchp : (s.giveStop p).ch[p] = w.ch[p] := by
    rw [hgive, hw]
    exact congrArg (fun v : Vector Channel 8 => v[p]) he.ch
  have htrp : (s.giveStop p).tr[p] = w.tr[p] := by
    rw [hgive, hw]
    exact congrArg (fun v : Vector Tracker 8 => v[p]) he.tr
  have hfreed : RecordsDisjoint s → Freed p (s.giveStop p) := by
    intro hd
    rw [hgive, hw]
    refine engineStop_freed w p ?_
    unfold RecordsDisjoint
    rw [heq]
    exact hd
  have hcues : (s.giveStop p).cues = s.cues := by
    rw [hgive, hw, he.cues, heq]
  have hdet : (s.giveStop p).det = s.det := by
    rw [hgive, hw, he.det, heq]
  by_cases hr : s.ch[p].running = true
  · rw [if_pos (.inl hr)] at hch
    rw [if_pos hr] at htr
    rw [hch] at hchp
    rw [htr] at htrp
    exact ⟨⟨by rw [hchp]; rfl, by rw [hchp]; rfl, by rw [hchp]; rfl, by rw [htrp]; rfl, by rw [htrp]; rfl⟩, hfreed, hcues, hdet,
      by rw [hchp]; rfl, by rw [htrp]; rfl, by rw [htrp]; rfl⟩
  · have hs := hrun.resolve_left hr
    rw [if_neg (by
      rintro (h1 | h1)
      · exact hr h1
      · rw [hs.state] at h1
        cases h1)] at hch
    rw [if_neg hr] at htr
    rw [hch] at hchp
    rw [htr] at htrp
    obtain ⟨h1, h2, h3, h4, h5⟩ := hs
    exact ⟨⟨by rw [hchp]; exact h1, by rw [hchp]; exact h2, by rw [hchp]; exact h3, by rw [htrp]; exact h4, by rw [htrp]; exact h5⟩,
      hfreed, hcues, hdet, by rw [hchp], by rw [htrp], by rw [htrp]⟩

end Sys2Proof.Machine
end

section
/-! The reach pass of a frame advance (R71, R117 to R119). -/

namespace Sys2Proof.Machine
open Sys2Proof.Claims

/-! ### One reached entry (R118, R119) -/

/-- What dealing with a reached entry brings about on its projector. -/
structure Reached (p : Proj) (e : CueEntry) (s t : State) : Prop where
  steady : Steady (.of p) s t
  moving : t.ch[p].running = true ∨ Stopped p t
  kept : ¬(s.ch[p].mode = .auto ∧ s.estop = false ∧ e.kind = .stop) → FilmKept p s t
  stopped : Stopped p s → Stopped p t
  stops : s.ch[p].mode = .auto → s.estop = false → e.kind = .stop → Stopped p t ∧ (RecordsDisjoint s → Freed p t)
  missed : s.ch[p].mode = .auto → e.kind.tag = .change → Latched t (.proj p .changeMissed)

theorem FilmKept.moving {p : Proj} {s t : State} (h : FilmKept p s t) (hs : s.ch[p].running = true ∨ Stopped p s) :
    t.ch[p].running = true ∨ Stopped p t :=
  hs.imp (fun hr => h.running.trans hr) h.stopped

theorem reachEntry_reached (s : State) (p : Proj) (e : CueEntry) (hs : s.ch[p].running = true ∨ Stopped p s) :
    Reached p e s (s.reachEntry p e) := by
  have hsteady := reachEntry_steady s (of_has p) e
  have hkept : FilmKept p s (s.reachEntry p e) → (s.ch[p].mode = .auto → s.estop = false → e.kind ≠ .stop) →
      (s.ch[p].mode = .auto → e.kind.tag = .change → Latched (s.reachEntry p e) (.proj p .changeMissed)) →
      Reached p e s (s.reachEntry p e) := fun hk hstop hmiss =>
    ⟨hsteady, hk.moving hs, fun _ => hk, hk.stopped, fun ha he hkind => absurd hkind (hstop ha he), hmiss⟩
  have hconsume : ∀ (w : State) (o : CueOutcome), FilmKept p w (w.consume p e o 0 true) := fun w o =>
    (consume_consumed w p e o 0 true).1.filmKept
  by_cases hauto : s.ch[p].mode = .auto
  swap
  · have heq : s.reachEntry p e = s.consume p e .skipped 0 true := if_neg hauto
    exact hkept (heq ▸ hconsume s .skipped) (fun ha => absurd ha hauto) fun ha => absurd ha hauto
  cases hkind : e.kind with
  | stop =>
    have heq : s.reachEntry p e = (s.giveStop p).consume p e .actioned 0 true := by
      unfold State.reachEntry
      rw [if_pos hauto, hkind]
    cases hest : s.estop with
    | true =>
      rw [giveStop_of_estop s p hest] at heq
      exact hkept (heq ▸ hconsume s .actioned) (fun _ he => by rw [hest] at he; cases he) (fun _ ht => by rw [hkind] at ht; cases ht)
    | false =>
      obtain ⟨hst, hfr, -⟩ := giveStop_stopped s p hest hs
      have hk := hconsume (s.giveStop p) .actioned
      have hcs : Steady (.of p) (s.giveStop p) ((s.giveStop p).consume p e .actioned 0 true) := consume_steady _ (of_has p).film e _ _ _
      rw [heq] at hsteady ⊢
      refine ⟨hsteady, .inr (hk.stopped hst), fun hn => absurd ⟨hauto, hest, hkind⟩ hn, fun _ => hk.stopped hst,
        fun _ _ _ => ⟨hk.stopped hst, fun hd => (hfr hd).within (hcs.within (P := noIsl) not_false not_false) not_false⟩, fun _ ht => ?_⟩
      rw [hkind] at ht
      cases ht
  | note =>
    have heq : s.reachEntry p e = s.consume p e .actioned 0 true := by
      unfold State.reachEntry
      rw [if_pos hauto, hkind]
    exact hkept (heq ▸ hconsume s .actioned) (fun _ _ h => by rw [hkind] at h; cases h) (fun _ h => by rw [hkind] at h; cases h)
  | quiet n =>
    have heq : s.reachEntry p e = (s.updTr p (fun t => { t with quiet := some ((e.pos : Int), (e.pos : Int) + n) })).consume p e
        .actioned 0 true := by
      unfold State.reachEntry
      rw [if_pos hauto, hkind]
    have hset : FilmKept p s (s.updTr p (fun t => { t with quiet := some ((e.pos : Int), (e.pos : Int) + n) })) := by
      refine ⟨rfl, ?_⟩
      rw [show (s.updTr p _).tr[p] = _ from getElem_set_same _ _ _]
    exact hkept (heq ▸ hset.trans (hconsume _ .actioned)) (fun _ _ h => by rw [hkind] at h; cases h)
      (fun _ h => by rw [hkind] at h; cases h)
  | change part =>
    have heq : s.reachEntry p e = (s.consume p e .missed 0 true).pass (.proj p .changeMissed) := by
      unfold State.reachEntry
      rw [if_pos hauto, hkind]
    have hn := pass_notified (s.consume p e .missed 0 true) (.proj p .changeMissed)
    refine hkept (heq ▸ (hconsume s .missed).trans (.of_eq hn.ch hn.tr)) (fun _ _ h => by rw [hkind] at h; cases h) fun _ _ => ?_
    rw [heq]
    exact pass_latches _ _
  | mark n =>
    have heq : s.reachEntry p e = s := by
      unfold State.reachEntry
      rw [if_pos hauto, hkind]
    exact hkept (heq.symm ▸ .of_eq rfl rfl) (fun _ _ h => by rw [hkind] at h; cases h) (fun _ h => by rw [hkind] at h; cases h)

/-- A reached entry leaves the list (R116). -/
theorem reachEntry_passing {p : Proj} {l rest : List CueEntry} {taken : CueEntry → Bool} {v w : State} {e : CueEntry}
    (h : Passing p l taken v (e :: rest) w) (hl : Numbered l) (htag : e.kind.reachable = true)
    (hs : w.ch[p].running = true ∨ Stopped p w) : Passing p l taken v rest (w.reachEntry p e) := by
  unfold State.reachEntry
  split
  · cases hkind : e.kind with
    | stop =>
      refine Passing.consume ?_ hl .actioned 0 true
      cases hest : w.estop with
      | true =>
        rw [giveStop_of_estop w p hest]
        exact h
      | false =>
        obtain ⟨-, -, hcues, hdet, hmode, hframe, -⟩ := giveStop_stopped w p hest hs
        exact h.beside (giveStop_steady w (of_has p)) hcues hmode hframe hdet
    | note => exact h.consume hl .actioned 0 true
    | quiet n =>
      refine Passing.consume ?_ hl .actioned 0 true
      have htr : (w.updTr p (fun t => { t with quiet := some ((e.pos : Int), (e.pos : Int) + n) })).tr[p]
          = { w.tr[p] with quiet := some ((e.pos : Int), (e.pos : Int) + n) } := getElem_set_same _ _ _
      exact h.beside (updTr_steady w (of_has p).film _ ⟨rfl, rfl, rfl, rfl⟩) rfl rfl (by rw [htr]) rfl
    | change part => exact (h.consume hl .missed 0 true).notified (pass_notified _ _) (pass_steady _ (notTally_proj p _))
    | mark n =>
      rw [hkind] at htag
      cases htag
  · exact h.consume hl .skipped 0 true

/-! ### The two passes (R71, R117) -/

/-- The entries that a reach pass takes at a frame count (R117). -/
def CueEntry.reachedAt (e : CueEntry) (frame : Int) : Bool := e.kind.reachable && decide ((e.pos : Int) ≤ frame)

/-- A reach pass with some entries left. -/
structure Reaching (p : Proj) (l : List CueEntry) (v : State) (rest : List CueEntry) (w : State) : Prop where
  passing : Passing p l (fun e => e.reachedAt v.tr[p].frame) v rest w
  moving : w.ch[p].running = true ∨ Stopped p w
  unstopped : (∀ e ∈ l, e.reachedAt v.tr[p].frame = true → ¬(v.ch[p].mode = .auto ∧ v.estop = false ∧ e.kind = .stop)) →
    w.ch[p].state = v.ch[p].state
  stopped : ∀ e ∈ l, e.reachedAt v.tr[p].frame = true → e ∉ rest → v.ch[p].mode = .auto → v.estop = false → e.kind = .stop →
    Stopped p w ∧ (RecordsDisjoint v → Freed p w)
  missed : ∀ e ∈ l, e.reachedAt v.tr[p].frame = true → e ∉ rest → v.ch[p].mode = .auto → e.kind.tag = .change →
    Latched w (.proj p .changeMissed)

theorem Reaching.step {p : Proj} {l rest : List CueEntry} {v w : State} {e : CueEntry} (hl : Numbered l)
    (h : Reaching p l v (e :: rest) w) : Reaching p l v rest (w.reachEntry p e) := by
  obtain ⟨hp, hmov, huns, hst, hmiss⟩ := h
  obtain ⟨hel, het⟩ := hp.mem e List.mem_cons_self
  have hmode : w.ch[p].mode = v.ch[p].mode := hp.mode <| List.ne_nil_of_mem (a := e) <| by
    rw [hp.list]
    exact List.mem_filter.2 ⟨hel, by simp⟩
  have hestop : w.estop = v.estop := hp.steady.estop
  have hr := reachEntry_reached w p e hmov
  have hin := hr.steady.within (P := noIsl) not_false not_false
  have hvw := hp.steady.within (P := noIsl) not_false not_false
  have hsplit : ∀ y : CueEntry, y ∉ rest → y = e ∨ y ∉ e :: rest := fun y hy =>
    (em (y = e)).imp_right fun hne hmem => (List.mem_cons.1 hmem).elim hne hy
  refine ⟨reachEntry_passing hp hl (Bool.and_eq_true_iff.1 het).1 hmov, hr.moving, fun hno => ?_, fun y hy hyt hrest ha he hk => ?_,
    fun y hy hyt hrest ha hk => ?_⟩
  · have hne := hno e hel het
    rw [← hmode, ← hestop] at hne
    exact (hr.kept hne).state.trans (huns hno)
  · rcases hsplit y hrest with rfl | hmem
    · obtain ⟨h1, h2⟩ := hr.stops (hmode.trans ha) (hestop.trans he) hk
      exact ⟨h1, fun hd => h2 (recordsDisjoint_within hd hvw not_false)⟩
    · obtain ⟨h1, h2⟩ := hst y hy hyt hmem ha he hk
      exact ⟨hr.stopped h1, fun hd => (h2 hd).within hin not_false⟩
  · rcases hsplit y hrest with rfl | hmem
    · exact hr.missed (hmode.trans ha) hk
    · exact hr.steady.latched _ (hmiss y hy hyt hmem ha hk)

/-- The reach pass of a running projector takes every entry reached (R117 to R119). -/
theorem reachPass_reaching (s : State) (p : Proj) (h : Numbered s.cues.lists[p]) (hr : s.ch[p].running = true) :
    Reaching p s.cues.lists[p] s [] (s.reachPass p) := by
  have heq : s.reachPass p = (s.cues.lists[p].filter (fun e => e.reachedAt s.tr[p].frame)).foldl (fun s e => s.reachEntry p e) s :=
    if_pos hr
  rw [heq]
  refine foldl_rest (I := Reaching p s.cues.lists[p] s) (fun x rest w hw => hw.step h) ?_
  have hin : ∀ e ∈ s.cues.lists[p], e.reachedAt s.tr[p].frame = true → e ∈ s.cues.lists[p].filter (fun e => e.reachedAt s.tr[p].frame) :=
    fun e he ht => List.mem_filter.2 ⟨he, ht⟩
  exact ⟨.begin s p h _, .inl hr, fun _ => rfl, fun e he ht hn => absurd (hin e he ht) hn, fun e he ht hn => absurd (hin e he ht) hn⟩

/-- The pass over the MARK entries whose windows are passed (R71). -/
theorem missMarks_passing (s : State) (p : Proj) (h : Numbered s.cues.lists[p]) (hs : s.ch[p].sampling = true) :
    let t := s.missMarks p
    Passing p s.cues.lists[p] (fun e => e.markPassed s.tr[p].frame) s [] t ∧ FilmKept p s t ∧ t.eng = s.eng
      ∧ t.tr = s.tr ∧ ((∃ e ∈ s.cues.lists[p], e.markPassed s.tr[p].frame = true) → Latched t (.proj p .markMissing)) := by
  intro t
  let l := s.cues.lists[p].filter (fun e => e.markPassed s.tr[p].frame)
  have heq : t = l.foldl (fun s e => (s.consume p e .missing 0 s.ch[p].running).pass (.proj p .markMissing)) s := if_pos hs
  rw [heq]
  let Missing (rest : List CueEntry) (w : State) : Prop :=
    Passing p s.cues.lists[p] (fun e => e.markPassed s.tr[p].frame) s rest w ∧ FilmKept p s w ∧ w.eng = s.eng ∧ w.tr = s.tr
      ∧ (rest = l ∨ Latched w (.proj p .markMissing))
  have hstep : ∀ e rest w, Missing (e :: rest) w →
      Missing rest ((w.consume p e .missing 0 w.ch[p].running).pass (.proj p .markMissing)) := by
    rintro e rest w ⟨hp, hk, heng, htr, -⟩
    have hc := (consume_consumed w p e .missing 0 w.ch[p].running).1
    have hn := pass_notified (w.consume p e .missing 0 w.ch[p].running) (.proj p .markMissing)
    refine ⟨(hp.consume h .missing 0 _).notified hn (pass_steady _ (notTally_proj p _)),
      (hk.trans hc.filmKept).trans (.of_eq hn.ch hn.tr), ?_, ?_, .inr (pass_latches _ _)⟩
    · rw [hn.eng, congrArg State.eng hc.eq]
      exact heng
    · rw [hn.tr, congrArg State.tr hc.eq]
      exact htr
  obtain ⟨h1, h2, h3, h4, h5⟩ := foldl_rest (I := Missing) hstep (l := l) ⟨.begin s p h _, .of_eq rfl rfl, rfl, rfl, .inl rfl⟩
  refine ⟨h1, h2, h3, h4, fun ⟨e, he, hp⟩ => h5.resolve_left fun hnil => ?_⟩
  have : e ∈ l := List.mem_filter.2 ⟨he, hp⟩
  rw [← hnil] at this
  cases this

end Sys2Proof.Machine
end

section
/-! What a frame advance leaves of the entries that it reaches (R63, R71, R117 to R119). -/

namespace Sys2Proof.Machine
open Sys2Proof.Claims

/-! ### The tail-out test beside the film (R157) -/

/-- A tail-out test does nothing, or ends a record and gives its projector a STOP. -/
theorem tailoutOf_cases (s : State) (p : Proj) :
    s.tailoutOf p = s ∨ ∃ r res, s.tailoutOf p = (s.endRecord r res).giveStop p := by
  unfold State.tailoutOf
  cases hr : s.asOutgoing p with
  | none => exact .inl rfl
  | some r =>
    obtain ⟨rec, hrec, ha⟩ := asOutgoing_some hr
    unfold State.tailoutTest
    simp only [hrec]
    split
    · exact .inl rfl
    · split
      · rw [ha]
        exact .inr ⟨_, _, rfl⟩
      · exact .inl rfl

/-- What a tail-out test leaves of a projector that runs or has been stopped. -/
theorem tailoutOf_film (s : State) (p : Proj) (h : s.ch[p].running = true ∨ Stopped p s) :
    let t := s.tailoutOf p
    (t.ch[p].running = true ∨ Stopped p t) ∧ (Stopped p s → Stopped p t) ∧ t.cues = s.cues ∧ t.tr[p].frame = s.tr[p].frame
      ∧ t.tr[p].quiet = s.tr[p].quiet := by
  rcases tailoutOf_cases s p with heq | ⟨r, res, heq⟩
  · rw [heq]
    exact ⟨h, id, rfl, rfl, rfl⟩
  · rw [heq]
    have he := endRecord_engineOnly s r res
    have hk : FilmKept p s (s.endRecord r res) := .of_eq he.ch he.tr
    have hs := hk.moving h
    cases hest : (s.endRecord r res).estop with
    | true =>
      rw [giveStop_of_estop _ p hest]
      exact ⟨hs, hk.stopped, he.cues, by rw [he.tr], by rw [he.tr]⟩
    | false =>
      obtain ⟨hst, -, hcues, -, -, hframe, hquiet⟩ := giveStop_stopped (s.endRecord r res) p hest hs
      exact ⟨.inr hst, fun _ => hst, hcues.trans he.cues, hframe.trans (by rw [he.tr]), hquiet.trans (by rw [he.tr])⟩

/-! ### The advance itself -/

/-- A report posts a notice, or replaces one (R65). -/
theorem reportPosition_eq (s : State) (p : Proj) :
    ∃ q d, s.reportPosition p = { s with line := { s.line with queue := q, discarded := d } } := by
  have hpost : ∀ n, ∃ q d, s.postPosition n = { s with line := { s.line with queue := q, discarded := d } } := by
    intro n
    unfold State.postPosition
    split
    · exact ⟨_, s.line.discarded, rfl⟩
    · split
      · exact ⟨_, s.line.discarded, rfl⟩
      · exact ⟨s.line.queue, _, rfl⟩
  unfold State.reportPosition
  simp only
  split
  · exact hpost _
  · exact ⟨s.line.queue, s.line.discarded, rfl⟩

/-- The state in which the passes over the list begin: a sample is taken and the position reported. -/
def State.sampledAt (s : State) (p : Proj) : State := (s.updDet p (fun d => d.sample s.pins.proj[p].cue)).reportPosition p

/-- A frame advance without a match: the two passes, the watermark test and the tail-out test (R63). -/
theorem frameAdvanced_of_no_match (s : State) (p : Proj) (before : Nat) (hs : s.ch[p].sampling = true) (hn : Numbered s.cues.lists[p])
    (hf : s.det[p].found = none) (hm : (s.det[p].sample s.pins.proj[p].cue).matched = false) (hr : s.ch[p].running = true) :
    s.frameAdvanced p before = ((((s.sampledAt p).missMarks p).reachPass p).lowTest p before).tailoutOf p := by
  obtain ⟨q, d, hrep⟩ := reportPosition_eq (s.updDet p (fun d => d.sample s.pins.proj[p].cue)) p
  have hdet : (s.updDet p (fun d => d.sample s.pins.proj[p].cue)).det[p] = s.det[p].sample s.pins.proj[p].cue := getElem_set_same _ _ _
  have hv : s.sampledAt p = { s.updDet p (fun d => d.sample s.pins.proj[p].cue) with line := { s.line with queue := q, discarded := d } } :=
    hrep
  obtain ⟨hp, hk, -, -, -⟩ := missMarks_passing (s.sampledAt p) p (by rw [hv]; exact hn) (by rw [hv]; exact hs)
  have hreach := reachPass_reaching ((s.sampledAt p).missMarks p) p (by rw [hp.done, hv]; exact hn.filter _)
    (by rw [hk.running, hv]; exact hr)
  have hfound : ((((s.sampledAt p).missMarks p).reachPass p).lowTest p before).det[p].found = none := by
    rw [show ((((s.sampledAt p).missMarks p).reachPass p).lowTest p before).det = _ from (passIf_notified _ _ _).det, hreach.passing.det,
      hp.det, hv]
    exact (congrArg Detector.found hdet).trans hf
  have hwait : ((((s.sampledAt p).missMarks p).reachPass p).lowTest p before).takeWaiting p
      = (((s.sampledAt p).missMarks p).reachPass p).lowTest p before := by
    unfold State.takeWaiting
    rw [hfound]
  have hno : (s.ch[p].sampling && (s.updDet p (fun d => d.sample s.pins.proj[p].cue)).det[p].matched) = false := by
    rw [hdet, hm, Bool.and_false]
  unfold State.frameAdvanced
  simp only [hs, if_true]
  rw [hs] at hno
  simp only [hno, Bool.false_eq_true, if_false]
  exact congrArg (fun w : State => w.tailoutOf p) hwait

/-- What a frame advance to a frame count makes of a running projector and of the entries of its list. -/
structure ReachedAt (p : Proj) (x : Int) (s t : State) : Prop where
  frame : t.tr[p].frame = x
  moving : t.ch[p].running = true ∨ Stopped p t
  list : t.cues.lists[p] = s.cues.lists[p].filter (fun e => !e.reachedAt x && !e.markPassed x)
  stops : s.ch[p].mode = .auto → s.estop = false → (∃ e ∈ s.cues.lists[p], e.reachedAt x = true ∧ e.kind = .stop) →
    Stopped p t ∧ (RecordsDisjoint s → Freed p t)
  unstopped : ¬(s.ch[p].mode = .auto ∧ s.estop = false ∧ ∃ e ∈ s.cues.lists[p], e.reachedAt x = true ∧ e.kind = .stop) →
    InNoRecord s p → t.ch[p].state = s.ch[p].state
  missed : s.ch[p].mode = .auto → ∀ e ∈ s.cues.lists[p], e.reachedAt x = true → e.kind.tag = .change →
    Latched t (.proj p .changeMissed)
  quiet : s.ch[p].mode = .auto → ∀ (e : CueEntry) (n : Nat), s.cues.lists[p] = [e] → e.reachedAt x = true → e.kind = .quiet n →
    t.tr[p].quiet = some ((e.pos : Int), (e.pos : Int) + n)
  marks : (∃ e ∈ s.cues.lists[p], e.markPassed x = true) → Latched t (.proj p .markMissing)

/-- An entry that the reach pass takes is no MARK entry. -/
theorem markPassed_of_reachedAt {e : CueEntry} {frame : Int} (h : e.reachedAt frame = true) : e.markPassed frame = false := by
  unfold CueEntry.reachedAt at h
  unfold CueEntry.markPassed
  split
  · rename_i n hk
    rw [hk] at h
    cases h
  · rfl

/-- A QUIET entry alone in its list sets the window (R117, R119). -/
theorem reachPass_quiet (s : State) (p : Proj) (hr : s.ch[p].running = true) (ha : s.ch[p].mode = .auto) {e : CueEntry} {n : Nat}
    (hl : s.cues.lists[p] = [e]) (he : e.reachedAt s.tr[p].frame = true) (hk : e.kind = .quiet n) :
    (s.reachPass p).tr[p].quiet = some ((e.pos : Int), (e.pos : Int) + n) := by
  have heq : s.reachPass p = s.reachEntry p e := by
    have h1 : s.reachPass p = (s.cues.lists[p].filter (fun e => e.reachedAt s.tr[p].frame)).foldl (fun s e => s.reachEntry p e) s :=
      if_pos hr
    have h2 : [e].filter (fun e => e.reachedAt s.tr[p].frame) = [e] := List.filter_eq_self.2 (by simpa using he)
    rw [h1, hl, h2]
    rfl
  let s1 := s.updTr p (fun t => { t with quiet := some ((e.pos : Int), (e.pos : Int) + n) })
  have hentry : s.reachEntry p e = s1.consume p e .actioned 0 true := by
    unfold State.reachEntry
    rw [if_pos ha, hk]
  have htr : s1.tr[p] = { s.tr[p] with quiet := some ((e.pos : Int), (e.pos : Int) + n) } := getElem_set_same _ _ _
  rw [heq, hentry, congrArg State.tr (consume_consumed s1 p e .actioned 0 true).1.eq]
  exact (congrArg Tracker.quiet htr)

theorem frameAdvanced_reachedAt (s : State) (p : Proj) (before : Nat) (hr : s.ch[p].running = true) (hn : Numbered s.cues.lists[p])
    (hf : s.det[p].found = none) (hm : (s.det[p].sample s.pins.proj[p].cue).matched = false) :
    ReachedAt p s.tr[p].frame s (s.frameAdvanced p before) := by
  have hs : s.ch[p].sampling = true := by
    unfold Channel.running at hr
    unfold Channel.sampling
    rw [hr]
    rfl
  rw [frameAdvanced_of_no_match s p before hs hn hf hm hr]
  obtain ⟨v, hv, hch, htr, hcues, heng, hest⟩ : ∃ v, v = s.sampledAt p ∧ v.ch = s.ch ∧ v.tr = s.tr ∧ v.cues = s.cues ∧ v.eng = s.eng
      ∧ v.estop = s.estop := by
    obtain ⟨q, d, h⟩ := reportPosition_eq (s.updDet p (fun d => d.sample s.pins.proj[p].cue)) p
    refine ⟨_, rfl, ?_⟩
    rw [State.sampledAt, h]
    exact ⟨rfl, rfl, rfl, rfl, rfl⟩
  rw [← hv]
  obtain ⟨hp, hk, hmeng, hmtr, hmarks⟩ := missMarks_passing v p (by rw [hcues]; exact hn) (by rw [hch]; exact hs)
  generalize v.missMarks p = m at hp hk hmeng hmtr hmarks ⊢
  rw [hcues, htr] at hmarks
  have hlist : m.cues.lists[p] = s.cues.lists[p].filter (fun e => !e.markPassed s.tr[p].frame) := by
    rw [hp.done, htr, hcues]
  have hframe : m.tr[p].frame = s.tr[p].frame := by rw [hmtr, htr]
  have hrun : m.ch[p].running = true := by rw [hk.running, hch]; exact hr
  have hmem : ∀ e ∈ s.cues.lists[p], e.reachedAt s.tr[p].frame = true → e ∈ m.cues.lists[p] := fun e he ht => by
    rw [hlist]
    exact List.mem_filter.2 ⟨he, by rw [markPassed_of_reachedAt ht]; rfl⟩
  have hmode : ∀ e ∈ m.cues.lists[p], m.ch[p].mode = s.ch[p].mode := fun e he =>
    (hp.mode (List.ne_nil_of_mem he)).trans (by rw [hch])
  have hmest : m.estop = s.estop := hp.steady.estop.trans hest
  have hmstate : m.ch[p].state = s.ch[p].state := hk.state.trans (by rw [hch])
  have hreach := reachPass_reaching m p (by rw [hlist]; exact hn.filter _) hrun
  have hquiet := reachPass_quiet m p hrun
  generalize m.reachPass p = x at hreach hquiet ⊢
  obtain ⟨hpass, hmov, huns, hstop, hmiss⟩ := hreach
  have hlow := passIf_notified x (decide (x.cues.low[p] ≠ 0) && decide (x.cues.low[p] ≤ before) && decide (x.ahead p < x.cues.low[p]))
    (.proj p .cueLow)
  have hlows := lowTest_steady (S := .of p) x p before
  have hky : FilmKept p x (x.lowTest p before) := .of_eq hlow.ch hlow.tr
  have hxy : (x.lowTest p before).cues = x.cues := hlow.cues
  have hquiety : (x.lowTest p before).tr[p].quiet = x.tr[p].quiet := congrArg (fun v : Vector Tracker 8 => v[p].quiet) hlow.tr
  have hframey : (x.lowTest p before).tr[p].frame = x.tr[p].frame := congrArg (fun v : Vector Tracker 8 => v[p].frame) hlow.tr
  generalize x.lowTest p before = y at hlows hky hxy hquiety hframey ⊢
  obtain ⟨htmov, htst, htcues, htframe, htquiet⟩ := tailoutOf_film y p (hky.moving hmov)
  have htail := tailoutOf_steady y (of_has p)
  have hxt := hlows.trans htail
  have hmt := hpass.steady.trans hxt
  refine ⟨?_, htmov, ?_, fun ha he hex => ?_, fun hno hrec => ?_, fun ha e he ht hk' => ?_, fun ha e n hl ht hk' => ?_, fun hex => ?_⟩
  · rw [htframe, hframey, hpass.frame, hframe]
  · rw [htcues, hxy, hpass.done, hlist, List.filter_filter, hframe]
  · obtain ⟨e, hmem', ht, hkind⟩ := hex
    have hem := hmem e hmem' ht
    obtain ⟨h1, h2⟩ := hstop e hem (by rw [hframe]; exact ht) List.not_mem_nil ((hmode e hem).trans ha) (hmest.trans he) hkind
    refine ⟨htst (hky.stopped h1), fun hd => (h2 ?_).within (hxt.within (P := noIsl) not_false not_false) not_false⟩
    unfold RecordsDisjoint
    rw [hmeng, heng]
    exact hd
  · have hno' : ∀ e ∈ m.cues.lists[p], e.reachedAt m.tr[p].frame = true → ¬(m.ch[p].mode = .auto ∧ m.estop = false ∧ e.kind = .stop) := by
      rintro e he ht ⟨h1, h2, h3⟩
      rw [hmode e he] at h1
      rw [hmest] at h2
      rw [hframe] at ht
      rw [hlist] at he
      exact hno ⟨h1, h2, e, (List.mem_filter.1 he).1, ht, h3⟩
    have hrecm : InNoRecord m p := by
      unfold InNoRecord
      rw [hmeng, heng]
      exact hrec
    have hrecy : InNoRecord y p := inNoRecord_within hrecm ((hpass.steady.trans hlows).within (P := noIsl) not_false not_false) not_false
    have hsame : y.tailoutOf p = y := tailoutOf_of_no_tailout y p fun r rec hrec' ha => absurd ha (hrecy r rec hrec').1
    rw [hsame, hky.state, huns hno', hmstate]
  · exact hxt.latched _ (hmiss e (hmem e he ht) (by rw [hframe]; exact ht) List.not_mem_nil ((hmode e (hmem e he ht)).trans ha) hk')
  · have hem : e ∈ m.cues.lists[p] := hmem e (by rw [hl]; exact List.mem_singleton_self e) ht
    have hml : m.cues.lists[p] = [e] := by
      rw [hlist, hl]
      exact List.filter_eq_self.2 (by simpa using markPassed_of_reachedAt ht)
    rw [htquiet, hquiety, hquiet ((hmode e hem).trans ha) hml (by rw [hframe]; exact ht) hk']
  · exact hmt.latched _ (hmarks hex)

end Sys2Proof.Machine
end

section
/-! The entries that the frame advance of a boundary reaches (R55, R63, R117 to R119). -/

namespace Sys2Proof.Machine
open Sys2Proof.Claims

/-! ### The records found -/

/-- Every record of a state is one of another, but for its flags. -/
def Olds (z s : State) : Prop :=
  ∀ (r : Rec) (rec : Record), s.eng.records[r] = some rec → ∃ old, z.eng.records[r] = some old ∧ rec = { old with flags := rec.flags }

namespace Olds
variable {z s t : State}

theorem of_eq (h : s.eng = z.eng) : Olds z s := fun r rec hr => ⟨rec, by rw [← h]; exact hr, rfl⟩

theorem within {S : Scope} {P : Isl → Prop} (h : Olds z s) (k : Within S P s t) (hS : ¬S.arms) : Olds z t := by
  intro r rec hr
  obtain ⟨mid, hmid, hrec⟩ := (k.olds hS).2.1 r rec hr
  obtain ⟨old, hold, hmid'⟩ := h r mid hmid
  exact ⟨old, hold, by rw [hrec, hmid']⟩

theorem inNoRecord (h : Olds z s) {p : Proj} (hp : InNoRecord z p) : InNoRecord s p := by
  intro r rec hr
  obtain ⟨old, hold, heq⟩ := h r rec hr
  rw [heq]
  exact hp r old hold

theorem disjoint (h : Olds z s) (hd : RecordsDisjoint z) : RecordsDisjoint s := by
  intro r x rec rec' hr hx
  obtain ⟨old, hold, heq⟩ := h r rec hr
  obtain ⟨old', hold', heq'⟩ := h x rec' hx
  rw [heq, heq']
  exact hd r x old old' hold hold'

/-- A record of a projector that a STOP has freed is FREE. -/
theorem none_of_freed (h : Olds z t) {p : Proj} (hf : Freed p t) {r : Rec} {rec : Record} (hr : z.eng.records[r] = some rec)
    (hp : rec.a = p ∨ (rec.b = p ∧ rec.state ≠ .tailout)) : t.eng.records[r] = none := by
  cases ht : t.eng.records[r] with
  | none => rfl
  | some new =>
    obtain ⟨old, hold, heq⟩ := h r new ht
    rw [hr] at hold
    cases hold
    obtain ⟨ha, hb⟩ := hf r new ht
    rw [heq] at ha hb
    exact hp.elim (fun h => absurd h ha) fun ⟨h1, h2⟩ => absurd (hb h1) h2

end Olds

/-- No list of other projectors holds a CHANGE entry. -/
def OnlyChanges (p : Proj) (s : State) : Prop := ∀ x : Proj, x ≠ p → ∀ e ∈ s.cues.lists[x], e.kind.tag ≠ .change

theorem OnlyChanges.within {S : Scope} {P : Isl → Prop} {p : Proj} {s t : State} (h : OnlyChanges p s) (k : Within S P s t) :
    OnlyChanges p t := fun x hx e he => h x hx e (k.shrink x e he)

/-! ### The tracker's reaction -/

theorem Stopped.wait {p : Proj} {s : State} (h : Stopped p s) (ds : List Due) : Stopped p (s.wait ds) :=
  ⟨h.state, h.motor, h.douse, h.tracker, h.lock⟩

/-- A tracker that makes a frame advance at a boundary. -/
theorem trackerReact_of_advances {s : State} {p : Proj} {n : Field} {q : Pos} (hadv : Advances s p n q) (hfield : s.field = n) :
    q.advance.f = q.f + 1 ∧ s.ch[p].running = true ∧ (s.stepped p q.advance).tr[p].frame = q.f + 1
      ∧ s.trackerReact p = ((s.stepped p q.advance).frameAdvanced p (s.ahead p)).wait (s.trackerDues p) := by
  obtain ⟨hlock, hpos, hlen, hqf, hmax, hslip, hrun⟩ := hadv
  have hno : s.slipsNow p = false := by
    rw [← Bool.not_eq_true, slipsNow_iff]
    rintro ⟨-, w, hw, hb⟩
    exact hslip w (by rw [hw]; exact rfl) (hb.trans hfield)
  have hadvance : q.advance = ⟨q.f + 1, 0, q.c.flip⟩ := if_neg (by omega)
  have hf : q.advance.f = q.f + 1 := congrArg Pos.f hadvance
  have hne : q.advance.f ≠ q.f := by
    rw [hf]
    omega
  refine ⟨hf, ?_, (congrArg Tracker.frame (getElem_set_same _ _ _)).trans hf, ?_⟩
  · unfold Channel.running
    rcases hrun with h | h <;> rw [h] <;> rfl
  · rw [trackerReact_eq, tracked_cases hno hlock hpos, if_neg hne, if_pos (show s.tr[p].frame < Config.frameMax from hmax)]

/-- A tracker's reaction that makes a frame advance without a match (R55). -/
theorem trackerReact_reachedAt (s : State) (p : Proj) {n : Field} {q : Pos} (hfield : s.field = n) (hadv : Advances s p n q)
    (hn : Numbered s.cues.lists[p]) (hf : s.det[p].found = none) (hm : (s.det[p].sample s.pins.proj[p].cue).matched = false) :
    ReachedAt p (q.f + 1) s (s.trackerReact p) := by
  obtain ⟨-, hr, htr, heq⟩ := trackerReact_of_advances hadv hfield
  have h := frameAdvanced_reachedAt (s.stepped p q.advance) p (s.ahead p) hr hn hf hm
  rw [htr] at h
  rw [heq]
  generalize (s.stepped p q.advance).frameAdvanced p (s.ahead p) = t at h
  obtain ⟨h1, h2, h3, h4, h5, h6, h7, h8⟩ := h
  exact ⟨h1, h2.imp_right fun hs => hs.wait _, h3, fun ha he hx => (h4 ha he hx).imp_left fun hs => hs.wait _, h5, h6, h7, h8⟩

/-- What the tracker brings about of a film that LOOP and TAIL do not stop, and what the other reactions leave of that. -/
theorem react_from_tracker {o : BoundaryOrder} (ho : MovesBlocksAlone o) {p : Proj} {y : State} (hl : Loose p y) {Q J : State → Prop}
    (hQ : ∀ s x, Part.isBlock x = true → x ≠ .tracker p → Beside p y s → Q s → Q (s.partReact x)) (hy : Q y)
    (at_ : ∀ s, Beside p y s → Q s → J (s.trackerReact p)) (after : ∀ s x, Part.isBlock x = true → x ≠ .tracker p → J s → J (s.partReact x))
    (arming : ∀ s a, J s → J (s.armAttempt a)) (take : ∀ s, J s → J s.takesReact) : J (y.react o) :=
  react_at ho (x := .tracker p) rfl (I := fun s => Beside p y s ∧ Q s) (J := J) (K := J)
    (fun s x hx hp hs => ⟨hs.1.trans (block_beside s hx hp (hl.of_kept hs.1.kept)), hQ s x hx hp hs.1 hs.2⟩)
    (fun s hs => at_ s hs.1 hs.2) after (fun _ hs => hs) arming take ⟨Beside.refl y, hy⟩

/-- The model's test of a completed signature is the one of R69. -/
theorem matched_sample_eq_false (d : Detector) (cue : Bool) (h : ¬Completes d (sampled d.history d.latch)) :
    (d.sample cue).matched = false := by
  rw [← Bool.not_eq_true]
  intro hm
  have hpush : (d.sample cue).history = sampled d.history d.latch := by
    show pushSample d.history d.latch = _
    unfold pushSample sampled
    rw [List.drop_one]
  unfold Detector.matched at hm
  rw [hpush, Bool.and_eq_true, decide_eq_true_eq, decide_eq_true_eq] at hm
  exact h hm

theorem passedMark_eq (e : CueEntry) (x : Int) : passedMark e x = e.markPassed x := by
  unfold passedMark CueEntry.markPassed
  cases e.kind <;> rfl

theorem reachedAt_eq (e : CueEntry) (x : Int) : e.reachedAt x = (decide (e.kind.tag ≠ .mark) && decide ((e.pos : Int) ≤ x)) := by
  unfold CueEntry.reachedAt
  cases e.kind <;> rfl

/-! ### The clauses -/

/-- What the tracker of a reaching projector finds of the other blocks, and what it leaves of them. -/
structure FoundBeside (z : State) (p : Proj) (s : State) : Prop where
  estop : s.estop = z.estop
  olds : Olds z s
  changes : OnlyChanges p z → OnlyChanges p s

theorem FoundBeside.step {z s : State} {p : Proj} (h : FoundBeside z p s) {x : Part} (hx : Part.isBlock x = true) :
    FoundBeside z p (s.partReact x) := by
  obtain ⟨S, P, hw, hS⟩ := block_any s hx
  exact ⟨hw.estop.trans h.estop, h.olds.within hw hS, fun hc => (h.changes hc).within hw⟩

/-- No list holds a CHANGE entry that an arming attempt may find. -/
def NoChanges (s : State) : Prop := ∀ x : Proj, ∀ e ∈ s.cues.lists[x], e.kind.tag ≠ .change

/-- A projector whose records a STOP has ended, with no CHANGE entry to arm one anew. -/
structure FreedForGood (z : State) (p : Proj) (s : State) : Prop where
  olds : Olds z s
  freed : Freed p s
  changes : NoChanges s

theorem FreedForGood.none {z s : State} {p : Proj} (h : FreedForGood z p s) {r : Rec} {rec : Record} (hr : z.eng.records[r] = some rec)
    (hp : rec.a = p ∨ (rec.b = p ∧ rec.state ≠ .tailout)) : s.eng.records[r] = none := h.olds.none_of_freed h.freed hr hp

theorem FreedForGood.block {z s : State} {p : Proj} (h : FreedForGood z p s) {x : Part} (hx : Part.isBlock x = true) :
    FreedForGood z p (s.partReact x) := by
  obtain ⟨S, P, hw, hS⟩ := block_any s hx
  exact ⟨h.olds.within hw hS, h.freed.within hw hS, fun a e he => h.changes a e (hw.shrink a e he)⟩

theorem FreedForGood.arming {z s : State} {p : Proj} (h : FreedForGood z p s) (a : Proj) : FreedForGood z p (s.armAttempt a) := by
  rw [armAttempt_of_no_change s a (h.changes a)]
  exact h

theorem FreedForGood.takes {z s : State} {p : Proj} (h : FreedForGood z p s) : FreedForGood z p s.takesReact := by
  obtain ⟨slots, ds, heq, -⟩ := takesReact_eq s
  rw [heq]
  exact ⟨h.olds, h.freed, h.changes⟩

/-- A channel that has counted is stopped as it was. -/
theorem Beside.stopped {p : Proj} {s t : State} (h : Beside p s t) (hs : Stopped p s) : Stopped p t := by
  obtain ⟨h1, h2, h3, h4, h5⟩ := hs
  exact ⟨by rw [h.ch]; exact h1, by rw [h.ch]; exact h2, by rw [h.ch]; exact h3, by rw [h.tr]; exact h4, by rw [h.tr]; exact h5⟩

/-- The reaching clauses of a boundary (R71, R117 to R119). -/
theorem boundaryReaches {z y : State} {n : Field} {inSync : Bool} (h : Begun z y n inSync) {o : BoundaryOrder} (ho : MovesBlocksAlone o) :
    BoundaryReaches z (y.react o) n := by
  intro p q hwhole hadv hloop htail hfound hmatch hchange
  have hl := h.loose hloop htail
  have hfirst : FoundBeside z p y := by
    refine ⟨h.estop, .of_eq h.eng, fun hc => ?_⟩
    unfold OnlyChanges
    rw [h.cues]
    exact hc
  -- the tracker finds the film as the boundary does
  have hfilm : ∀ s, Beside p y s → s.tr[p] = z.tr[p] ∧ s.det[p] = z.det[p] ∧ s.cues.lists[p] = z.cues.lists[p]
      ∧ s.ch[p].state = z.ch[p].state ∧ s.ch[p].mode = z.ch[p].mode := fun s hb => by
    have hch : y.ch[p] = z.ch[p] := congrArg (fun v : Vector Channel 8 => v[p]) h.ch
    refine ⟨hb.tr.trans (congrArg (fun v : Vector Tracker 8 => v[p]) h.tr), hb.det.trans (congrArg (fun v : Vector Detector 8 => v[p]) h.det),
      hb.list.trans (by rw [h.cues]), ?_, ?_⟩
    · rw [hb.ch, hch]
    · rw [hb.ch, hch]
  have hreached : ∀ s, Beside p y s → ReachedAt p (q.f + 1) s (s.trackerReact p) := fun s hb => by
    obtain ⟨htr, hdet, hlist, hstate, -⟩ := hfilm s hb
    refine trackerReact_reachedAt s p (hb.kept.field.trans h.field) ?_ (by rw [hlist]; exact numbered_of_whole hwhole p)
      (by rw [hdet]; exact hfound) (matched_sample_eq_false _ _ (by rw [hdet]; exact hmatch))
    unfold Advances
    rw [htr, hstate]
    exact hadv
  have hnochange : ∀ s, Beside p y s → ∀ e ∈ (s.trackerReact p).cues.lists[p], e.kind.tag ≠ .change := by
    intro s hb e he ht
    rw [(hreached s hb).list, (hfilm s hb).2.2.1] at he
    obtain ⟨hmem, hleft⟩ := List.mem_filter.1 he
    rw [reachedAt_eq, ht, decide_eq_true (hchange e hmem ht)] at hleft
    cases hleft
  obtain ⟨s, hb, hs, -, hafter⟩ := react_around_tracker ho hl (Q := FoundBeside z p) (fun s x hx _ _ hs => hs.step hx) hfirst
  obtain ⟨htr, hdet, hlist, hstate, hmode⟩ := hfilm s hb
  have hr := hreached s hb
  have hready : (s.trackerReact p).ch[p].state ≠ .ready := fun hc => by
    rcases hr.moving with hm | hm
    · unfold Channel.running at hm
      rw [hc] at hm
      cases hm
    · rw [hm.state] at hc
      cases hc
  have hbeside := hafter hready (.inr (hnochange s hb))
  obtain ⟨h1, -, h3, h4, h5, h6, h7, h8⟩ := hr
  rw [hlist] at h3 h4 h5 h6 h7 h8
  rw [hmode] at h4 h5 h6 h7
  rw [hs.estop] at h4 h5
  refine ⟨by rw [hbeside.tr]; exact h1, ?_⟩
  unfold CuesReached
  simp only [← reachedAt_eq, passedMark_eq]
  refine ⟨hbeside.list.trans h3, ?_, fun hno hrec => ?_, fun ha e he ht hk => ?_, fun ha e l hle ht hk => ?_, fun hex => ?_⟩
  · rintro ⟨ha, he, hex⟩
    obtain ⟨hc1, hc2, hc3, hc4, hc5⟩ := hbeside.stopped (h4 ha he hex).1
    refine ⟨hc1, hc2, hc3, hc4, hc5, fun hd hothers r rec hrec hp => ?_⟩
    have hfreed : FreedForGood z p (y.react o) := by
      refine react_from_tracker ho hl (Q := FoundBeside z p) (J := FreedForGood z p) (fun s x hx _ _ hs => hs.step hx) hfirst
        (fun w hbw hw => ?_) (fun w x hx _ hw => hw.block hx) (fun w a hw => hw.arming a) (fun w hw => hw.takes)
      obtain ⟨-, -, hwlist, -, hwmode⟩ := hfilm w hbw
      have hin := trackerReact_within w p
      refine ⟨hw.olds.within hin not_false, ?_, fun x => ?_⟩
      · refine ((hreached w hbw).stops (hwmode.trans ha) (hw.estop.trans he) ?_).2 (hw.olds.disjoint hd)
        rw [hwlist]
        exact hex
      · by_cases hx : x = p
        · subst hx
          exact hnochange w hbw
        · exact (hw.changes hothers).within hin x hx
    exact hfreed.none hrec hp
  · rw [hbeside.state, h5 hno (hs.olds.inNoRecord hrec), hstate]
  · exact hbeside.kept.latched _ (h6 ha e he ht hk)
  · rw [hbeside.tr]
    exact h7 ha e l hle ht hk
  · exact hbeside.kept.latched _ (h8 hex)

end Sys2Proof.Machine
end

section
/-! A record in TAILOUT at a boundary: what leaves it alone, and its stop point (R157, R158). -/

namespace Sys2Proof.Machine
open Sys2Proof.Claims

/-! ### A fault that no record follows (R158) -/

/-- The scope of one projector's film, its records left alone. -/
def Scope.filmOf (p : Proj) : Scope := ⟨(· = p), fun _ => False, False, False, False⟩

theorem engineFault_of_freed (s : State) (p : Proj) (e : Bool) (h : Freed p s) : s.engineFault p e = s := by
  unfold State.engineFault
  cases hout : s.asOutgoing p with
  | some r =>
    obtain ⟨rec, hrec, ha⟩ := asOutgoing_some hout
    exact absurd ha (h r rec hrec).1
  | none =>
    cases hin : s.asIncoming p with
    | none => rfl
    | some r =>
      obtain ⟨rec, hrec, hb⟩ := asIncoming_some hin
      simp only [hrec, Option.any_some, (h r rec hrec).2 hb, decide_true, if_true]

theorem enterFault_of_freed (s : State) (p : Proj) (faults : List ChanFault) (h : Freed p s) :
    Steady (.filmOf p) s (s.enterFault p faults) := by
  cases faults with
  | nil => exact Steady.refl s
  | cons f fs =>
    let s1 := (f :: fs).foldl (fun s f => s.pass (.proj p f.alarm)) s
    let s2 := (f :: fs).foldl (fun s f => s.protect p f.kind) s1
    have h1 : Steady (.filmOf p) s s1 ∧ s1.eng = s.eng :=
      foldl_inv (I := fun w : State => Steady (.filmOf p) s w ∧ w.eng = s.eng)
        (fun w f _ hw => ⟨hw.1.trans (pass_steady w (notTally_proj p f.alarm)), (pass_notified w _).eng.trans hw.2⟩)
        ⟨Steady.refl s, rfl⟩
    have h2 : Steady (.filmOf p) s s2 ∧ s2.eng = s.eng :=
      foldl_inv (I := fun w : State => Steady (.filmOf p) s w ∧ w.eng = s.eng)
        (fun w f _ hw => ⟨hw.1.trans (protect_steady w p f.kind),
          (congrArg State.eng (protect_protectOnly w p f.kind).eq).trans hw.2⟩) h1
    have hbefore : s.beforeFault p (f :: fs) = s2 := engineFault_of_freed s2 p _ (by
      unfold Freed
      rw [h2.2]
      exact h)
    rw [enterFault_eq, hbefore]
    exact (h2.1.trans (updCh_steady _ rfl _ ⟨rfl, rfl⟩)).trans (updTr_steady _ rfl _ ⟨rfl, rfl, rfl, rfl⟩)

theorem channelReact_of_freed (s : State) (p : Proj) (h : Freed p s) : Within (.filmOf p) noIsl s (s.channelReact p) := by
  have hcounted : Within (.filmOf p) noIsl s (s.counted p) :=
    { Within.refl (S := .filmOf p) (P := noIsl) s with films := fun _ hq => ⟨getElem_set_other _ _ hq, rfl, rfl, rfl⟩ }
  by_cases hin : s.inputFaults p = []
  · rw [channelReact_of_none s p hin]
    refine hcounted.trans (wait_within _ _ fun d hd => .inl ⟨p, rfl, ?_⟩)
    rcases mem_channelDues hd with rfl | rfl | rfl | rfl <;> simp [projSteps]
  · rw [channelReact_of_faults s p hin]
    exact hcounted.trans ((enterFault_of_freed (s.counted p) p _ h).within not_false not_false)

/-! ### A record in TAILOUT that nothing disturbs -/

/-- A record in TAILOUT, on empty lists, its outgoing projector without LOOP and TAIL. -/
structure TailHeld (r : Rec) (rec : Record) (s : State) : Prop where
  stands : RecStands r rec [] s
  disjoint : RecordsDisjoint s
  lists : ∀ p : Proj, s.cues.lists[p] = []
  loose : Loose rec.a s
  tailout : rec.state = .tailout
  estop : s.estop = false

namespace TailHeld
variable {r : Rec} {rec : Record} {s : State}

theorem ne (h : TailHeld r rec s) : rec.a ≠ rec.b := (h.disjoint r r rec rec h.stands.entry h.stands.entry).1

/-- The incoming projector of a record in TAILOUT is free of records that end with it. -/
theorem freed (h : TailHeld r rec s) : Freed rec.b s := by
  intro x old hold
  refine ⟨fun ha => ?_, fun hb => ?_⟩
  · obtain ⟨-, heq⟩ := h.disjoint.eq_of_shared h.stands.entry hold (.inr rfl) (.inl ha)
    rw [← heq] at ha
    exact h.ne ha
  · rw [← (h.disjoint.eq_of_shared h.stands.entry hold (.inr rfl) (.inr hb)).2]
    exact h.tailout

theorem asOutgoing (h : TailHeld r rec s) : s.asOutgoing rec.a = some r := by
  cases hout : s.asOutgoing rec.a with
  | none => exact absurd rfl (of_decide_eq_false (findRec_none hout h.stands.entry))
  | some x =>
    obtain ⟨old, hold, ha⟩ := asOutgoing_some hout
    rw [(h.disjoint.eq_of_shared h.stands.entry hold (.inl rfl) (.inl ha)).1]

/-- Every block but its outgoing projector's tracker leaves a record in TAILOUT. -/
theorem step (h : TailHeld r rec s) {x : Part} (hx : Part.isBlock x = true) (ha : x ≠ .tracker rec.a) :
    TailHeld r rec (s.partReact x) := by
  obtain ⟨S, P, hany, -⟩ := block_any s hx
  refine ⟨?_, block_recordsDisjoint s hx h.disjoint, fun p => block_list_nil s hx (h.lists p), h.loose.of_kept (partReact_kept s x),
    h.tailout, hany.estop.trans h.estop⟩
  cases x with
  | tracker p =>
    have hpa : rec.a ≠ p := fun hp => ha (congrArg Part.tracker hp.symm)
    by_cases hp : rec.b = p
    · subst hp
      exact h.stands.hushed (trackerReact_hushed s rec.b (h.lists _) fun x old hold hoa => absurd hoa (h.freed x old hold).1).1
    · exact h.stands.within (trackerReact_within s p) fun ht => ht.elim hpa hp
  | channel p =>
    by_cases hpa : rec.a = p
    · subst hpa
      exact h.stands.hushed (channelReact_hushed s rec.a h.loose.inputFaults).1
    · by_cases hp : rec.b = p
      · subst hp
        exact h.stands.within (channelReact_of_freed s rec.b h.freed) fun ht => ht.elim id id
      · exact h.stands.within (channelReact_within s p) fun ht => ht.elim hpa hp
  | islands =>
    refine h.stands.within (islandsReact_within (R := fun q => q ≠ rec.a ∧ q ≠ rec.b) s fun i hd x old hc hold hlive => .inl ?_) ?_
    · refine ⟨fun hoa => hlive ?_, fun hob => hlive ?_⟩
      · rw [← (h.disjoint.eq_of_shared h.stands.entry hold (.inl rfl) (.inl hoa)).2]
        exact h.tailout
      · rw [← (h.disjoint.eq_of_shared h.stands.entry hold (.inr rfl) (.inl hob)).2]
        exact h.tailout
    · exact fun ht => ht.elim (fun h => h.1 rfl) fun h => h.2 rfl
  | _ => cases hx

end TailHeld

/-! ### The stop point (R157) -/

/-- The ending of a record withdraws its request. -/
theorem endRecord_slot (s : State) (r : Rec) (res : Result) {rec : Record} (h : s.eng.records[r] = some rec) :
    (s.endRecord r res).take.slots[r] = none := by
  have hn := post_notified ((s.withdraw r).releaseClaim r) (.change (rec.notice r (rec.endResult res) s.field)) (fun _ => rfl)
  unfold State.endRecord
  rw [h]
  show (State.post _ _).take.slots[r] = none
  rw [hn.take]
  exact getElem_set_same _ _ _

/-- A STOP adds notices and takes none away. -/
theorem giveStop_queue (s : State) (p : Proj) {n : Notice} (h : n ∈ s.line.queue) : n ∈ (s.giveStop p).line.queue := by
  have hpost : ∀ (w : State) (x : Notice), n ∈ w.line.queue → n ∈ (w.post x).line.queue := by
    intro w x hw
    unfold State.post
    split
    · exact List.mem_append_left _ hw
    · rw [passNoticeLost_queue]
      exact hw
  have hend : ∀ (w : State) (r : Rec) (res : Result), n ∈ w.line.queue → n ∈ (w.endRecord r res).line.queue := by
    intro w r res hw
    unfold State.endRecord
    split
    · exact hw
    · exact hpost _ _ hw
  unfold State.giveStop State.requestStop
  split
  · exact h
  · obtain ⟨w, hw, heq, -⟩ := doStop_handedOn s p
    show n ∈ (s.doStop p).line.queue
    rw [hw]
    have hwq : n ∈ w.line.queue := by
      rw [heq]
      exact h
    unfold State.engineStop
    split
    · exact hend w _ _ hwq
    · split
      · exact hwq
      · split
        · exact hwq
        · exact hend w _ _ hwq

/-- What the tracker of a record's outgoing projector in TAILOUT makes of a frame advance. -/
structure TailReached (r : Rec) (rec : Record) (x : Nat) (f : Int) (s t : State) : Prop where
  frame : t.tr[rec.a].frame = f
  short : f < (rec.p : Int) + x → RecStands r rec [] t ∧ t.ch = s.ch ∧ t.tr[rec.a].lock = .locked
  ended : (rec.p : Int) + x ≤ f → t.eng.records[r] = none ∧ t.take.slots[r] = none ∧ Stopped rec.a t
  notice : (rec.p : Int) + x ≤ f → ∀ res, rec.result = some res → s.line.queue.length ≤ 13 →
    changeNotice r rec res s.field ∈ t.line.queue

theorem tailoutOf_reached {r : Rec} {rec : Record} {x : Nat} {f : Int} {s w : State} (h : TailHeld r rec s) (hx : rec.tailOut = some x)
    (hrun : s.ch[rec.a].running = true) (hch : w.ch = s.ch) (heng : w.eng = s.eng) (hest : w.estop = s.estop) (hfield : w.field = s.field)
    (hframe : w.tr[rec.a].frame = f) (hlock : w.tr[rec.a].lock = .locked) (hq : w.line.queue.length ≤ s.line.queue.length + 2) :
    TailReached r rec x f s (w.tailoutOf rec.a) := by
  have hrec : w.eng.records[r] = some rec := by rw [heng]; exact h.stands.entry
  have hout : w.asOutgoing rec.a = some r := by
    have := h.asOutgoing
    unfold State.asOutgoing State.findRec at this ⊢
    rw [heng]
    exact this
  have hres : rec.endResult (rec.result.getD .onTime) = rec.result.getD .onTime := by
    unfold Record.endResult
    cases rec.result with
    | none => exact ite_self _
    | some res => exact ite_self _
  have htail : w.tailoutOf rec.a = if (rec.p : Int) + x ≤ f then (w.endRecord r (rec.result.getD .onTime)).giveStop rec.a else w := by
    unfold State.tailoutOf State.tailoutTest
    simp only [hout, hrec, hx, h.tailout, hframe, true_and]
  rw [htail]
  by_cases hp : (rec.p : Int) + x ≤ f
  · rw [if_pos hp]
    let v := w.endRecord r (rec.result.getD .onTime)
    have he : EngineOnly w v := endRecord_engineOnly w r _
    have hvrun : v.ch[rec.a].running = true := by
      rw [he.ch, hch]
      exact hrun
    have hvest : v.estop = false := by rw [he.estop, hest, h.estop]
    obtain ⟨hstop, -, -, -, -, hfr, -⟩ := giveStop_stopped v rec.a hvest (.inl hvrun)
    have holds := (giveStop_steady (S := .of rec.a) v (of_has rec.a)).olds not_false
    refine ⟨?_, fun hlt => absurd hp (by omega), fun _ => ⟨?_, holds.2.2 r (endRecord_slot w r _ hrec), hstop⟩, fun _ res hr hlen => ?_⟩
    · rw [hfr, he.tr, hframe]
    · cases hnone : (v.giveStop rec.a).eng.records[r] with
      | none => rfl
      | some new =>
        obtain ⟨old, hold, -⟩ := holds.2.1 r new hnone
        have hfree : v.eng.records[r] = none := endRecord_free w r _
        rw [hfree] at hold
        cases hold
    · refine giveStop_queue v rec.a ?_
      have hv : v = _ := endRecord_of_room w r _ rec hrec (by omega)
      rw [hv]
      refine List.mem_append_right _ (List.mem_singleton.2 ?_)
      rw [hres, hr, hfield]
      rfl
  · rw [if_neg hp]
    exact ⟨hframe, fun _ => ⟨⟨hrec, nofun⟩, hch, hlock⟩, fun h' => absurd h' hp, fun h' => absurd h' hp⟩

/-- The outgoing projector's tracker at the boundary of a frame advance (R55, R157). -/
theorem trackerReact_tailReached {r : Rec} {rec : Record} {x : Nat} {q : Pos} {n : Field} {s : State} (h : TailHeld r rec s)
    (hx : rec.tailOut = some x) (hfield : s.field = n) (hadv : Advances s rec.a n q) :
    TailReached r rec x (q.f + 1) s (s.trackerReact rec.a) := by
  obtain ⟨hno, hrun, hu, heq⟩ := trackerReact_of_advances hadv hfield
  obtain ⟨w, hw, htail, -⟩ := frameAdvanced_of_empty (s.stepped rec.a q.advance) rec.a (h.lists rec.a)
  have htr : (s.stepped rec.a q.advance).tr[rec.a] = { s.tr[rec.a] with pos := some q.advance, frame := q.advance.f } :=
    getElem_set_same _ _ _
  have hload := hw.load
  have hlen : w.line.queue.length ≤ s.line.queue.length + 2 := by
    have hl : (s.stepped rec.a q.advance).load rec.a ≤ s.line.queue.length + 1 := by
      show s.line.queue.length + _ ≤ _
      split <;> omega
    unfold State.load at hload hl
    omega
  have hreached := tailoutOf_reached (f := q.f + 1) h hx hrun (by rw [hw.eq]; rfl) (by rw [hw.eq]; rfl) (by rw [hw.eq]; rfl)
    (by rw [hw.eq]; rfl) (by rw [hw.tr]; exact hu) (by rw [hw.tr, htr]; exact hadv.1) hlen
  rw [heq, ahead_of_empty s rec.a (h.lists rec.a), htail]
  generalize w.tailoutOf rec.a = t at hreached
  obtain ⟨h1, h2, h3, h4⟩ := hreached
  exact ⟨h1, fun hp => ⟨⟨(h2 hp).1.entry, nofun⟩, (h2 hp).2⟩, fun hp => (h3 hp).imp_right fun hs => hs.imp_right fun hs => hs.wait _, h4⟩

end Sys2Proof.Machine
end

section
/-! The stop point of a tail-out at a boundary (R157). -/

namespace Sys2Proof.Machine
open Sys2Proof.Claims

/-! ### Reactions that post nothing -/

/-- An island whose reading raises no event: its mirror does not drift and its tally does not turn (R85, R98). -/
def Lulled (s : State) (i : Isl) : Prop :=
  s.isl[i].drifting s.pins.isl[i].mpos = false ∧ s.isl[i].tallyTurns s.pins.isl[i].tly = false

theorem islandStep_line (s : State) (i : Isl) (h : Lulled s i) :
    (s.islandStep i).line = s.line ∧ (s.islandStep i).pins = s.pins ∧ ∀ j : Isl, j ≠ i → (s.islandStep i).isl[j] = s.isl[j] := by
  have hread : s.mirrorRead i = s.updIsl i (fun u => u.read s.pins.isl[i].mpos) := by
    unfold State.mirrorRead
    rw [h.1]
    rfl
  let w := s.readMirror i
  have hw : w = (s.updIsl i (fun u => u.read s.pins.isl[i].mpos)).wait (mirrorDues i s.isl[i] s.pins.isl[i].mpos s.field) := by
    show s.readMirror i = _
    rw [readMirror_eq, hread]
  have htally : w.isl[i].tally = s.isl[i].tally := by
    have hi : ((s.updIsl i (fun u => u.read s.pins.isl[i].mpos)).wait (mirrorDues i s.isl[i] s.pins.isl[i].mpos s.field)).isl[i]
        = s.isl[i].read s.pins.isl[i].mpos := getElem_set_same _ _ _
    rw [hw, hi]
    rfl
  have hpins : w.pins = s.pins := by rw [hw]; rfl
  have hturn : w.isl[i].tallyTurns w.pins.isl[i].tly = false := by
    have := h.2
    unfold Island.tallyTurns at this ⊢
    rw [htally, hpins]
    exact this
  have hstep : s.islandStep i = w.updIsl i (fun u => { u with tally := some w.pins.isl[i].tly }) := by
    show w.readTally i = _
    rw [readTally_eq, hturn]
    rfl
  rw [hstep]
  refine ⟨?_, hpins, fun j hj => (getElem_set_other _ _ hj).trans ?_⟩
  · show w.line = s.line
    rw [hw]
    rfl
  · rw [hw]
    exact getElem_set_other _ _ hj

theorem islandsReact_line (s : State) (h : ∀ i, Lulled s i) : (s.partReact .islands).line = s.line := by
  have hread : s.islandsRead.line = s.line := (foldl_along (f := State.islandStep) (l := allIsl) (done := []) (s := s)
    (I := fun done w => w.line = s.line ∧ w.pins = s.pins ∧ ∀ i ∉ done, w.isl[i] = s.isl[i]) (fun done w i hi hw => ?_) (by decide)
    ⟨rfl, rfl, fun _ _ => rfl⟩).1
  · rw [partReact_islands]
    generalize s.islandsRead = w at hread
    exact hread
  · obtain ⟨hl, hp, hrest⟩ := hw
    obtain ⟨h1, h2, h3⟩ := islandStep_line w i (by
      unfold Lulled
      rw [hrest i hi, hp]
      exact h i)
    refine ⟨h1.trans hl, h2.trans hp, fun j hj => ?_⟩
    simp only [List.mem_append, List.mem_singleton, not_or] at hj
    rw [h3 j hj.2, hrest j hj.1]

/-- A boundary at which one film alone makes an advance, some of the blocks yet to react. -/
structure Lull (a : Proj) (rest : List Part) (s : State) : Prop where
  unlocked : ∀ p : Proj, p ≠ a → s.tr[p].lock ≠ .locked
  loose : ∀ p, Loose p s
  isles : .islands ∈ rest → ∀ i, Lulled s i

theorem Lull.line {a : Proj} {rest : List Part} {s : State} {x : Part} (h : Lull a (x :: rest) s) (hx : Part.isBlock x = true)
    (ha : x ≠ .tracker a) : (s.partReact x).line = s.line := by
  cases x with
  | tracker p =>
    show (s.trackerReact p).line = s.line
    rw [trackerReact_eq, tracked_of_not_locked s p (h.unlocked p fun hp => ha (congrArg Part.tracker hp))]
    rfl
  | channel p =>
    show (s.channelReact p).line = s.line
    rw [channelReact_of_none s p (h.loose p).inputFaults]
    rfl
  | islands => exact islandsReact_line s (h.isles List.mem_cons_self)
  | _ => cases hx

theorem Lull.step {a : Proj} {rest : List Part} {s : State} {x : Part} (h : Lull a (x :: rest) s) (hx : Part.isBlock x = true)
    (hr : x ∉ rest) : Lull a rest (s.partReact x) := by
  refine ⟨fun p hp => ?_, fun p => (h.loose p).of_kept (partReact_kept s x), fun hi i => ?_⟩
  · have htr : (s.partReact x).tr[p] = s.tr[p] := by
      cases x with
      | tracker q =>
        by_cases hq : p = q
        · subst hq
          exact congrArg (fun v : Vector Tracker 8 => v[p]) (trackerReact_tr_of_not_locked s p (h.unlocked p hp))
        · exact ((trackerReact_within s q).films p hq).2.1
      | channel q => exact congrArg (fun v : Vector Tracker 8 => v[p]) (channelReact_hushed s q (h.loose q).inputFaults).2.1
      | islands =>
        have hw := islandsReact_within (R := fun _ => True) s fun _ _ _ _ _ _ _ => .inl trivial
        exact (hw.films p not_false).2.1
      | _ => cases hx
    rw [htr]
    exact h.unlocked p hp
  · obtain ⟨hd, ht⟩ := h.isles (List.mem_cons_of_mem x hi) i
    obtain ⟨p, -, hw⟩ := block_within s hx fun hxi => hr (hxi ▸ hi)
    refine ⟨drifting_within hw hd, ?_⟩
    unfold Island.tallyTurns at ht ⊢
    rw [hw.pins, show (s.partReact x).isl[i].tally = s.isl[i].tally by rw [hw.isl i not_false]]
    exact ht

/-! ### The clauses -/

section Clauses
variable {z y : State} {n : Field} {inSync : Bool} (h : Begun z y n inSync) {o : BoundaryOrder} (ho : MovesBlocksAlone o)
include h

/-- A record in TAILOUT on empty lists as the reactions begin. -/
theorem Begun.tailHeld {r : Rec} {rec : Record} (hd : RecordsDisjoint z) (hest : z.estop = false) (hl : ∀ p : Proj, z.cues.lists[p] = [])
    (hrec : z.eng.records[r] = some rec) (ht : rec.state = .tailout) (hu : Undisturbed z rec.a) : TailHeld r rec y := by
  refine ⟨⟨by rw [h.eng]; exact hrec, nofun⟩, ?_, fun p => by rw [h.cues]; exact hl p, h.loose hu.2.1 hu.2.2, ht,
    by rw [h.estop]; exact hest⟩
  unfold RecordsDisjoint
  rw [h.eng]
  exact hd

/-- The film of a LOCKED tracker as the reactions before its own leave it. -/
theorem Begun.advances {p : Proj} {q : Pos} (hadv : Advances z p n q) {s : State} (hb : Beside p y s) : Advances s p n q := by
  have htr : s.tr[p] = z.tr[p] := hb.tr.trans (congrArg (fun v : Vector Tracker 8 => v[p]) h.tr)
  have hch : s.ch[p].state = z.ch[p].state := hb.state.trans (congrArg (fun v : Vector Channel 8 => v[p].state) h.ch)
  unfold Advances
  rw [htr, hch]
  exact hadv

include ho

/-- The CHANGE notice of a tail-out's end stays in the queue of a boundary at which nothing else happens (R150, R151, R157). -/
theorem react_notice {r : Rec} {rec : Record} {x : Nat} {q : Pos} (hheld : TailHeld r rec y) (hx : rec.tailOut = some x)
    (hadv : Advances z rec.a n q) (hp : (rec.p : Int) + x ≤ q.f + 1) {res : Result} (hres : rec.result = some res)
    (hq : z.line.queue.length ≤ 12) (hu : ∀ p : Proj, Undisturbed z p) (hlock : ∀ p : Proj, p ≠ rec.a → z.tr[p].lock ≠ .locked)
    (hdrift : ∀ i : Isl, ¬Drifts z i) (htally : ∀ i : Isl, z.isl[i].tally ≠ some (!z.pins.isl[i].tly)) :
    changeNotice r rec res n ∈ (y.react o).line.queue := by
  obtain ⟨l, hnodup, hmem, hl⟩ := react_eq_blocks ho
  let Before (s : State) : Prop := TailHeld r rec s ∧ Beside rec.a y s ∧ s.line = y.line
  let After (s : State) : Prop := (∀ p : Proj, s.cues.lists[p] = []) ∧ changeNotice r rec res n ∈ s.line.queue
  let I (rest : List Part) (s : State) : Prop :=
    rest.Nodup ∧ (∀ x ∈ rest, Part.isBlock x = true) ∧ Lull rec.a rest s
      ∧ (.tracker rec.a ∈ rest → Before s) ∧ (.tracker rec.a ∉ rest → After s)
  have hstep : ∀ x rest s, I (x :: rest) s → I rest (s.partReact x) := by
    rintro x rest s ⟨hnd, hblock, hlull, hbefore, hafter⟩
    obtain ⟨hxr, hnd'⟩ := List.nodup_cons.1 hnd
    have hxb := hblock x List.mem_cons_self
    refine ⟨hnd', fun w hw => hblock w (List.mem_cons_of_mem x hw), hlull.step hxb hxr, fun ha => ?_, fun ha => ?_⟩
    · have hxa : x ≠ .tracker rec.a := fun hxa => hxr (hxa ▸ ha)
      obtain ⟨h1, h2, h3⟩ := hbefore (List.mem_cons_of_mem x ha)
      exact ⟨h1.step hxb hxa, h2.trans (block_beside s hxb hxa h1.loose), (hlull.line hxb hxa).trans h3⟩
    · by_cases hxa : x = .tracker rec.a
      · subst hxa
        obtain ⟨h1, h2, h3⟩ := hbefore List.mem_cons_self
        have hfield : s.field = n := h2.kept.field.trans h.field
        have hreached := trackerReact_tailReached h1 hx hfield (h.advances hadv h2)
        refine ⟨fun p => block_list_nil s hxb (h1.lists p), ?_⟩
        have hn := hreached.notice hp res hres (by
          have := h.queue
          rw [h3]
          omega)
        rw [hfield] at hn
        exact hn
      · obtain ⟨h1, h2⟩ := hafter fun ha' => (List.mem_cons.1 ha').elim (fun he => hxa he.symm) ha
        exact ⟨fun p => block_list_nil s hxb (h1 p), by rw [hlull.line hxb hxa]; exact h2⟩
  have hall : .tracker rec.a ∈ l := (hmem _).2 rfl
  have hfirst : I l y := by
    refine ⟨hnodup, fun x hx => (hmem x).1 hx, ⟨fun p hpa => ?_, fun p => h.loose (hu p).2.1 (hu p).2.2, fun _ i => ⟨h.not_drifting (hdrift i), ?_⟩⟩,
      fun _ => ⟨hheld, Beside.refl y, rfl⟩, fun hn => absurd hall hn⟩
    · rw [h.tr]
      exact hlock p hpa
    · unfold Island.tallyTurns
      rw [h.islTally, h.pins]
      exact decide_eq_false (htally i)
  obtain ⟨-, -, -, -, hend⟩ := foldl_rest hstep hfirst
  obtain ⟨hlists, hn⟩ := hend List.not_mem_nil
  have harmed : (l.foldl State.partReact y).armed = l.foldl State.partReact y := by
    refine foldl_inv (I := fun s => s = l.foldl State.partReact y) (fun s a _ hs => ?_) rfl
    subst hs
    exact armAttempt_of_no_change _ a (by rw [hlists a]; exact nofun)
  rw [hl, harmed]
  obtain ⟨slots, ds, heq, -⟩ := takesReact_eq (l.foldl State.partReact y)
  rw [heq]
  exact hn

/-- A record of the table ended, its request withdrawn, on empty lists. -/
structure EndedForGood (r : Rec) (s : State) : Prop where
  record : s.eng.records[r] = none
  slot : s.take.slots[r] = none
  lists : ∀ p : Proj, s.cues.lists[p] = []

omit h ho in
theorem EndedForGood.block {r : Rec} {s : State} (h : EndedForGood r s) {x : Part} (hx : Part.isBlock x = true) :
    EndedForGood r (s.partReact x) := by
  obtain ⟨S, P, hw, hS⟩ := block_any s hx
  refine ⟨?_, (hw.olds hS).2.2 r h.slot, fun p => block_list_nil s hx (h.lists p)⟩
  cases hnone : (s.partReact x).eng.records[r] with
  | none => rfl
  | some new =>
    obtain ⟨old, hold, -⟩ := (hw.olds hS).2.1 r new hnone
    rw [h.record] at hold
    cases hold

omit h ho in
theorem EndedForGood.takes {r : Rec} {s : State} (h : EndedForGood r s) : EndedForGood r s.takesReact := by
  have hslot : s.takesReact.take.slots[r] = none := by
    unfold State.takesReact
    split
    · exact h.slot
    · rw [countDeferrals_none_slots, h.slot]
      rfl
  obtain ⟨slots, ds, heq, -⟩ := takesReact_eq s
  rw [heq] at hslot ⊢
  exact ⟨h.record, hslot, h.lists⟩

/-- The stop point clauses of a boundary (R150, R157). -/
theorem boundaryStops : BoundaryStops z (y.react o) n := by
  intro r rec x q hd hest hlists hrec ht hx a hu hadv
  have hheld := h.tailHeld hd hest hlists hrec ht hu
  have hl : Loose a y := hheld.loose
  have hstep : ∀ s w, Part.isBlock w = true → w ≠ .tracker a → Beside a y s → TailHeld r rec s → TailHeld r rec (s.partReact w) :=
    fun s w hw ha _ hs => hs.step hw ha
  have hreached : ∀ s, Beside a y s → TailHeld r rec s → TailReached r rec x (q.f + 1) s (s.trackerReact a) := fun s hb hs =>
    trackerReact_tailReached hs hx (hb.kept.field.trans h.field) (h.advances hadv hb)
  obtain ⟨s, hb, hs, -, hafter⟩ := react_around_tracker ho hl (Q := TailHeld r rec) hstep hheld
  have hr := hreached s hb hs
  have hch : s.ch[a].state = z.ch[a].state := hb.state.trans (congrArg (fun v : Vector Channel 8 => v[a].state) h.ch)
  have hready : (s.trackerReact a).ch[a].state ≠ .ready := by
    by_cases hp : (rec.p : Int) + x ≤ q.f + 1
    · rw [(hr.ended hp).2.2.state]
      exact nofun
    · have hstate : (s.trackerReact a).ch[a].state = z.ch[a].state :=
        (congrArg (fun v : Vector Channel 8 => v[a].state) (hr.short (by omega)).2.1).trans hch
      rw [hstate]
      rcases hadv.2.2.2.2.2.2 with h | h <;> rw [h] <;> exact nofun
  have hnil : (s.trackerReact a).cues.lists[a] = [] := block_list_nil s (x := .tracker a) rfl (hs.lists a)
  have hbeside := hafter hready (.inr (by rw [hnil]; exact nofun))
  refine ⟨by rw [hbeside.tr]; exact hr.frame, fun hp => ?_, fun hp => ?_⟩
  · obtain ⟨-, hstate, hlock⟩ := hr.short hp
    refine ⟨?_, ?_, by rw [hbeside.tr]; exact hlock⟩
    · have hstands : ∀ w, TailHeld r rec w → Beside a y w → TailHeld r rec (w.trackerReact a) := fun w hw hbw => by
        have hsh := (hreached w hbw hw).short hp
        have hwithin := trackerReact_within w a
        exact ⟨hsh.1, recordsDisjoint_within hw.disjoint hwithin not_false, fun p => block_list_nil w (x := .tracker a) rfl (hw.lists p),
          hw.loose.of_kept (partReact_kept w (.tracker a)), ht, hwithin.estop.trans hw.estop⟩
      have hfinal : RecStands r rec [] (y.react o) := by
        refine react_at ho (x := .tracker a) rfl (I := fun w => Beside a y w ∧ TailHeld r rec w) (J := TailHeld r rec) (K := RecStands r rec [])
          (fun w v hv ha hw => ⟨hw.1.trans (block_beside w hv ha hw.2.loose), hw.2.step hv ha⟩) (fun w hw => hstands w hw.2 hw.1)
          (fun w v hv ha hw => hw.step hv ha) (fun w hw => hw.stands) (fun w b hw => hw.arming b) (fun w hw => hw.takes)
          ⟨Beside.refl y, hheld⟩
      exact hfinal.entry
    · rw [hbeside.state]
      exact (congrArg (fun v : Vector Channel 8 => v[a].state) hstate).trans hch
  · obtain ⟨hc1, hc2, hc3, hc4, hc5⟩ := hbeside.stopped (hr.ended hp).2.2
    have hended : EndedForGood r (y.react o) := by
      refine react_from_tracker ho hl (Q := TailHeld r rec) hstep hheld (fun w hbw hw => ?_) (fun w v hv _ hw => hw.block hv)
        (fun w b hw => ?_) (fun w hw => hw.takes)
      · obtain ⟨h1, h2, -⟩ := (hreached w hbw hw).ended hp
        exact ⟨h1, h2, fun p => block_list_nil w (x := .tracker a) rfl (hw.lists p)⟩
      · rw [armAttempt_of_no_change w b (by rw [hw.lists b]; exact nofun)]
        exact hw
    exact ⟨hended.record, hended.slot, hc1, hc2, hc3, hc4, hc5, fun res hres hq hall hlock hdrift htally =>
      react_notice h ho hheld hx hadv hp hres hq hall hlock hdrift htally⟩

end Clauses

end Sys2Proof.Machine
end

section
/-! The timebase's events that make a boundary (R3 to R8). -/

namespace Sys2Proof.Machine
open Sys2Proof.Claims

/-! ### What a boundary makes of the blocks -/

/-- The reactions to a boundary make of the blocks what the boundary's clauses say. -/
theorem boundaryMakes {z y : State} {n : Field} {inSync : Bool} (h : Begun z y n inSync) (o : BoundaryOrder) :
    BoundaryMakes z (y.react o) n inSync o :=
  ⟨boundaryReads h o, boundaryShows h, fun ho => ⟨boundaryMirrors h ho, boundaryChannels h ho, boundaryTrackers h ho, boundaryTakes h ho,
    boundaryReaches h ho, boundaryStops h ho⟩⟩

/-! ### What a boundary leaves alone -/

/-- What no reaction of the blocks touches. -/
structure Framed (s t : State) : Prop where
  now : t.now = s.now
  pins : t.pins = s.pins
  resetHeld : t.resetHeld = s.resetHeld
  estop : t.estop = s.estop
  pending : t.pending = s.pending
  line : ({ t.line with queue := s.line.queue, discarded := s.line.discarded } : Line) = s.line

namespace Framed
variable {s t u : State}

theorem refl (s : State) : Framed s s := ⟨rfl, rfl, rfl, rfl, rfl, rfl⟩

theorem trans (h : Framed s t) (k : Framed t u) : Framed s u where
  now := k.now.trans h.now
  pins := k.pins.trans h.pins
  resetHeld := k.resetHeld.trans h.resetHeld
  estop := k.estop.trans h.estop
  pending := k.pending.trans h.pending
  line := by
    have hk := congrArg (fun l : Line => ({ l with queue := s.line.queue, discarded := s.line.discarded } : Line)) k.line
    exact hk.trans h.line

theorem keeps (h : Framed s t) (hs : SameSettings s t) : BoundaryKeeps s t :=
  ⟨hs, h.resetHeld, h.estop, h.pins, h.pending, h.now, h.line⟩

end Framed

theorem Steady.framed {S : Scope} {s t : State} (h : Steady S s t) : Framed s t :=
  ⟨h.now, h.pins, h.resetHeld, h.estop, h.pending, h.line⟩

theorem Notified.framed {s t : State} (h : Notified s t) : Framed s t :=
  ⟨h.now, h.pins, h.resetHeld, h.estop, h.pending, by rw [h.eq]⟩

/-- An island's reading touches the blocks alone. -/
theorem islandStep_framed (s : State) (i : Isl) : Framed s (s.islandStep i) := by
  have hread : Framed s (s.mirrorRead i) := by
    have h0 : Framed s (s.updIsl i (fun u => u.read s.pins.isl[i].mpos)) := ⟨rfl, rfl, rfl, rfl, rfl, rfl⟩
    unfold State.mirrorRead
    simp only
    split
    · exact h0.trans (raiseMismatch_steady (S := .any) _ i any_open).framed
    · exact h0
  have hwait : Framed (s.mirrorRead i) (s.readMirror i) := by
    rw [readMirror_eq]
    exact ⟨rfl, rfl, rfl, rfl, rfl, rfl⟩
  have htally : Framed (s.readMirror i) (s.islandStep i) := by
    show Framed _ ((s.readMirror i).readTally i)
    rw [readTally_eq]
    refine Framed.trans ?_ (passIf_notified _ _ _).framed
    exact ⟨rfl, rfl, rfl, rfl, rfl, rfl⟩
  exact (hread.trans hwait).trans htally

theorem partReact_framed (s : State) (x : Part) : Framed s (s.partReact x) := by
  by_cases hx : x = .islands
  · subst hx
    have h : Framed s s.islandsRead := foldl_inv (f := State.islandStep) (l := allIsl) (I := Framed s)
      (fun w i _ hw => hw.trans (islandStep_framed w i)) (Framed.refl s)
    rw [partReact_islands]
    generalize s.islandsRead = w at h
    exact h.trans ⟨rfl, rfl, rfl, rfl, rfl, rfl⟩
  · have hprimed : Framed s (s.primed x) := by cases x <;> exact ⟨rfl, rfl, rfl, rfl, rfl, rfl⟩
    exact hprimed.trans (partReact_steady (S := .any) any_open s hx (.inl any_takes)).framed

theorem react_framed (s : State) (o : BoundaryOrder) : Framed s (s.react o) :=
  foldl_inv (I := Framed s) (fun w x _ hw => hw.trans (partReact_framed w x)) (Framed.refl s)

theorem Begun.framed {z y : State} {n : Field} {inSync : Bool} (h : Begun z y n inSync) : Framed z y := by
  rw [h.eq]
  exact ⟨rfl, rfl, rfl, rfl, rfl, rfl⟩

/-- A boundary begun in the state that settles what waits keeps the frame. -/
theorem Begun.react_framed {u y : State} {n : Field} {inSync : Bool} (h : Begun u.settle y n inSync) (o : BoundaryOrder) :
    Framed u (y.react o) :=
  ((settle_steady (S := .any) u any_open any_takes).framed.trans h.framed).trans (Machine.react_framed y o)

/-- As the field begins no event is passed yet. -/
theorem beginField_line (u : State) (b : Timebase) (inSync : Bool) : ((u.retime b).beginField inSync).line = u.settle.line := by
  rw [beginField_eq, retime_settle]
  rfl

/-! ### The state that an internal event finds -/

/-- What an arrival keeps of the inputs' state, the timebase and the line's own setting. -/
theorem arriveAt_kept (s : State) (t : Nat) (pins : Pins) : (s.arriveAt t pins).tb = s.tb ∧ (s.arriveAt t pins).estop = s.estop
    ∧ (s.arriveAt t pins).resetHeld = s.resetHeld := by
  have hpass : (s.passTo t).tb = s.tb ∧ (s.passTo t).estop = s.estop ∧ (s.passTo t).resetHeld = s.resetHeld := by
    have h := settle_steady (S := .any) s any_open any_takes
    unfold State.passTo
    split
    · exact ⟨h.tb, h.estop, h.resetHeld⟩
    · exact ⟨rfl, rfl, rfl⟩
  have h := takeFound_steady (S := .any) ((s.passTo t).readPins pins) any_open
  have hread := readPins_eq (s.passTo t) pins
  unfold State.arriveAt
  rw [h.tb, h.estop, h.resetHeld, hread]
  exact hpass

/-! ### Boundaries of the timebase's events -/

/-- The timebase of a boundary, from what its event makes of it (R8). -/
def Timebase.begun (b : Timebase) (field : Field) (now : Nat) (inSync : Bool) : Timebase :=
  { b with field := field, fieldStart := now, madeInSync := inSync }

/-- The boundary of an event that makes something of the timebase beside the field. -/
theorem boundary_retime (u : State) (b : Timebase) (inSync : Bool) (o : BoundaryOrder) :
    let t := (u.retime b).boundary inSync o
    t.tb = b.begun (u.tb.field + 1) u.now inSync ∧ Framed u t ∧ BoundaryMakes u.settle t (u.tb.field + 1) inSync o := by
  obtain ⟨hy, htb⟩ := beginField_begun u b inSync
  exact ⟨(react_kept _ o).tb.trans htb, hy.react_framed o, boundaryMakes hy o⟩

/-- The boundary of an event that passes an event of the device as the field begins (R4, R6). -/
theorem boundary_retime_pass (u : State) (b : Timebase) (inSync : Bool) (o : BoundaryOrder) (k : DevAlarm) :
    let t := (((u.retime b).beginField inSync).pass (.dev k)).react o
    t.tb = b.begun (u.tb.field + 1) u.now inSync ∧ Framed u t ∧ BoundaryMakes u.settle t (u.tb.field + 1) inSync o
      ∧ Latched t (.dev k) := by
  obtain ⟨hbegun, htb⟩ := beginField_begun u b inSync
  have hy := hbegun.pass k (Nat.le_of_eq (by rw [beginField_line]))
  exact ⟨(react_kept _ o).tb.trans ((pass_notified _ _).tb.trans htb), hy.react_framed o, boundaryMakes hy o,
    (react_kept _ o).latched _ (pass_latches _ _)⟩

/-- A pulse in SYNC (R6, R8). -/
theorem pulse_sync (u : State) (o : BoundaryOrder) (hs : u.tb.state = .sync) :
    (u.pulse o).tb = { u.tb with field := u.tb.field + 1, lastPulse := some u.now, fieldStart := u.now, madeInSync := true }
      ∧ BoundaryKeeps u (u.pulse o) ∧ BoundaryMakes u.settle (u.pulse o) (u.tb.field + 1) true o := by
  have heq : u.pulse o = (u.retime { u.tb with lastPulse := some u.now }).boundary true o := pulse_of_sync u o hs
  obtain ⟨htb, hframe, hmakes⟩ := boundary_retime u { u.tb with lastPulse := some u.now } true o
  rw [← heq] at htb hframe hmakes
  exact ⟨htb, hframe.keeps (pulse_settings u o), hmakes⟩

theorem merges_iff (b : Timebase) (now : Nat) :
    b.merges now = true ↔ ∃ l, b.lastTick = some l ∧ 2 * (now - l) < b.standard.period := by
  unfold Timebase.merges
  rw [Option.any_eq_true]
  simp only [decide_eq_true_eq]

/-- The timebase as the completing pulse brings it into SYNC (R4). -/
def Timebase.synced (b : Timebase) (now : Nat) : Timebase :=
  { b with state := .sync, runCount := 16, tick := none, lastPulse := some now }

/-- A merged pulse (R5). -/
theorem enterSync_merged (u : State) (o : BoundaryOrder) (hm : u.tb.merges u.now = true) :
    u.enterSync o = (u.retime (u.tb.synced u.now)).passIf (u.tb.state = .lost) (.dev .syncRestored) := if_pos hm

/-- An unmerged pulse from ACQUIRE (R4). -/
theorem enterSync_of_acquire (u : State) (o : BoundaryOrder) (hm : u.tb.merges u.now = false) (hl : u.tb.state ≠ .lost) :
    u.enterSync o = (u.retime (u.tb.synced u.now)).boundary true o := by
  have heq : u.enterSync o = (((u.retime (u.tb.synced u.now)).beginField true).passIf (u.tb.state = .lost) (.dev .syncRestored)).react o :=
    if_neg (by rw [hm]; exact Bool.false_ne_true)
  rw [heq, decide_eq_false hl]
  rfl

/-- An unmerged pulse from LOST (R4, R7). -/
theorem enterSync_of_lost (u : State) (o : BoundaryOrder) (hm : u.tb.merges u.now = false) (hl : u.tb.state = .lost) :
    u.enterSync o = (((u.retime (u.tb.synced u.now)).beginField true).pass (.dev .syncRestored)).react o := by
  have heq : u.enterSync o = (((u.retime (u.tb.synced u.now)).beginField true).passIf (u.tb.state = .lost) (.dev .syncRestored)).react o :=
    if_neg (by rw [hm]; exact Bool.false_ne_true)
  rw [heq, decide_eq_true hl]
  rfl

/-- An unmerged pulse is a boundary, with SYNC_RESTORED from LOST (R4, R7). -/
theorem enterSync_unmerged (u : State) (o : BoundaryOrder) (hm : u.tb.merges u.now = false) :
    let t := u.enterSync o
    t.tb = (u.tb.synced u.now).begun (u.tb.field + 1) u.now true ∧ Framed u t ∧ BoundaryMakes u.settle t (u.tb.field + 1) true o
      ∧ (u.tb.state = .lost → Latched t (.dev .syncRestored)) := by
  by_cases hl : u.tb.state = .lost
  · rw [enterSync_of_lost u o hm hl]
    obtain ⟨h1, h2, h3, h4⟩ := boundary_retime_pass u (u.tb.synced u.now) true o .syncRestored
    exact ⟨h1, h2, h3, fun _ => h4⟩
  · rw [enterSync_of_acquire u o hm hl]
    obtain ⟨h1, h2, h3⟩ := boundary_retime u (u.tb.synced u.now) true o
    exact ⟨h1, h2, h3, fun h => absurd h hl⟩

/-- The timebase as an internal boundary sets its tick going (R3). -/
def Timebase.ticking (b : Timebase) (now : Nat) : Timebase :=
  { b with tick := some (now + b.standard.period), lastTick := some now }

/-- The timebase as the loss of SYNC leaves it (R6). -/
def Timebase.unsynced (b : Timebase) (now : Nat) : Timebase := { b.ticking now with state := .lost, runCount := 0 }

theorem retime_ticking (u : State) :
    u.updTb (fun b => { b with tick := some (u.now + b.standard.period), lastTick := some u.now }) = u.retime (u.tb.ticking u.now) := rfl

theorem retime_unsynced (u : State) :
    u.updTb (fun b => { b with state := .lost, runCount := 0, tick := some (u.now + b.standard.period), lastTick := some u.now })
      = u.retime (u.tb.unsynced u.now) := rfl

/-- The internal tick (R3, R8). -/
theorem internalBoundary_of_tick (s : State) (pins : Pins) (o : BoundaryOrder) {due : Nat} (h : s.tb.tick = some due) {u : State}
    (hu : s.arriveAt due pins = u) : s.internalBoundary pins o = (u.retime (u.tb.ticking u.now)).boundary false o := by
  unfold State.internalBoundary
  simp only [h, hu, retime_ticking]

/-- The loss of SYNC (R3, R6). -/
theorem loseSync_of_sync (s : State) (pins : Pins) (o : BoundaryOrder) {l : Nat} (hs : s.tb.state = .sync) (hl : s.tb.lastPulse = some l)
    {u : State} (hu : s.arriveAt (l + 3 * s.tb.standard.period) pins = u) :
    s.loseSync pins o = (((u.retime (u.tb.unsynced u.now)).beginField false).pass (.dev .syncLost)).react o := by
  unfold State.loseSync
  simp only [hs, if_true, hl, Option.elim_some, hu, retime_unsynced]

/-- The completing pulse (R4, R5, R7). -/
theorem pulse_completing (u : State) (o : BoundaryOrder) (hs : u.tb.state ≠ .sync) (hr : runCountAfter u.tb u.now = 16) :
    let t := u.pulse o
    let merged := ∃ l, u.tb.lastTick = some l ∧ 2 * (u.now - l) < u.tb.standard.period
    t.tb.state = .sync ∧ t.tb.runCount = 16 ∧ t.tb.tick = none ∧ t.tb.lastPulse = some u.now
      ∧ (merged → t.tb.field = u.tb.field ∧ t.ch = u.ch ∧ t.tr = u.tr ∧ t.isl = u.isl ∧ t.take = u.take ∧ t.due = u.due)
      ∧ (¬merged → t.tb.field = u.tb.field + 1 ∧ BoundaryMakes u.settle t (u.tb.field + 1) true o)
      ∧ (u.tb.state = .lost → Latched t (.dev .syncRestored))
      ∧ BoundaryKeeps u t := by
  intro t merged
  have hsettings : SameSettings u t := pulse_settings u o
  have hpulse : t = u.enterSync o := pulse_of_completing u o hs hr
  clear_value t
  subst hpulse
  cases hm : u.tb.merges u.now with
  | true =>
    have hn := passIf_notified (u.retime (u.tb.synced u.now)) (u.tb.state = .lost) (.dev .syncRestored)
    have hl : u.tb.state = .lost → Latched (u.enterSync o) (.dev .syncRestored) := fun hl => by
      rw [enterSync_merged u o hm, decide_eq_true hl]
      exact pass_latches _ _
    rw [← enterSync_merged u o hm] at hn
    have htb : (u.enterSync o).tb = (u.retime (u.tb.synced u.now)).tb := hn.tb
    have hframe : Framed u (u.enterSync o) := (show Framed u (u.retime (u.tb.synced u.now)) from ⟨rfl, rfl, rfl, rfl, rfl, rfl⟩).trans hn.framed
    exact ⟨by rw [htb]; rfl, by rw [htb]; rfl, by rw [htb]; rfl, by rw [htb]; rfl,
      fun _ => ⟨by rw [htb]; rfl, hn.ch, hn.tr, hn.isl, hn.take, hn.due⟩, fun hnm => absurd ((merges_iff u.tb u.now).1 hm) hnm, hl,
      hframe.keeps hsettings⟩
  | false =>
    obtain ⟨htb, hframe, hmakes, hl⟩ := enterSync_unmerged u o hm
    have hno : ¬merged := fun h' => by
      rw [(merges_iff u.tb u.now).2 h'] at hm
      cases hm
    exact ⟨by rw [htb]; rfl, by rw [htb]; rfl, by rw [htb]; rfl, by rw [htb]; rfl, fun h' => absurd h' hno,
      fun _ => ⟨by rw [htb]; rfl, hmakes⟩, hl, hframe.keeps hsettings⟩

end Sys2Proof.Machine

section
open Sys2Proof Sys2Proof.Machine Sys2Proof.Claims

/-- Settles O7: a pulse in SYNC is the boundary whose reactions `boundaryMakes` follows, whatever their order. -/
theorem pulseInSyncIsBoundary : Obligations.PulseInSyncIsBoundary := by
  intro s m o h u hs
  exact ⟨u.pulse o, exec_fldPulse m o h, pulse_sync u o hs⟩

/-- Settles O9: the completing pulse passes SYNC_RESTORED alone when it is merged, and is a boundary in SYNC when it is not. -/
theorem sixteenthPulseEntersSync : Obligations.SixteenthPulseEntersSync := by
  intro s m o h u hs hr merged
  exact ⟨u.pulse o, exec_fldPulse m o h, pulse_completing u o hs hr⟩

/-- Settles O10: the running tick is the boundary whose reactions `boundaryMakes` follows. -/
theorem internalTickMakesBoundary : Obligations.InternalTickMakesBoundary := by
  intro s pins o h
  have hexec : exec (.internalTick pins o) s = .next (s.internalBoundary pins o) :=
    event_of_running s (fun s => s.internalBoundary pins o) h
  refine ⟨fun ht => ?_, fun due ht => ?_⟩
  · rw [hexec]
    unfold State.internalBoundary
    rw [ht]
  · intro n
    obtain ⟨hutb, huest, hureset⟩ := arriveAt_kept s due pins
    have hunow : (s.arriveAt due pins).now = n := arriveAt_now s due pins
    have hupins := arriveAt_pins s due pins
    have hsettings := internalBoundary_settings s pins o
    generalize hu : s.arriveAt due pins = u at *
    have heq := internalBoundary_of_tick s pins o ht hu
    obtain ⟨htb, hframe, hmakes⟩ := boundary_retime u (u.tb.ticking u.now) false o
    rw [← heq] at htb hframe hmakes
    refine ⟨_, hexec, ?_, hframe.now.trans hunow, hframe.pins.trans hupins, hsettings.line.1, (hframe.resetHeld.trans hureset).trans h,
      hframe.estop.trans huest, ?_⟩
    · rw [htb, hunow, hutb]
      rfl
    · rw [← hutb]
      exact hmakes

/-- Settles O11: the loss of SYNC is the boundary whose reactions `boundaryMakes` follows, SYNC_LOST passed as the field begins. -/
theorem syncLossMakesBoundary : Obligations.SyncLossMakesBoundary := by
  intro s pins o h
  have hexec : exec (.syncLost pins o) s = .next (s.loseSync pins o) := event_of_running s (fun s => s.loseSync pins o) h
  refine ⟨fun hs => ?_, fun l hs hl => ?_⟩
  · rw [hexec, show s.loseSync pins o = s from if_neg hs]
  · intro due n
    obtain ⟨hutb, huest, hureset⟩ := arriveAt_kept s due pins
    have hunow : (s.arriveAt due pins).now = n := arriveAt_now s due pins
    have hupins := arriveAt_pins s due pins
    have hsettings := loseSync_settings s pins o
    generalize hu : s.arriveAt due pins = u at *
    have heq := loseSync_of_sync s pins o hs hl hu
    obtain ⟨htb, hframe, hmakes, hlatch⟩ := boundary_retime_pass u (u.tb.unsynced u.now) false o .syncLost
    rw [← heq] at htb hframe hmakes hlatch
    refine ⟨_, hexec, ?_, hlatch, hframe.now.trans hunow, hframe.pins.trans hupins, hsettings.line.1,
      (hframe.resetHeld.trans hureset).trans h, hframe.estop.trans huest, ?_⟩
    · rw [htb, hunow, hutb]
      rfl
    · rw [← hutb]
      exact hmakes

end
end

section
/-! What keeps a channel's outputs, timers, cause and run-up record those of its state (R15, R17, R33, R35): the transitions of one channel. -/

namespace Sys2Proof.Machine

/-- The outputs of one channel are those of its state, and all off in FAULT with cause ESTOP while the line is asserted. -/
structure Channel.Sound (estop : Bool) (c : Channel) : Prop where
  follows : c.Follows
  held : estop = true → c.state = .fault ∧ c.cause = .estop ∧ c.motor = false ∧ c.lamp = false ∧ c.douse = false
    ∧ c.inchF = false ∧ c.inchR = false

namespace Channel

variable {e : Bool} {c : Channel}

/-- A channel that follows its state and is out of FAULT is not under the ESTOP line. -/
theorem Sound.line (h : c.Sound e) (hs : c.state ≠ .fault) : e = false := by
  cases e with
  | false => rfl
  | true => exact absurd (h.held rfl).1 hs

theorem Follows.sound (h : c.Follows) (he : e = false) : c.Sound e :=
  ⟨h, fun h' => absurd h' (by simp [he])⟩

/-- What a channel shows of itself stays: its state, cause and outputs, and whether a timer and a run-up record are there. -/
structure Alike (c d : Channel) : Prop where
  state : d.state = c.state
  cause : d.cause = c.cause
  motor : d.motor = c.motor
  lamp : d.lamp = c.lamp
  douse : d.douse = c.douse
  inchF : d.inchF = c.inchF
  inchR : d.inchR = c.inchR
  douseHeld : d.douseHeld = c.douseHeld
  strike : d.strike.isSome = c.strike.isSome
  runup : d.runup.isSome = c.runup.isSome
  record : d.record.isSome = c.record.isSome

theorem Sound.alike {d : Channel} (h : c.Sound e) (k : c.Alike d) : d.Sound e := by
  obtain ⟨hstate, hcause, hmotor, hlamp, hdouse, hinchF, hinchR, hheld, hstrike, hrunup, hrecord⟩ := k
  obtain ⟨hf, hheld'⟩ := h
  refine ⟨?_, ?_⟩
  · constructor <;> simp only [Channel.running, hstate, hcause, hmotor, hlamp, hdouse, hinchF, hinchR, hheld, hstrike, hrunup, hrecord]
    exacts [hf.motor, hf.douse, hf.inch, hf.oneInch, hf.lampOff, hf.lampOn, hf.cause, hf.strikeTimer, hf.runupTimer, hf.record]
  · rw [hstate, hcause, hmotor, hlamp, hdouse, hinchF, hinchR]
    exact hheld'

/-! ### The transitions out of each state (R21 to R31, R42) -/

theorem Follows.strikeLamp (h : c.Follows) (hs : c.state = .dark) (n : Field) : (c.strikeLamp n).Follows := by
  obtain ⟨hmotor, hdouse, hinch, hone, hoff, hon, hcause, hstrike, hrunup, hrecord⟩ := h
  constructor <;> simp_all [Channel.strikeLamp, Channel.running]

/-- The end of a strike with the lamp lit (R22). -/
def struck (c : Channel) : Channel := { c with state := .ready, strike := none, lampFails := 0 }

theorem Follows.struck (h : c.Follows) (hs : c.state = .strike) : c.struck.Follows := by
  obtain ⟨hmotor, hdouse, hinch, hone, hoff, hon, hcause, hstrike, hrunup, hrecord⟩ := h
  constructor <;> simp_all [Channel.struck, Channel.running]

theorem Follows.darken (h : c.Follows) (hs : c.state = .strike ∨ c.state = .ready) : c.darken.Follows := by
  obtain ⟨hmotor, hdouse, hinch, hone, hoff, hon, hcause, hstrike, hrunup, hrecord⟩ := h
  rcases hs with hs | hs <;> constructor <;> simp_all [Channel.darken, Channel.running]

theorem Follows.beginRunup (h : c.Follows) (hs : c.state = .ready) (n : Field) (frame : Int) : (c.beginRunup n frame).Follows := by
  obtain ⟨hmotor, hdouse, hinch, hone, hoff, hon, hcause, hstrike, hrunup, hrecord⟩ := h
  constructor <;> simp_all [Channel.beginRunup, Channel.running]

theorem Follows.toRun (h : c.Follows) (hs : c.state = .runup) (n : Field) (frame : Int) : (c.toRun n frame).Follows := by
  obtain ⟨hmotor, hdouse, hinch, hone, hoff, hon, hcause, hstrike, hrunup, hrecord⟩ := h
  constructor <;> simp_all [Channel.toRun, Channel.running]

theorem Follows.backToRunup (h : c.Follows) (hs : c.state = .run) (n : Field) : (c.backToRunup n).Follows := by
  obtain ⟨hmotor, hdouse, hinch, hone, hoff, hon, hcause, hstrike, hrunup, hrecord⟩ := h
  constructor <;> simp_all [Channel.backToRunup, Channel.running]

/-- A channel that runs or inches is in no other state. -/
theorem moving_iff (c : Channel) : c.running = true ∨ c.state = .inch ↔ c.state = .runup ∨ c.state = .run ∨ c.state = .inch := by
  simp [Channel.running, or_assoc]

theorem Follows.toCoast (h : c.Follows) (hs : c.running = true ∨ c.state = .inch) : c.toCoast.Follows := by
  obtain ⟨hmotor, hdouse, hinch, hone, hoff, hon, hcause, hstrike, hrunup, hrecord⟩ := h
  rw [moving_iff] at hs
  rcases hs with hs | hs | hs <;> constructor <;> simp_all [Channel.toCoast, Channel.quiesce, Channel.endRun, Channel.running]

theorem Follows.toInch (h : c.Follows) (hs : c.state = .dark ∨ c.state = .ready) (forward : Bool) : (c.toInch forward).Follows := by
  obtain ⟨hmotor, hdouse, hinch, hone, hoff, hon, hcause, hstrike, hrunup, hrecord⟩ := h
  rcases hs with hs | hs <;> constructor <;> simp_all [Channel.toInch, Channel.running]

theorem Follows.endCoast (h : c.Follows) (hs : c.state = .coast) : c.endCoast.Follows := by
  obtain ⟨hmotor, hdouse, hinch, hone, hoff, hon, hcause, hstrike, hrunup, hrecord⟩ := h
  cases hl : c.lamp <;> constructor <;> simp_all [Channel.endCoast, Channel.running]

theorem Follows.clearFault (h : c.Follows) (hs : c.state = .fault) (lampok : Bool) : (c.clearFault lampok).Follows := by
  obtain ⟨hmotor, hdouse, hinch, hone, hoff, hon, hcause, hstrike, hrunup, hrecord⟩ := h
  unfold Channel.clearFault
  split <;> constructor <;> simp_all [Channel.running]

/-- Entry to FAULT (R31): the lamp is put out with the causes that ask for it. -/
theorem follows_toFault (c : Channel) (cause : Cause) (off : Bool) (hc : cause ≠ .none)
    (hoff : cause = .lampFail ∨ cause = .estop → off = true) : (c.toFault cause off).Follows := by
  constructor <;> simp_all [Channel.toFault, Channel.quiesce, Channel.endRun, Channel.running]

theorem sound_estop (c : Channel) (e : Bool) : (c.toFault .estop true).Sound e :=
  ⟨follows_toFault c .estop true (by decide) (fun _ => rfl), fun _ => by
    simp [Channel.toFault, Channel.quiesce, Channel.endRun]⟩

/-! ### The transitions of every state (R29, R42) -/

/-- The lamp goes out in COAST, INCH and FAULT (R23). -/
def unlit (c : Channel) : Channel := { c with lamp := false }

theorem Sound.unlit (h : c.Sound e) (hs : c.state = .coast ∨ c.state = .inch ∨ c.state = .fault) : c.unlit.Sound e := by
  obtain ⟨⟨hmotor, hdouse, hinch, hone, hoff, hon, hcause, hstrike, hrunup, hrecord⟩, hheld⟩ := h
  refine ⟨?_, fun he => ?_⟩
  · rcases hs with hs | hs | hs <;> constructor <;> simp_all [Channel.unlit, Channel.running]
  · simp_all [Channel.unlit]

theorem Sound.restart (h : c.Sound e) : c.restart.Sound e := by
  unfold Channel.restart
  split
  · rename_i hs
    have hs : c.running = true ∨ c.state = .inch := by simpa using hs
    refine (h.follows.toCoast hs).sound (h.line ?_)
    rcases (moving_iff c).1 hs with hs | hs | hs <;> simp [hs]
  · rename_i hs
    obtain ⟨⟨hmotor, hdouse, hinch, hone, hoff, hon, hcause, hstrike, hrunup, hrecord⟩, hheld⟩ := h
    refine ⟨?_, fun he => ?_⟩
    · constructor <;> simp_all [Channel.endRun, Channel.running]
    · simp_all [Channel.endRun]

/-- At power-on the channel is in DARK with its outputs off (R15). -/
theorem sound_powerOn : powerOn.Sound false := Follows.sound (by constructor <;> decide) rfl

theorem alike_count (c : Channel) (n : Field) (lampok : Bool) : c.Alike (c.count n lampok) := by
  constructor <;> simp [Channel.count]

end Channel
end Sys2Proof.Machine
end

section
/-! What every operation of the blocks keeps: each channel's outputs are those of its state, and all off under the ESTOP line (R15, R17,
R33, R35). -/

namespace Sys2Proof.Machine

/-- Every channel is sound under the ESTOP line as it stands. -/
def ChannelsSound (s : State) : Prop := ∀ p : Proj, s.ch[p].Sound s.estop

theorem channelsSound_iff (s : State) : ChannelsSound s ↔ OutputsFollowState s ∧ EstopHoldsOutputs s :=
  ⟨fun h => ⟨fun p => (h p).follows, fun he p => (h p).held he⟩, fun h p => ⟨h.1 p, fun he => h.2 he p⟩⟩

namespace ChannelsSound

variable {s t : State} (h : ChannelsSound s)
include h

theorem of_eq (hch : t.ch = s.ch) (hestop : t.estop = s.estop) : ChannelsSound t := by
  intro p
  rw [hch, hestop]
  exact h p

theorem notified (k : Notified s t) : ChannelsSound t := h.of_eq k.ch k.estop
theorem engineOnly (k : EngineOnly s t) : ChannelsSound t := h.of_eq k.ch k.estop
theorem protectOnly (k : ProtectOnly s t) : ChannelsSound t := h.of_eq k.ch k.estop
theorem handedOn (k : HandedOn s t) : ChannelsSound t := h.of_eq k.ch k.estop

omit h in
/-- A channel in another state is in no FAULT. -/
theorem ne_fault {c : Channel} {x : ProjState} (hs : c.state = x) (hx : x ≠ .fault) : c.state ≠ .fault := hs ▸ hx

omit h in
theorem running_ne_fault {c : Channel} (hr : c.running = true) : c.state ≠ .fault := by
  rcases (Channel.moving_iff c).1 (.inl hr) with hs | hs | hs <;> exact ne_fault hs nofun

/-- One channel changed to a sound one. -/
theorem updCh {p : Proj} {f : Channel → Channel} (hf : (f s.ch[p]).Sound s.estop) : ChannelsSound (s.updCh p f) := by
  intro q
  by_cases hq : q = p
  · subst hq
    simpa using hf
  · show ((s.ch.set p (f s.ch[p]))[q]).Sound s.estop
    rw [getElem_set_other _ _ hq]
    exact h q

/-- One channel in a state other than FAULT changed to one that follows its state. -/
theorem updCh_follows {p : Proj} {f : Channel → Channel} (hs : s.ch[p].state ≠ .fault) (hf : (f s.ch[p]).Follows) :
    ChannelsSound (s.updCh p f) := h.updCh (hf.sound ((h p).line hs))

theorem updCh_alike {p : Proj} {f : Channel → Channel} (hf : s.ch[p].Alike (f s.ch[p])) : ChannelsSound (s.updCh p f) :=
  h.updCh ((h p).alike hf)

theorem updTr (p : Proj) (f : Tracker → Tracker) : ChannelsSound (s.updTr p f) := h.of_eq rfl rfl
theorem updDet (p : Proj) (f : Detector → Detector) : ChannelsSound (s.updDet p f) := h.of_eq rfl rfl
theorem updIsl (i : Isl) (f : Island → Island) : ChannelsSound (s.updIsl i f) := h.of_eq rfl rfl
theorem updRec (r : Rec) (f : Record → Record) : ChannelsSound (s.updRec r f) := h.of_eq rfl rfl
theorem updTake (f : TakePort → TakePort) : ChannelsSound (s.updTake f) := h.of_eq rfl rfl
theorem updLine (f : Line → Line) : ChannelsSound (s.updLine f) := h.of_eq rfl rfl
theorem updTb (f : Timebase → Timebase) : ChannelsSound (s.updTb f) := h.of_eq rfl rfl
theorem setCues (p : Proj) (l : List CueEntry) (n : Nat) : ChannelsSound (s.setCues p l n) := h.of_eq rfl rfl
theorem dropDue (d : Due) : ChannelsSound (s.dropDue d) := h.of_eq rfl rfl
theorem addDue (d : Due) : ChannelsSound (s.addDue d) := h.of_eq rfl rfl

theorem pass (a : AlarmId) : ChannelsSound (s.pass a) := h.notified (pass_notified s a)
theorem passIf (c : Bool) (a : AlarmId) : ChannelsSound (s.passIf c a) := h.notified (passIf_notified s c a)

omit h in
theorem ite {c : Prop} [Decidable c] {x y : State} (hx : c → ChannelsSound x) (hy : ¬c → ChannelsSound y) :
    ChannelsSound (if c then x else y) := by
  split
  · exact hx ‹_›
  · exact hy ‹_›

theorem addDueIf (c : Bool) (d : Due) : ChannelsSound (s.addDueIf c d) := .ite (fun _ => h.addDue d) (fun _ => h)

theorem foldl {α : Type} {f : State → α → State} (hf : ∀ s x, ChannelsSound s → ChannelsSound (f s x)) (l : List α) :
    ChannelsSound (l.foldl f s) := foldl_inv (fun s x _ => hf s x) h

/-! ### Channels (R22 to R31, R59) -/

/-- A channel that is in no FAULT enters one for a fault of R31; LAMP_FAIL, which puts the lamp out, gives the cause when it is among
those that arise. -/
theorem enterFault {p : Proj} {faults : List ChanFault} (hs : s.ch[p].state ≠ .fault) : ChannelsSound (s.enterFault p faults) := by
  cases faults with
  | nil => exact h
  | cons f fs =>
    have k := beforeFault_handedOn s p (f :: fs)
    rw [enterFault_eq]
    refine ((h.handedOn k).updCh_follows (by rw [k.ch]; exact hs) (Channel.follows_toFault _ _ _ ?_ ?_)).updTr p _
    · cases f <;> decide
    · cases f <;> simp [ChanFault.cause]

theorem doStop (p : Proj) : ChannelsSound (s.doStop p) := by
  unfold State.doStop
  refine ChannelsSound.engineOnly ?_ (engineStop_engineOnly _ p)
  refine .ite (fun hr => ?_) (fun _ => .ite (fun hi => ?_) (fun _ => h))
  · exact (h.updCh_follows (running_ne_fault hr) ((h p).follows.toCoast (.inl hr))).updTr p _
  · exact h.updCh_follows (ne_fault hi nofun) ((h p).follows.toCoast (.inr hi))

theorem requestStop (p : Proj) : ChannelsSound (s.requestStop p).1 := by
  unfold State.requestStop
  split
  · exact h
  · exact h.doStop p

theorem giveStop (p : Proj) : ChannelsSound (s.giveStop p) := h.requestStop p

theorem loseLock (p : Proj) : ChannelsSound (s.loseLock p) := by
  by_cases hr : s.ch[p].state = .run
  · exact ((h.updTr p _).updCh_follows (ne_fault hr nofun) ((h p).follows.backToRunup hr _)).handedOn (loseLock_of_run s p hr).1
  · rw [loseLock_of_not_run s p hr]
    exact h.updTr p _

/-! ### Cues (R70, R71, R116 to R125) -/

theorem removeCue (p : Proj) (number : Nat) : ChannelsSound (s.removeCue p number) :=
  .ite (fun _ => h.setCues p _ _) (fun _ => h)

theorem consume (p : Proj) (e : CueEntry) (o : CueOutcome) (v : Int) (b : Bool) : ChannelsSound (s.consume p e o v b) := by
  obtain ⟨w, hw, -, heq⟩ := consume_cases s p e o v b
  rw [heq]
  have hw := (h.removeCue p e.number).notified hw
  exact .ite (fun _ => hw.updCh_alike ⟨rfl, rfl, rfl, rfl, rfl, rfl, rfl, rfl, rfl, rfl, rfl⟩) (fun _ => hw)

theorem lowTest (p : Proj) (before : Nat) : ChannelsSound (s.lowTest p before) := h.passIf _ _

theorem reachEntry (p : Proj) (e : CueEntry) : ChannelsSound (s.reachEntry p e) := by
  unfold State.reachEntry
  split
  · split
    · exact (h.giveStop p).consume p _ _ _ _
    · exact h.consume p _ _ _ _
    · exact (h.updTr p _).consume p _ _ _ _
    · exact (h.consume p _ _ _ _).pass _
    · exact h
  · exact h.consume p _ _ _ _

theorem reachPass (p : Proj) : ChannelsSound (s.reachPass p) :=
  .ite (fun _ => h.foldl (fun _ e hs => hs.reachEntry p e) _) (fun _ => h)

theorem skipAtStart (p : Proj) : ChannelsSound (s.skipAtStart p) := h.foldl (fun _ e hs => hs.consume p e _ _ _) _

theorem missMarks (p : Proj) : ChannelsSound (s.missMarks p) :=
  .ite (fun _ => h.foldl (fun _ e hs => (hs.consume p e _ _ _).pass _) _) (fun _ => h)

/-! ### Film (R46 to R75, R157) -/

theorem tailoutTest (r : Rec) : ChannelsSound (s.tailoutTest r) := by
  unfold State.tailoutTest
  split
  · exact h
  · split
    · exact h
    · exact .ite (fun _ => (h.engineOnly (endRecord_engineOnly _ _ _)).giveStop _) (fun _ => h)

theorem tailoutOf (p : Proj) : ChannelsSound (s.tailoutOf p) := by
  unfold State.tailoutOf
  split
  · exact h
  · exact h.tailoutTest _

theorem engineCorrected (p : Proj) : ChannelsSound (s.engineCorrected p) := by
  unfold State.engineCorrected
  extract_lets mark
  split
  · exact h.updRec _ _
  · split
    · exact h.updRec _ _
    · exact h

theorem applyCorrection (p : Proj) (c : Int) : ChannelsSound (s.applyCorrection p c) := by
  unfold State.applyCorrection
  extract_lets before limited s1 s2 s3
  have h1 : ChannelsSound s1 := (h.updTr p _).passIf _ _
  have h2 : ChannelsSound s2 := .ite (fun _ => h1) (fun _ => h1.engineCorrected p)
  have h3 : ChannelsSound s3 := .ite (fun _ => h2.reachPass p) (fun _ => h2)
  exact (h3.lowTest p _).tailoutOf p

theorem takeMatch (p : Proj) (detected : Int) : ChannelsSound (s.takeMatch p detected) := by
  unfold State.takeMatch
  split
  · exact ((h.consume p _ _ _ _).lowTest p _).applyCorrection p _
  · exact (h.updTr p _).passIf _ _

theorem takeWaiting (p : Proj) : ChannelsSound (s.takeWaiting p) := by
  unfold State.takeWaiting
  split
  · exact h
  · exact (h.updDet p _).takeMatch p _

theorem handMatch (p : Proj) (detected : Int) : ChannelsSound (s.handMatch p detected) :=
  .ite (fun _ => h.updDet p _) (fun _ => h.takeMatch p _)

theorem takeFound : ChannelsSound s.takeFound := h.foldl (fun _ p hs => .ite (fun _ => hs) (fun _ => hs.takeWaiting p)) _

theorem postPosition (n : PosNotice) : ChannelsSound (s.postPosition n) :=
  .ite (fun _ => h.updLine _) (fun _ => .ite (fun _ => h.updLine _) (fun _ => h))

theorem reportPosition (p : Proj) : ChannelsSound (s.reportPosition p) := .ite (fun _ => h.postPosition _) (fun _ => h)

theorem frameAdvanced (p : Proj) (before : Nat) : ChannelsSound (s.frameAdvanced p before) := by
  unfold State.frameAdvanced
  extract_lets detected s1 isMatch s2 s3 s4 s5
  have h1 : ChannelsSound s1 := .ite (fun _ => h.updDet p _) (fun _ => h)
  have h2 : ChannelsSound s2 := .ite (fun _ => h1.updDet p _) (fun _ => h1)
  have h3 : ChannelsSound s3 := (((h2.reportPosition p).missMarks p).reachPass p).lowTest p _
  have h4 : ChannelsSound s4 := h3.takeWaiting p
  have h5 : ChannelsSound s5 := .ite (fun _ => h4.handMatch p _) (fun _ => h4)
  exact h5.tailoutOf p

theorem frameUp (p : Proj) : ChannelsSound (s.frameUp p) :=
  .ite (fun _ => (h.updTr p _).frameAdvanced p _) (fun _ => h.pass _)

theorem frameDown (p : Proj) : ChannelsSound (s.frameDown p) :=
  .ite (fun _ => ((h.updTr p _).updDet p _).reportPosition p) (fun _ => h.pass _)

theorem perforation (p : Proj) (forward : Bool) : ChannelsSound (s.perforation p forward) := by
  unfold State.perforation
  extract_lets g carry s1 s2
  have h2 : ChannelsSound s2 := (h.updCh_alike ⟨rfl, rfl, rfl, rfl, rfl, rfl, rfl, rfl, rfl, rfl, rfl⟩).updTr p _
  exact .ite (fun _ => .ite (fun _ => h2.frameUp p) (fun _ => h2.frameDown p)) (fun _ => h2)

theorem checkPerfs (p : Proj) : ChannelsSound (s.checkPerfs p) := by
  unfold State.checkPerfs
  simp only
  split
  · exact h.updTr p _
  · exact .ite (fun _ => h.updTr p _) (fun _ => ((h.updTr p _).updTr p _).passIf _ _)

theorem lockedEdge (p : Proj) (a : Nat) : ChannelsSound (s.lockedEdge p a) := by
  unfold State.lockedEdge
  simp only
  split
  · split
    · exact h.loseLock p
    · exact h.updTr p _
    · exact .ite (fun _ => (h.updTr p _).loseLock p) (fun _ => h.updTr p _)
    · exact .ite (fun _ => ((h.updTr p _).passIf _ _).loseLock p) (fun _ => (h.updTr p _).passIf _ _)
  · exact h

theorem edge (p : Proj) : ChannelsSound (s.edge p) := by
  unfold State.edge
  refine .ite (fun _ => h) (fun _ => ?_)
  extract_lets a before rises held s1 s2 s3 s4
  have h1 : ChannelsSound s1 := .ite (fun _ => h.updTr p _) (fun _ => h)
  have h2 : ChannelsSound s2 := (h1.checkPerfs p).passIf _ _
  have h3 : ChannelsSound s3 := .ite (fun _ => h2.frameAdvanced p _) (fun _ => h2)
  have h4 : ChannelsSound s4 := .ite (fun hb => h3.enterFault (running_ne_fault (Bool.and_eq_true_iff.1 hb).2)) (fun _ => h3)
  clear_value s4
  split
  · exact h4
  · exact h4.updTr p _
  · exact h4.lockedEdge p a

theorem cadenceAdvance (p : Proj) : ChannelsSound (s.cadenceAdvance p) := by
  unfold State.cadenceAdvance
  split
  · exact .ite (fun _ => h.updTr p _) (fun _ => .ite (fun _ => (h.updTr p _).frameAdvanced p _) (fun _ => (h.updTr p _).pass _))
  · exact h

theorem correctSlip (p : Proj) : ChannelsSound (s.correctSlip p) := by
  unfold State.correctSlip
  split
  · refine .ite (fun _ => ?_) (fun _ => h)
    extract_lets before f rises s1
    have h1 : ChannelsSound s1 := (h.updTr p _).passIf _ _
    exact .ite (fun _ => h1.frameAdvanced p _) (fun _ => h1.tailoutOf p)
  · exact h

theorem declareLock (p : Proj) : ChannelsSound (s.declareLock p) := by
  unfold State.declareLock
  split
  · refine .ite (fun _ => ?_) (fun _ => h)
    extract_lets due s1
    have h1 : ChannelsSound s1 := h.updTr p _
    clear_value s1
    exact .ite (fun hr => h1.updCh_follows (ne_fault hr nofun) ((h1 p).follows.toRun hr _ _)) (fun _ => h1)
  · exact h

/-! ### The changeover engine (R25, R130 to R162) -/

theorem requestStart (p : Proj) (host : Bool) : ChannelsSound (s.requestStart p host).1 := by
  rcases requestStart_cases s p host with ⟨hr, heq⟩ | ⟨st, -, heq⟩ <;> rw [heq]
  · unfold State.doStart
    extract_lets before n frame s1 s2
    have h1 : ChannelsSound s1 := (h.updCh_follows (ne_fault hr nofun) ((h p).follows.beginRunup hr n frame)).updTr p _
    have h2 : ChannelsSound s2 := h1.passIf _ _
    exact (h2.skipAtStart p).lowTest p _
  · exact h

theorem endRecord (r : Rec) (res : Result) : ChannelsSound (s.endRecord r res) := h.engineOnly (endRecord_engineOnly s r res)

theorem giveStart (r : Rec) : ChannelsSound (s.giveStart r) := by
  unfold State.giveStart
  split
  · exact h
  · rename_i rec _
    have hs := h.requestStart rec.b false
    split
    · rename_i s1 heq
      rw [heq] at hs
      exact ChannelsSound.updRec hs r _
    · exact h.endRecord r _

theorem armedStartTest (r : Rec) (reach : Int) : ChannelsSound (s.armedStartTest r reach) := by
  unfold State.armedStartTest
  split
  · exact h
  · refine .ite (fun _ => h) (fun _ => .ite (fun _ => h.giveStart r) (fun _ => ?_))
    simp only
    split
    · exact ((h.updRec r _).endRecord r _).pass _
    · exact (h.updRec r _).giveStart r

theorem armEntry (a : Proj) (q : Pos) (r : Rec) (e : CueEntry) (part : ChangePart) : ChannelsSound (s.armEntry a q r e part) := by
  unfold State.armEntry
  refine .ite (fun _ => h) (fun _ => ?_)
  extract_lets u d nB before
  refine .ite (fun _ => ((h.consume a e _ _ _).pass _).lowTest a _) (fun _ => ?_)
  split
  · exact h
  · extract_lets rec0 s1 s2
    have h0 : ChannelsSound (s.setRec r (some rec0)) := h.of_eq rfl rfl
    have h1 : ChannelsSound s1 := h0.consume a e _ _ _
    have h2 : ChannelsSound s2 := by
      unfold s2
      split
      · exact h1.updIsl _ _
      · exact h1
    exact (h2.armedStartTest r _).lowTest a _

theorem armAttempt (a : Proj) : ChannelsSound (s.armAttempt a) := by
  unfold State.armAttempt
  refine .ite (fun _ => ?_) (fun _ => h)
  split
  · exact h
  · split
    · exact h
    · refine .ite (fun _ => ?_) (fun _ => h)
      split
      · exact h
      · exact h.armEntry a _ _ _ _

theorem startEvaluation (r : Rec) : ChannelsSound (s.startEvaluation r) := by
  unfold State.startEvaluation
  split
  · exact h
  · refine .ite (fun _ => ?_) (fun _ => h)
    split
    · exact h
    · exact .ite (fun _ => h.giveStart r) (fun _ => h)

theorem decideLock (r : Rec) : ChannelsSound (s.decideLock r) := by
  unfold State.decideLock
  split
  · exact h
  · simp only
    split
    · exact (((h.updRec r _).pass _).endRecord r _).giveStop _
    · exact ((h.updRec r _).updRec r _).addDue _

theorem switchCutTest (r : Rec) : ChannelsSound (s.switchCutTest r) := by
  unfold State.switchCutTest
  split
  · exact h
  · split
    · exact .ite (fun _ => .ite (fun _ => (h.updTake _).updRec r _) (fun _ => h.endRecord r _)) (fun _ => h)
    · exact h

theorem mirrorCutTest (r : Rec) : ChannelsSound (s.mirrorCutTest r) := by
  unfold State.mirrorCutTest
  split
  · exact h
  · split
    · exact .ite (fun _ => .ite (fun _ => (h.protectOnly (mirrorCommand_protectOnly _ _ _)).updRec r _) (fun _ => h.endRecord r _))
        (fun _ => h)
    · exact h

theorem enterTailout (r : Rec) : ChannelsSound (s.enterTailout r) := by
  unfold State.enterTailout
  split
  · exact h
  · rename_i rec _
    extract_lets unlocked s1
    have h1 : ChannelsSound s1 := h.of_eq rfl rfl
    split
    · exact h1.endRecord r _
    · exact h1.tailoutTest r

theorem abort (r : Rec) : ChannelsSound (s.abort r).1 := by
  unfold State.abort
  split
  · exact h
  · split
    · exact h.endRecord r _
    · exact (h.endRecord r _).giveStop _
    · exact (h.endRecord r _).giveStop _
    · exact h
    · exact h.endRecord r _

/-! ### Islands and takes (R82 to R98) -/

theorem raiseMismatch (i : Isl) : ChannelsSound (s.raiseMismatch i) :=
  ((h.updIsl i _).pass _).engineOnly (engineMismatch_engineOnly _ i)

theorem readMirror (i : Isl) : ChannelsSound (s.readMirror i) := by
  unfold State.readMirror
  extract_lets u reading settled home drift s1 s2
  have h1 : ChannelsSound s1 := h.updIsl i _
  have h2 : ChannelsSound s2 := .ite (fun _ => h1.raiseMismatch i) (fun _ => h1)
  split
  · exact h2
  · exact .ite (fun _ => h2.addDue _) (fun _ => h2.addDueIf _ _)

theorem readTally (i : Isl) : ChannelsSound (s.readTally i) := by
  rw [readTally_eq]
  exact (h.updIsl i _).passIf _ _

theorem islandsReact : ChannelsSound s.islandsReact := by
  unfold State.islandsReact State.observeWindow
  exact (h.foldl (fun _ i hs => (hs.readMirror i).readTally i) allIsl).updTake _

theorem completeMirror (i : Isl) : ChannelsSound (s.completeMirror i) := by
  unfold State.completeMirror
  split
  · exact h
  · refine .ite (fun _ => ?_) (fun _ => h)
    extract_lets claim s1
    have h1 : ChannelsSound s1 := h.updIsl i _
    clear_value claim
    split
    · exact h1
    · exact .ite (fun _ => h1.enterTailout _) (fun _ => h1)

theorem failMirror (i : Isl) : ChannelsSound (s.failMirror i) := by
  unfold State.failMirror
  split
  · exact h
  · exact .ite (fun _ => (h.updIsl i _).raiseMismatch i) (fun _ => h)

theorem countDeferrals (g : Option Origin) : ChannelsSound (s.countDeferrals g) :=
  h.foldl (fun _ _ hs => .ite (fun _ => hs.updTake _) (fun _ => hs)) _

theorem judgeWindow : ChannelsSound s.judgeWindow := by
  obtain ⟨w, hw, heq⟩ := judgeWindow_eq s
  rw [heq]
  exact (h.notified hw).updTake _

theorem readied : ChannelsSound s.readied := by
  unfold State.readied
  extract_lets s0
  have h0 : ChannelsSound s0 := .ite (fun _ => h.judgeWindow.dropDue _) (fun _ => h)
  exact .ite (fun _ => (h0.updTake _).dropDue _) (fun _ => h0)

theorem arbitrate : ChannelsSound s.arbitrate := by
  cases hw : s.readied.winner with
  | none =>
    rw [arbitrate_of_none s hw]
    exact h.readied.countDeferrals _
  | some g =>
    rw [arbitrate_of_some s hw]
    have h1 : ChannelsSound (s.readied.granting g) := (h.readied.countDeferrals _).updTake _
    unfold State.hand
    split
    · exact .ite (fun _ => (h1.updRec _ _).enterTailout _) (fun _ => h1)
    · exact h1

theorem takesReact : ChannelsSound s.takesReact := .ite (fun _ => h.addDue _) (fun _ => h.countDeferrals _)

/-! ### The steps that wait at a boundary, and the boundary -/

theorem endStrike (p : Proj) : ChannelsSound (s.endStrike p) :=
  .ite (fun hs => .ite (fun _ => h.updCh_follows (ne_fault hs nofun) ((h p).follows.struck hs))
    (fun _ => h.enterFault (ne_fault hs nofun))) (fun _ => h)

omit h in
/-- No fault of the lamp or of a run-up arises in FAULT (R24, R28). -/
theorem countFaults_eq_nil {c : Channel} (hs : c.state = .fault) (x y : Bool) : c.countFaults x y = [] := by
  simp [Channel.countFaults, Channel.runupOut, Channel.running, hs]

theorem enterCountFaults (p : Proj) (x y : Bool) : ChannelsSound (s.enterFault p (s.ch[p].countFaults x y)) := by
  by_cases hs : s.ch[p].state = .fault
  · rw [countFaults_eq_nil hs]
    exact h
  · exact h.enterFault hs

theorem failLamp (p : Proj) : ChannelsSound (s.failLamp p) :=
  .ite (fun _ => h.updCh_alike ⟨rfl, rfl, rfl, rfl, rfl, rfl, rfl, rfl, rfl, rfl, rfl⟩)
    (fun _ => (h.enterCountFaults p _ _).dropDue _)

theorem effect (d : Due) : ChannelsSound (s.effect d) := by
  cases d with
  | strikeEnd p => exact h.endStrike p
  | lampFail p => exact h.failLamp p
  | runupTimeout p => exact .ite (fun _ => (h.enterCountFaults p _ _).dropDue _) (fun _ => h)
  | coastEnd p => exact .ite (fun hs => h.updCh_follows (ne_fault hs nofun) ((h p).follows.endCoast hs)) (fun _ => h)
  | lockDeclared p => exact h.declareLock p
  | slipCorrection p => exact h.correctSlip p
  | missingEdge p => exact .ite (fun _ => h.loseLock p) (fun _ => h)
  | mirrorComplete i => exact h.completeMirror i
  | mirrorDeadline i => exact h.failMirror i
  | takeGrant => exact h.arbitrate
  | strobeDrop => exact h.updTake _
  | windowJudged => exact h.judgeWindow
  | changeoverStart r => exact h.startEvaluation r
  | lockDecision r => exact h.decideLock r
  | switchCut r => exact h.switchCutTest r
  | mirrorCut r => exact h.mirrorCutTest r

theorem takeDue (d : Due) : ChannelsSound (s.takeDue d) := .ite (fun _ => (h.dropDue d).effect d) (fun _ => h)

theorem takeDues (ds : List Due) : ChannelsSound (s.takeDues ds) := h.foldl (fun _ d hs => hs.takeDue d) ds

theorem settle : ChannelsSound s.settle := by
  unfold State.settle
  split
  · exact h
  · have hd := h.takeDues dueOrder
    generalize s.takeDues dueOrder = t at hd
    exact hd.of_eq rfl rfl

theorem passTo (t : Nat) : ChannelsSound (s.passTo t) := .ite (fun _ => h.settle.of_eq rfl rfl) (fun _ => h)

theorem readPins (pins : Pins) : ChannelsSound (s.readPins pins) := by
  rw [readPins_eq]
  exact h.of_eq rfl rfl

theorem arriveAt (t : Nat) (pins : Pins) : ChannelsSound (s.arriveAt t pins) := ((h.passTo t).readPins pins).takeFound

theorem arrive (m : Moment) : ChannelsSound (s.arrive m) := h.arriveAt _ _

theorem trackerReact (p : Proj) : ChannelsSound (s.trackerReact p) := by
  unfold State.trackerReact
  extract_lets s0 n slip lock s1
  have h0 : ChannelsSound s0 := h.of_eq rfl rfl
  have h1 : ChannelsSound s1 := .ite (fun _ => h0.addDue _) (fun _ => h0.cadenceAdvance p)
  exact (h1.addDueIf _ _).addDueIf _ _

omit h in
/-- LOOP and TAIL raise no fault in FAULT (R31). -/
theorem inputFaults_fault {c : Channel} (hs : c.state = .fault) (n : Field) (f : ProjFlags) : c.inputFaults n f = [] :=
  inputFaults_eq_nil c n (.inr (by simp [Channel.Rests, Channel.running, hs]))

theorem channelReact (p : Proj) : ChannelsSound (s.channelReact p) := by
  have h1 : ChannelsSound (s.counted p) := h.updCh_alike (Channel.alike_count _ _ _)
  by_cases hin : s.inputFaults p = []
  · rw [channelReact_of_none s p hin]
    exact h1.of_eq rfl rfl
  · rw [channelReact_of_faults s p hin]
    exact h1.enterFault fun hs => hin (inputFaults_fault hs _ _)

theorem partReact (x : Part) : ChannelsSound (s.partReact x) := by
  cases x with
  | tracker p => exact h.trackerReact p
  | channel p => exact h.channelReact p
  | islands => exact h.islandsReact
  | arming p => exact h.armAttempt p
  | take => exact h.takesReact
  | step d => exact h.takeDue d

theorem react (o : BoundaryOrder) : ChannelsSound (s.react o) := h.foldl (fun _ x hs => hs.partReact x) _

theorem beginField (inSync : Bool) : ChannelsSound (s.beginField inSync) := by
  unfold State.beginField
  extract_lets s0 s1 windowDue engine
  have h0 : ChannelsSound s0 := h.settle
  have h1 : ChannelsSound s1 := h0.of_eq rfl rfl
  have h2 : ChannelsSound { s1 with due := engine, unmoved := allProj } := h1.of_eq rfl rfl
  exact (h2.addDueIf _ _).addDueIf _ _

theorem boundary (inSync : Bool) (o : BoundaryOrder) : ChannelsSound (s.boundary inSync o) := (h.beginField inSync).react o

end ChannelsSound

end Sys2Proof.Machine
end

section
/-! What holds of every command of the catalogue holds of the one that a frame spells (R183). -/

namespace Sys2Proof.Machine

/-- What a property of commands must say of each command of the catalogue (R183). -/
structure ForCatalogue (P : (State → Answer) → Prop) : Prop where
  setStandard : ∀ a, P (cmdSetStandard a)
  setRoute : ∀ a b c, P (cmdSetRoute a b c)
  setIsland : ∀ a b c, P (cmdSetIsland a b c)
  setProjector : ∀ b, P (cmdSetProjector b)
  setSignature : ∀ a b c, P (cmdSetSignature a b c)
  setSafety : ∀ a b, P (cmdSetSafety a b)
  setHorizon : ∀ x, P (cmdSetHorizon x)
  setMask : ∀ a k x, P (cmdSetMask a k x)
  setReport : ∀ a x, P (cmdSetReport a x)
  setGroup : ∀ a, P (cmdSetGroup a)
  lamp : ∀ a b, P (cmdLamp a b)
  start : ∀ a, P (cmdStart a)
  stop : ∀ a, P (cmdStop a)
  inch : ∀ a b, P (cmdInch a b)
  clear : ∀ a, P (cmdClear a)
  setMode : ∀ a b, P (cmdSetMode a b)
  preset : ∀ a f, P (cmdPreset a f)
  loadCues : ∀ a w es, P (cmdLoadCues a w es)
  deleteCue : ∀ x, P (cmdDeleteCue x)
  clearCues : ∀ a, P (cmdClearCues a)
  queryCues : ∀ a b, P (cmdQueryCues a b)
  abortChange : ∀ x, P (cmdAbortChange x)
  queryChanges : P cmdQueryChanges
  take : ∀ a, P (cmdTake a)
  mirror : ∀ a b, P (cmdMirror a b)
  queryProjector : ∀ a b, P (cmdQueryProjector a b)
  queryIsland : ∀ a, P (cmdQueryIsland a)
  queryDevice : ∀ a, P (cmdQueryDevice a)
  queryAlarms : ∀ a, P (cmdQueryAlarms a)
  ackAlarms : ∀ a k, P (cmdAckAlarms a k)
  poll : P cmdPoll
  restart : P cmdRestart

/-- A property holds of the command that a code and a body spell, when they spell one. -/
def Spells (P : (State → Answer) → Prop) (x : Except Status (State → Answer)) : Prop := ∀ cmd, x = .ok cmd → P cmd

namespace Spells

variable {P : (State → Answer) → Prop}

theorem ok {cmd : State → Answer} (h : P cmd) : Spells P (.ok cmd) := fun _ e => by cases e; exact h

/-- The last row of the catalogue spells no command. -/
theorem refused (codes : List Nat) (c : Nat) : Spells P (if c ∈ codes then .error .badLength else .error .badCode) := by
  split <;> exact nofun

theorem dite {c : Prop} {_ : Decidable c} {x : c → Except Status (State → Answer)} {y : ¬c → Except Status (State → Answer)}
    (hx : ∀ h, Spells P (x h)) (hy : ∀ h, Spells P (y h)) : Spells P (dite c x y) := by
  split
  · exact hx _
  · exact hy _

end Spells

/-- Row by row of the catalogue: a body of the row's length spells its command, and another spells none. -/
theorem spells_catalogue {P : (State → Answer) → Prop} (hP : ForCatalogue P) (code : Byte) (body : List Byte) :
    Spells P (catalogue code body) := by
  unfold catalogue catalogue.match_1
  generalize code.toNat = c
  refine .dite (fun h => ?_) fun _ => ?_
  · subst h
    rcases body with _ | ⟨_, _ | ⟨_, _⟩⟩ <;> first | exact .refused _ _ | exact .ok (hP.setStandard _)
  refine .dite (fun h => ?_) fun _ => ?_
  · subst h
    rcases body with _ | ⟨_, _ | ⟨_, _ | ⟨_, _ | ⟨_, _⟩⟩⟩⟩ <;> first | exact .refused _ _ | exact .ok (hP.setRoute _ _ _)
  refine .dite (fun h => ?_) fun _ => ?_
  · subst h
    rcases body with _ | ⟨_, _ | ⟨_, _ | ⟨_, _ | ⟨_, _⟩⟩⟩⟩ <;> first | exact .refused _ _ | exact .ok (hP.setIsland _ _ _)
  refine .dite (fun h => ?_) fun _ => ?_
  · subst h
    rcases body with _ | ⟨_, _ | ⟨_, _ | ⟨_, _ | ⟨_, _ | ⟨_, _ | ⟨_, _ | ⟨_, _ | ⟨_, _ | ⟨_, _ | ⟨_, _ | ⟨_, _ | ⟨_, _ | ⟨_, _ | ⟨_, _ | ⟨_, _ | ⟨_, _⟩⟩⟩⟩⟩⟩⟩⟩⟩⟩⟩⟩⟩⟩⟩⟩
    all_goals first | exact .refused _ _ | exact .ok (hP.setProjector _)
  refine .dite (fun h => ?_) fun _ => ?_
  · subst h
    rcases body with _ | ⟨_, _ | ⟨_, _ | ⟨_, _ | ⟨_, _⟩⟩⟩⟩ <;> first | exact .refused _ _ | exact .ok (hP.setSignature _ _ _)
  refine .dite (fun h => ?_) fun _ => ?_
  · subst h
    rcases body with _ | ⟨_, _ | ⟨_, _ | ⟨_, _⟩⟩⟩ <;> first | exact .refused _ _ | exact .ok (hP.setSafety _ _)
  refine .dite (fun h => ?_) fun _ => ?_
  · subst h
    rcases body with _ | ⟨_, _ | ⟨_, _ | ⟨_, _⟩⟩⟩ <;> first | exact .refused _ _ | exact .ok (hP.setHorizon _)
  refine .dite (fun h => ?_) fun _ => ?_
  · subst h
    rcases body with _ | ⟨_, _ | ⟨_, _ | ⟨_, _ | ⟨_, _ | ⟨_, _ | ⟨_, _ | ⟨_, _⟩⟩⟩⟩⟩⟩⟩
    all_goals first | exact .refused _ _ | exact .ok (hP.setMask _ _ _)
  refine .dite (fun h => ?_) fun _ => ?_
  · subst h
    rcases body with _ | ⟨_, _ | ⟨_, _ | ⟨_, _ | ⟨_, _⟩⟩⟩⟩ <;> first | exact .refused _ _ | exact .ok (hP.setReport _ _)
  refine .dite (fun h => ?_) fun _ => ?_
  · subst h
    rcases body with _ | ⟨_, _ | ⟨_, _⟩⟩ <;> first | exact .refused _ _ | exact .ok (hP.setGroup _)
  refine .dite (fun h => ?_) fun _ => ?_
  · subst h
    rcases body with _ | ⟨_, _ | ⟨_, _ | ⟨_, _⟩⟩⟩ <;> first | exact .refused _ _ | exact .ok (hP.lamp _ _)
  refine .dite (fun h => ?_) fun _ => ?_
  · subst h
    rcases body with _ | ⟨_, _ | ⟨_, _⟩⟩ <;> first | exact .refused _ _ | exact .ok (hP.start _)
  refine .dite (fun h => ?_) fun _ => ?_
  · subst h
    rcases body with _ | ⟨_, _ | ⟨_, _⟩⟩ <;> first | exact .refused _ _ | exact .ok (hP.stop _)
  refine .dite (fun h => ?_) fun _ => ?_
  · subst h
    rcases body with _ | ⟨_, _ | ⟨_, _ | ⟨_, _⟩⟩⟩ <;> first | exact .refused _ _ | exact .ok (hP.inch _ _)
  refine .dite (fun h => ?_) fun _ => ?_
  · subst h
    rcases body with _ | ⟨_, _ | ⟨_, _⟩⟩ <;> first | exact .refused _ _ | exact .ok (hP.clear _)
  refine .dite (fun h => ?_) fun _ => ?_
  · subst h
    rcases body with _ | ⟨_, _ | ⟨_, _ | ⟨_, _⟩⟩⟩ <;> first | exact .refused _ _ | exact .ok (hP.setMode _ _)
  refine .dite (fun h => ?_) fun _ => ?_
  · subst h
    rcases body with _ | ⟨_, _ | ⟨_, _ | ⟨_, _ | ⟨_, _ | ⟨_, _⟩⟩⟩⟩⟩ <;> first | exact .refused _ _ | exact .ok (hP.preset _ _)
  refine .dite (fun h => ?_) fun _ => ?_
  · subst h
    rcases body with _ | ⟨_, _ | ⟨_, _⟩⟩ <;> first | exact .refused _ _ | exact .ok (hP.loadCues _ _ _)
  refine .dite (fun h => ?_) fun _ => ?_
  · subst h
    rcases body with _ | ⟨_, _ | ⟨_, _ | ⟨_, _⟩⟩⟩ <;> first | exact .refused _ _ | exact .ok (hP.deleteCue _)
  refine .dite (fun h => ?_) fun _ => ?_
  · subst h
    rcases body with _ | ⟨_, _ | ⟨_, _⟩⟩ <;> first | exact .refused _ _ | exact .ok (hP.clearCues _)
  refine .dite (fun h => ?_) fun _ => ?_
  · subst h
    rcases body with _ | ⟨_, _ | ⟨_, _ | ⟨_, _⟩⟩⟩ <;> first | exact .refused _ _ | exact .ok (hP.queryCues _ _)
  refine .dite (fun h => ?_) fun _ => ?_
  · subst h
    rcases body with _ | ⟨_, _ | ⟨_, _ | ⟨_, _⟩⟩⟩ <;> first | exact .refused _ _ | exact .ok (hP.abortChange _)
  refine .dite (fun h => ?_) fun _ => ?_
  · subst h
    rcases body with _ | ⟨_, _⟩ <;> first | exact .refused _ _ | exact .ok hP.queryChanges
  refine .dite (fun h => ?_) fun _ => ?_
  · subst h
    rcases body with _ | ⟨_, _ | ⟨_, _⟩⟩ <;> first | exact .refused _ _ | exact .ok (hP.take _)
  refine .dite (fun h => ?_) fun _ => ?_
  · subst h
    rcases body with _ | ⟨_, _ | ⟨_, _ | ⟨_, _⟩⟩⟩ <;> first | exact .refused _ _ | exact .ok (hP.mirror _ _)
  refine .dite (fun h => ?_) fun _ => ?_
  · subst h
    rcases body with _ | ⟨_, _ | ⟨_, _ | ⟨_, _⟩⟩⟩ <;> first | exact .refused _ _ | exact .ok (hP.queryProjector _ _)
  refine .dite (fun h => ?_) fun _ => ?_
  · subst h
    rcases body with _ | ⟨_, _ | ⟨_, _⟩⟩ <;> first | exact .refused _ _ | exact .ok (hP.queryIsland _)
  refine .dite (fun h => ?_) fun _ => ?_
  · subst h
    rcases body with _ | ⟨_, _ | ⟨_, _⟩⟩ <;> first | exact .refused _ _ | exact .ok (hP.queryDevice _)
  refine .dite (fun h => ?_) fun _ => ?_
  · subst h
    rcases body with _ | ⟨_, _ | ⟨_, _⟩⟩ <;> first | exact .refused _ _ | exact .ok (hP.queryAlarms _)
  refine .dite (fun h => ?_) fun _ => ?_
  · subst h
    rcases body with _ | ⟨_, _ | ⟨_, _ | ⟨_, _ | ⟨_, _ | ⟨_, _ | ⟨_, _⟩⟩⟩⟩⟩⟩
    all_goals first | exact .refused _ _ | exact .ok (hP.ackAlarms _ _)
  refine .dite (fun h => ?_) fun _ => ?_
  · subst h
    rcases body with _ | ⟨_, _⟩ <;> first | exact .refused _ _ | exact .ok hP.poll
  refine .dite (fun h => ?_) fun _ => ?_
  · subst h
    rcases body with _ | ⟨_, _⟩ <;> first | exact .refused _ _ | exact .ok hP.restart
  exact .refused _ _

end Sys2Proof.Machine
end

section
/-! Every command of the line and every event of the station keeps each channel's outputs those of its state, and all off under the ESTOP
line (R15, R17, R33, R35). -/

namespace Sys2Proof.Machine
namespace ChannelsSound

/-! ### The station's events -/

section
variable {s t : State} (h : ChannelsSound s)
include h

theorem pulse (o : BoundaryOrder) : ChannelsSound (s.pulse o) := by
  unfold State.pulse
  refine .ite (fun _ => (h.updTb _).boundary _ _) (fun _ => ?_)
  extract_lets run
  refine .ite (fun _ => ?_) (fun _ => h.updTb _)
  unfold State.enterSync
  extract_lets restored merged s1
  have h1 : ChannelsSound s1 := h.updTb _
  exact .ite (fun _ => h1.passIf _ _) (fun _ => ((h1.beginField _).passIf _ _).react _)

theorem internalBoundary (pins : Pins) (o : BoundaryOrder) : ChannelsSound (s.internalBoundary pins o) := by
  unfold State.internalBoundary
  split
  · exact h
  · exact ((h.arriveAt _ _).updTb _).boundary _ _

theorem loseSync (pins : Pins) (o : BoundaryOrder) : ChannelsSound (s.loseSync pins o) := by
  unfold State.loseSync
  exact .ite (fun _ => ((((h.arriveAt _ _).updTb _).beginField _).pass _).react _) (fun _ => h)

omit h in
/-- The assertion of the ESTOP line leaves every channel sound, whatever it was (R34). -/
theorem assertEstop (s : State) : ChannelsSound s.assertEstop := by
  have hestopped : ChannelsSound s.estopped := by
    intro p
    rw [show s.estopped.ch[p] = s.ch[p].toFault .estop true by simp [State.estopped]]
    exact Channel.sound_estop _ _
  exact hestopped.handedOn (assertEstop_handedOn s)

theorem silence : ChannelsSound s.silence := by
  unfold State.silence
  split
  · exact h
  · exact ((h.updLine _).updLine _).pass _
  · exact h.updLine _
  · exact h.updLine _

theorem beginReply (wait : Nat) : ChannelsSound (s.beginReply wait) := by
  unfold State.beginReply
  split
  · exact h
  · exact .ite (fun _ => h) (fun _ => (h.passTo _).updLine _)

theorem endReply : ChannelsSound s.endReply := by
  unfold State.endReply
  split
  · exact h
  · split
    · exact h
    · exact (h.passTo _).updLine _

end

/-! ### Requests to one channel (R18) -/

/-- A request keeps the channels sound. -/
def Request (req : State → Proj → State × Status) : Prop := ∀ s p, ChannelsSound s → ChannelsSound (req s p).1

/-- A command keeps the channels sound. -/
def Command (cmd : State → Answer) : Prop := ∀ s, ChannelsSound s → ChannelsSound (cmd s).state

theorem requestLampOn : Request State.requestLampOn := by
  intro s p h
  unfold State.requestLampOn
  split
  · exact h
  · split
    case h_1 hs => exact h.updCh_follows (ne_fault hs nofun) ((h p).follows.strikeLamp hs _)
    case h_6 => split <;> exact h
    case h_7 => split <;> exact h
    all_goals exact h

theorem requestLampOff : Request State.requestLampOff := by
  intro s p h
  unfold State.requestLampOff
  split
  · exact h
  · split
    · exact h
    · split
      case h_2 hs => exact h.updCh_follows (ne_fault hs nofun) ((h p).follows.darken (.inl hs))
      case h_3 hs => exact h.updCh_follows (ne_fault hs nofun) ((h p).follows.darken (.inr hs))
      case h_6 hs => exact h.updCh ((h p).unlit (.inl hs))
      case h_7 hs => exact h.updCh ((h p).unlit (.inr (.inl hs)))
      case h_8 hs => exact h.updCh ((h p).unlit (.inr (.inr hs)))
      all_goals exact h

theorem requestLamp (lamp : Byte) : Request (State.requestLamp lamp) := by
  intro s p h
  unfold State.requestLamp
  split
  · exact requestLampOn s p h
  · split
    · exact requestLampOff s p h
    · exact h

theorem requestInch (forward : Bool) : Request (fun s p => s.requestInch p forward) := by
  intro s p h
  simp only [State.requestInch]
  split
  · exact h
  · split
    · exact h
    · split
      · rename_i hs
        refine h.updCh_follows ?_ ((h p).follows.toInch hs forward)
        rcases hs with hs | hs <;> exact ne_fault hs nofun
      · exact h

theorem requestInchStop : Request State.requestInchStop := by
  intro s p h
  unfold State.requestInchStop
  split
  · exact h
  · split
    · exact h
    · split
      · rename_i hs
        exact h.updCh_follows (ne_fault hs nofun) ((h p).follows.toCoast (.inr hs))
      · exact h

/-- CLEAR is taken without the ESTOP line alone (R32). -/
theorem requestClear : Request State.requestClear := by
  intro s p h
  unfold State.requestClear
  split
  · exact h
  · rename_i hestop
    split
    · exact h
    · rename_i hs
      split
      · exact h
      · split
        · exact h
        · exact h.updCh (((h p).follows.clearFault (not_not.1 hs) _).sound (by simpa using hestop))

theorem requestEach {req : State → Proj → State × Status} (hreq : Request req) {s : State} (h : ChannelsSound s) (l : List Proj) :
    ChannelsSound (s.requestEach req l).1 := by
  induction l generalizing s with
  | nil => exact h
  | cons p l ih => exact ih (hreq s p h)

theorem forProjectors {req : State → Proj → State × Status} (hreq : Request req) (b : Byte) : Command (forProjectors req b) := by
  intro s h
  unfold Machine.forProjectors
  split
  · exact requestEach hreq h allProj
  · split
    · exact h
    · exact hreq s _ h

theorem forProjector {req : State → Proj → State × Status} (hreq : Request req) (b : Byte) : Command (forProjector req b) := by
  intro s h
  unfold Machine.forProjector
  split
  · exact h
  · exact hreq s _ h

/-! ### The commands that move channels -/

theorem cmdInch (b direction : Byte) : Command (cmdInch b direction) := by
  intro s h
  unfold Machine.cmdInch
  split
  · exact forProjector requestInchStop b s h
  · split
    · exact forProjector (requestInch true) b s h
    · split
      · exact forProjector (requestInch false) b s h
      · exact h

theorem cmdSetMode (b mode : Byte) : Command (cmdSetMode b mode) := by
  intro s h
  unfold Machine.cmdSetMode
  split
  · split
    · exact h
    · exact h.updCh_alike ⟨rfl, rfl, rfl, rfl, rfl, rfl, rfl, rfl, rfl, rfl, rfl⟩
  · exact h

theorem cmdSetProjector (b : ProjectorBody) : Command (cmdSetProjector b) := by
  intro s h
  unfold Machine.cmdSetProjector
  split
  · split
    · exact h
    · split
      · exact h
      · split
        · exact h
        · exact (h.updCh_alike ⟨rfl, rfl, rfl, rfl, rfl, rfl, rfl, rfl, rfl, rfl, rfl⟩).updTr _ _
  · exact h

theorem cmdRestart : Command cmdRestart := by
  intro s h
  have h1 : ChannelsSound (allProj.foldl (fun s p => s.restartProjector p) s) :=
    h.foldl (fun _ p hs => ((hs.updCh (hs p).restart).updTr p _).updDet p _) allProj
  exact (h1.updTake _).engineOnly (endAllRecords_engineOnly _ _)

theorem cmdAbortChange (c : BitVec 16) : Command (cmdAbortChange c) := by
  intro s h
  unfold Machine.cmdAbortChange
  split
  · exact h
  · exact h.abort _

/-! ### The commands that leave every channel alone -/

theorem setWatermark {s : State} (h : ChannelsSound s) (p : Proj) (w : Option Nat) : ChannelsSound (s.setWatermark p w) := by
  cases w with
  | none => exact h
  | some n => exact h.of_eq rfl rfl

theorem loadEntry {s : State} (h : ChannelsSound s) (p : Proj) (e : RawEntry) : ChannelsSound (s.loadEntry p e).1 := by
  unfold State.loadEntry
  split
  · exact h
  · split
    · exact h
    · split
      · exact h
      · split
        · exact h
        · extract_lets badTarget
          clear_value badTarget
          split
          · exact h
          · exact h.setCues p _ _

theorem loadEntries {s : State} (h : ChannelsSound s) (p : Proj) (es : List RawEntry) : ChannelsSound (s.loadEntries p es).1 := by
  induction es generalizing s with
  | nil => exact h
  | cons e es ih => exact ih (h.loadEntry p e)

theorem cmdLoadCues (b w : Byte) (es : List Byte) : Command (cmdLoadCues b w es) := by
  intro s h
  unfold Machine.cmdLoadCues
  split
  · extract_lets count
    split
    · exact h
    · split
      · exact h
      · exact ChannelsSound.lowTest (loadEntries (h.setWatermark _ _) _ _) _ _
  · exact h

theorem cmdDeleteCue (c : BitVec 16) : Command (cmdDeleteCue c) := by
  intro s h
  unfold Machine.cmdDeleteCue
  split
  · exact h
  · exact (h.removeCue _ _).lowTest _ _

theorem cmdClearCues (b : Byte) : Command (cmdClearCues b) := by
  intro s h
  unfold Machine.cmdClearCues
  split
  · exact h
  · exact (h.setCues _ _ _).lowTest _ _

theorem cmdPreset (b : Byte) (f : BitVec 24) : Command (cmdPreset b f) := by
  intro s h
  unfold Machine.cmdPreset
  split
  · exact h
  · extract_lets st
    split
    · exact h
    · split
      · exact h
      · split
        · exact h
        · split
          · exact h
          · exact ((h.updTr _ _).updDet _ _).lowTest _ _

theorem cmdSetStandard (b : Byte) : Command (cmdSetStandard b) := by
  intro s h
  unfold Machine.cmdSetStandard
  split
  · exact h
  · split
    · exact h
    · split <;> exact h.of_eq rfl rfl

theorem cmdSetRoute (a b c : Byte) : Command (cmdSetRoute a b c) := by
  intro s h
  unfold Machine.cmdSetRoute
  split
  · split
    · exact h
    · split
      · exact h
      · split <;> exact h.of_eq rfl rfl
  · exact h

theorem cmdSetIsland (a b c : Byte) : Command (cmdSetIsland a b c) := by
  intro s h
  unfold Machine.cmdSetIsland
  split
  · split
    · exact h
    · split <;> exact h.of_eq rfl rfl
  · exact h

theorem cmdSetSignature (a b c : Byte) : Command (cmdSetSignature a b c) := by
  intro s h
  unfold Machine.cmdSetSignature
  split
  · exact h
  · extract_lets l pat
    split
    · exact h
    · split
      · exact h
      · split <;> exact h.of_eq rfl rfl

theorem cmdSetSafety (a b : Byte) : Command (cmdSetSafety a b) := by
  intro s h
  unfold Machine.cmdSetSafety
  split
  · exact h
  · split
    · exact h
    · split <;> exact h.of_eq rfl rfl

theorem cmdSetMask (a : Byte) (k : BitVec 32) (x : Byte) : Command (cmdSetMask a k x) := by
  intro s h
  unfold Machine.cmdSetMask
  split
  · exact h
  · split
    · exact h.of_eq rfl rfl
    · split <;> exact h.of_eq rfl rfl

theorem cmdSetReport (a : Byte) (x : BitVec 16) : Command (cmdSetReport a x) := by
  intro s h
  unfold Machine.cmdSetReport
  split <;> exact h.of_eq rfl rfl

theorem cmdSetGroup (a : Byte) : Command (cmdSetGroup a) := by
  intro s h
  unfold Machine.cmdSetGroup
  split <;> exact h.of_eq rfl rfl

theorem cmdTake (a : Byte) : Command (cmdTake a) := by
  intro s h
  unfold Machine.cmdTake
  split
  · exact h
  · split <;> exact h.of_eq rfl rfl

theorem cmdMirror (a b : Byte) : Command (cmdMirror a b) := by
  intro s h
  unfold Machine.cmdMirror
  split
  · split <;> exact h.of_eq rfl rfl
  · exact h

theorem cmdQueryProjector (a b : Byte) : Command (cmdQueryProjector a b) := by
  intro s h
  unfold Machine.cmdQueryProjector
  split
  · exact .ite (fun _ => h.updTr _ _) (fun _ => h)
  · exact h

theorem cmdQueryDevice (a : Byte) : Command (cmdQueryDevice a) := by
  intro s h
  unfold Machine.cmdQueryDevice
  split
  · exact h
  · exact .ite (fun _ => h.updLine _) (fun _ => h)

theorem cmdAckAlarms (a : Byte) (k : BitVec 32) : Command (cmdAckAlarms a k) := by
  intro s h
  unfold Machine.cmdAckAlarms
  split <;> exact h.of_eq rfl rfl

theorem cmdPoll : Command cmdPoll := by
  intro s h
  unfold Machine.cmdPoll
  split <;> exact h.of_eq rfl rfl

theorem forCatalogue : ForCatalogue Command where
  setStandard := cmdSetStandard
  setRoute := cmdSetRoute
  setIsland := cmdSetIsland
  setProjector := cmdSetProjector
  setSignature := cmdSetSignature
  setSafety := cmdSetSafety
  setHorizon _ := fun _ h => h.of_eq rfl rfl
  setMask := cmdSetMask
  setReport := cmdSetReport
  setGroup := cmdSetGroup
  lamp a b := forProjectors (requestLamp b) a
  start a := forProjectors (fun _ p h => h.requestStart p true) a
  stop a := forProjectors (fun _ p h => h.requestStop p) a
  inch := cmdInch
  clear a := forProjector requestClear a
  setMode := cmdSetMode
  preset := cmdPreset
  loadCues := cmdLoadCues
  deleteCue := cmdDeleteCue
  clearCues := cmdClearCues
  queryCues a b := fun s h => by rw [cmdQueryCues_state]; exact h
  abortChange := cmdAbortChange
  queryChanges := fun _ h => h
  take := cmdTake
  mirror := cmdMirror
  queryProjector := cmdQueryProjector
  queryIsland a := fun s h => by rw [cmdQueryIsland_state]; exact h
  queryDevice := cmdQueryDevice
  queryAlarms a := fun s h => by rw [cmdQueryAlarms_state]; exact h
  ackAlarms := cmdAckAlarms
  poll := cmdPoll
  restart := cmdRestart

end ChannelsSound
end Sys2Proof.Machine
end

section
/-! The rows of the table: each keeps every channel's outputs those of its state, and all off under the ESTOP line (R15, R17, R33, R35). -/

namespace Sys2Proof.Machine
namespace ChannelsSound

/-! ### Frames of the line (R178 to R182) -/

theorem takeIndividual {cmd : State → Answer} (hcmd : Command cmd) {s : State} (h : ChannelsSound s) (code : Byte) :
    ChannelsSound (s.takeIndividual code cmd) := by
  have h0 : ChannelsSound s.expireReply := by
    rw [expireReply_eq]
    exact h.of_eq rfl rfl
  unfold State.takeIndividual
  exact .ite (fun _ => (h0.updLine _).pass _) (fun _ => (hcmd _ (h0.updLine _)).updLine _)

theorem takeVia {cmd : State → Answer} (hcmd : Command cmd) {s : State} (h : ChannelsSound s) (via : Via) (code : Byte) :
    ChannelsSound (s.takeVia via code cmd) := by
  cases via with
  | individual => exact takeIndividual hcmd h code
  | group => exact hcmd _ (h.updLine _)

section
variable {s : State} (h : ChannelsSound s)
include h

theorem setRx (rx : RxState) : ChannelsSound (s.setRx rx) := h.updLine _

theorem lineFault : ChannelsSound s.lineFault := (h.updLine _).pass _

theorem frameFault (rx : RxState) : ChannelsSound (s.frameFault rx) := (h.setRx rx).lineFault

theorem frameComplete (via : Via) (code : Byte) (body : List Byte) : ChannelsSound (s.frameComplete via code body) := by
  have hspells := spells_catalogue forCatalogue code body
  unfold State.frameComplete
  generalize catalogue code body = x at hspells ⊢
  cases via with
  | individual =>
    refine takeIndividual (fun u hu => ?_) h code
    cases x with
    | error st => exact hu
    | ok cmd => exact hspells cmd rfl u hu
  | group =>
    refine .ite (fun _ => ?_) (fun _ => h.lineFault)
    cases x with
    | error st => exact h.lineFault
    | ok cmd => exact hspells cmd rfl _ (h.updLine _)

theorem receiveByte (via : Via) (b : Byte) : ChannelsSound (s.receiveByte via b) := by
  unfold State.receiveByte
  split
  · exact .ite (fun _ => h.updLine _) (fun _ => h.frameFault _)
  · extract_lets got
    clear_value got
    refine .ite (fun _ => ?_) (fun _ => h.updLine _)
    split
    · exact (h.setRx _).frameComplete via _ _
    · exact h.setRx _
  · exact h

theorem readChar (c : LineChar) : ChannelsSound (s.readChar c) := by
  unfold State.readChar
  extract_lets bad b
  split
  · exact .ite (fun _ => h.setRx _) (fun _ => h)
  · refine .ite (fun _ => h.frameFault _) (fun _ => ?_)
    split
    · exact h.updLine _
    · exact h.setRx _
  · exact .ite (fun _ => h.frameFault _) (fun _ => h.receiveByte _ _)
  · exact .ite (fun _ => h.setRx _) (fun _ => h.setRx _)
  · exact .ite (fun _ => h.setRx _) (fun _ => h.setRx _)
  · exact h

theorem takeChar (c : LineChar) : ChannelsSound (s.takeChar c) := by
  unfold State.takeChar
  extract_lets s1
  have h1 : ChannelsSound s1 := .ite (fun _ => h.silence) (fun _ => h)
  exact (h1.updLine _).readChar c

/-! ### RESET and ESTOP (R8, R33 to R35, R176) -/

theorem holdReset : ChannelsSound s.holdReset := h.of_eq rfl rfl

omit h in
theorem released (straps : Straps) (pins : Pins) : ChannelsSound (released straps pins s) := by
  intro p
  rw [released_eq]
  rw [show ({ State.powerOn straps.addr straps.rate pins with
    pending := s.pending, det := (Machine.released straps pins s).det } : State).ch[p] = Channel.powerOn from
      Vector.getElem_replicate ..]
  exact Channel.sound_powerOn

omit h in
theorem assertEstopInReset : ChannelsSound s.assertEstopInReset := by
  have hs := assertEstop s
  rw [assertEstopInReset_eq]
  generalize s.assertEstop = t at hs ⊢
  exact hs.of_eq rfl rfl

/-- The release of the ESTOP line leaves the channels as they are (R35). -/
theorem releaseLine : ChannelsSound { s with estop := false } := fun p => (h p).follows.sound rfl

/-- A row that RESET shuts out. -/
theorem event {t : State} {f : State → State} (hf : ChannelsSound (f s)) (ht : s.event f = .next t) : ChannelsSound t := by
  unfold State.event at ht
  cases ht
  exact .ite (fun _ => h) (fun _ => hf)

theorem estopAsserted (m : Moment) {t : State} (ht : execEstopAsserted m s = .next t) : ChannelsSound t := by
  unfold execEstopAsserted at ht
  split at ht
  · cases ht
    exact .ite (fun _ => h) (fun _ => assertEstopInReset)
  · refine h.event ?_ ht
    have harrive := h.arrive m
    generalize s.arrive m = u at harrive ⊢
    exact ChannelsSound.ite (fun _ => harrive) (fun _ => assertEstop u)

theorem estopReleased (m : Moment) {t : State} (ht : execEstopReleased m s = .next t) : ChannelsSound t := by
  unfold execEstopReleased at ht
  split at ht
  · cases ht
    exact h.releaseLine
  · refine h.event ?_ ht
    have harrive := h.arrive m
    generalize s.arrive m = u at harrive ⊢
    exact ChannelsSound.ite (fun _ => harrive.releaseLine.pass _) (fun _ => harrive)

theorem cueInputAsserted (m : Moment) (p : Proj) {t : State} (ht : execCueInputAsserted m p s = .next t) : ChannelsSound t := by
  unfold execCueInputAsserted at ht
  refine h.event ?_ ht
  have harrive := h.arrive m
  generalize s.arrive m = u at harrive ⊢
  exact harrive.of_eq rfl rfl

/-! ### One row (R183) -/

theorem message {cmd : State → Answer} (hcmd : Command cmd) {t : State} {m : Moment} {via : Via} {code : Byte}
    (ht : s.message m via code cmd = .next t) : ChannelsSound t :=
  h.event (f := fun s => (s.arrive m).takeVia via code cmd) (takeVia hcmd (h.arrive m) via code) ht

/-- Every row of the table, by its operations. -/
theorem exec (i : Instr) {t : State} (ht : exec i s = .next t) : ChannelsSound t := by
  have hP := forCatalogue
  cases i with
  | reset straps pins =>
    cases (exec_reset straps pins s).symm.trans ht
    exact .ite (fun _ => assertEstop _) (fun _ => released straps pins)
  | fldPulse m o => exact h.event (f := fun s => (s.arrive m).pulse o) ((h.arrive m).pulse o) ht
  | internalTick pins o => exact h.event (f := fun s => s.internalBoundary pins o) (h.internalBoundary pins o) ht
  | syncLost pins o => exact h.event (f := fun s => s.loseSync pins o) (h.loseSync pins o) ht
  | perfPulse m p =>
    exact h.event (f := fun s => (s.arrive m).perforation p m.pins.proj[p].forward) ((h.arrive m).perforation p _) ht
  | shutterEdge m p =>
    exact h.event (f := fun s => ((s.arrive m).takeDues (trackerSteps p)).edge p) (((h.arrive m).takeDues _).edge p) ht
  | cueInputAsserted m p => exact h.cueInputAsserted m p ht
  | estopAsserted m => exact h.estopAsserted m ht
  | estopReleased m => exact h.estopReleased m ht
  | lineByte m c => exact h.event (f := fun s => (s.arrive m).takeChar c) ((h.arrive m).takeChar c) ht
  | lineSilenceTimeout =>
    exact h.event (f := fun s => if s.line.rx = .idle then s else (s.passTo (s.line.lastByte + 3 * s.line.char)).silence)
      (.ite (fun _ => h) (fun _ => (h.passTo _).silence)) ht
  | replyComplete => exact h.event (f := State.endReply) h.endReply ht
  | strikeEnd | lampFail | runupTimeout | coastEnd | lockDeclared | slipCorrection | missingEdge | mirrorComplete | mirrorDeadline
  | takeGrant | takeStrobeDrop | takeWindowJudged | changeoverStart | lockDecision | switchCutPost | mirrorCut =>
    exact h.event (f := fun s => s.takeDue _) (h.takeDue _) ht
  | setStandard m a => exact h.message (hP.setStandard a) ht
  | setRoute m a b c => exact h.message (hP.setRoute a b c) ht
  | setIsland m a b c => exact h.message (hP.setIsland a b c) ht
  | setProjector m b => exact h.message (hP.setProjector b) ht
  | setSignature m a b c => exact h.message (hP.setSignature a b c) ht
  | setSafety m a b => exact h.message (hP.setSafety a b) ht
  | setHorizon m x => exact h.message (hP.setHorizon x) ht
  | setMask m a k x => exact h.message (hP.setMask a k x) ht
  | setReport m a x => exact h.message (hP.setReport a x) ht
  | setGroup m a => exact h.message (hP.setGroup a) ht
  | lampOn m via a => exact h.message (hP.lamp a 1) ht
  | lampOff m via a => exact h.message (hP.lamp a 0) ht
  | start m via a => exact h.message (hP.start a) ht
  | stop m via a => exact h.message (hP.stop a) ht
  | inchForward m a => exact h.message (hP.inch a 1) ht
  | inchReverse m a => exact h.message (hP.inch a 2) ht
  | inchStop m a => exact h.message (hP.inch a 0) ht
  | clear m a => exact h.message (hP.clear a) ht
  | setMode m via a b => exact h.message (hP.setMode a b) ht
  | preset m a f => exact h.message (hP.preset a f) ht
  | loadCues m a w es => exact h.message (hP.loadCues a w es) ht
  | deleteCue m x => exact h.message (hP.deleteCue x) ht
  | clearCues m a => exact h.message (hP.clearCues a) ht
  | queryCues m a b => exact h.message (hP.queryCues a b) ht
  | abortChange m x => exact h.message (hP.abortChange x) ht
  | queryChanges m => exact h.message hP.queryChanges ht
  | take m a => exact h.message (hP.take a) ht
  | mirror m a b => exact h.message (hP.mirror a b) ht
  | queryProjector m a b => exact h.message (hP.queryProjector a b) ht
  | queryIsland m a => exact h.message (hP.queryIsland a) ht
  | queryDevice m a => exact h.message (hP.queryDevice a) ht
  | queryAlarms m a => exact h.message (hP.queryAlarms a) ht
  | ackAlarms m a k => exact h.message (hP.ackAlarms a k) ht
  | poll m => exact h.message hP.poll ht
  | restart m via => exact h.message hP.restart ht
  | resetAsserted m => exact h.event (f := fun s => (s.arrive m).holdReset) (h.arrive m).holdReset ht
  | replyStart wait => exact h.event (f := fun s => s.beginReply wait) (h.beginReply wait) ht

theorem step {t : State} (ht : step s = .next t) : ChannelsSound t := by
  unfold Machine.step at ht
  split at ht
  · cases ht
    exact h
  · rename_i i rest _
    have hrest : ChannelsSound { s with pending := rest } := h.of_eq rfl rfl
    exact hrest.exec i ht

end
end ChannelsSound
end Sys2Proof.Machine

section
open Sys2Proof Sys2Proof.Machine Sys2Proof.Claims

/-- Settles O53: both invariants say that every channel is sound, which every row keeps operation by operation. -/
theorem outputsFollowStateKept : Obligations.OutputsFollowStateKept := by
  intro s t hfollow hhold hstep
  exact (channelsSound_iff t).1 (((channelsSound_iff s).2 ⟨hfollow, hhold⟩).step hstep)

end
end

section
/-! The state after reset, and the two edges of the ESTOP line (R33 to R35, R175). -/

namespace Sys2Proof.Machine
open Sys2Proof.Claims

/-! ### The state after reset (R15, R44, R77, R90, R106, R126, R164, R176) -/

/-- At reset every channel is in DARK with its outputs off (R15). -/
theorem reset_channelsSound : ChannelsSound State.reset := by
  intro p
  rw [show State.reset.ch[p] = Channel.powerOn from Vector.getElem_replicate ..]
  exact Channel.sound_powerOn

/-- At reset every record is FREE (R126). -/
theorem reset_records (r : Rec) : State.reset.eng.records[r] = none := by
  revert r
  decide

/-- At reset a tracker is unlocked at frame 0 with its motor off, as a channel in DARK has it (R44). -/
theorem reset_trackerFits (p : Proj) : TrackerFits .s50 State.reset.ch[p].config.gauge.perfs State.reset.ch[p].state State.reset.tr[p] := by
  have hch : State.reset.ch[p] = Channel.powerOn := Vector.getElem_replicate ..
  have htr : State.reset.tr[p] = Tracker.powerOn := Vector.getElem_replicate ..
  rw [hch, htr]
  constructor <;> simp [Channel.powerOn, Tracker.powerOn, Gauge.perfs, Config.frameMin, Config.frameMax]

/-- At reset no pair is latched (R164). -/
theorem not_shows_powerOn (m : Bool) : ¬AlarmUnit.powerOn.shows m := by
  rintro ⟨a, -, hset, -⟩
  rw [AlarmUnit.get_powerOn] at hset
  exact absurd hset (by decide)

/-- At reset the pool holds every entry and each list is empty (R106). -/
theorem reset_cuesWhole : CuesWhole State.reset := by
  have hlist (p : Proj) : State.reset.cues.lists[p] = [] := Vector.getElem_replicate ..
  have hlow (p : Proj) : State.reset.cues.low[p] = 2 := Vector.getElem_replicate ..
  exact
    { pool := by decide
      ascend := fun p => by rw [hlist]; exact .nil
      numbers := fun p q x hx => by rw [hlist] at hx; cases hx
      range := fun p x hx => by rw [hlist] at hx; cases hx
      low := fun p => by rw [hlow]; decide }

/-- At reset each place is one projector's and each source code one island's, 0 that of the safety source (R77, R78, R90). -/
theorem reset_placesDistinct : PlacesDistinct State.reset := by
  refine ⟨?_, ?_, ?_⟩ <;> decide

/-! ### One event passed: its pair, and no other (R166, R167, R169) -/

/-- The pair of an event: counted when it is latched already, latched otherwise. -/
theorem pass_get_same (s : State) {a : AlarmId} (ha : a ≠ .dev .noticeLost) :
    (s.pass a).alarm.get a =
      if (s.alarm.get a).set then { s.alarm.get a with count := min 255 ((s.alarm.get a).count + 1) }
      else { s.alarm.get a with set := true, count := 1 } := by
  unfold State.pass
  simp only
  split
  · exact (AlarmUnit.get_refresh _ _).trans (AlarmUnit.get_put_same _ _ _)
  · split
    · exact (post_get_other _ _ ha).trans ((AlarmUnit.get_refresh _ _).trans (AlarmUnit.get_put_same _ _ _))
    · exact (AlarmUnit.get_refresh _ _).trans (AlarmUnit.get_put_same _ _ _)

/-- The lines have the value of R169 once an event is passed. -/
theorem pass_refreshed (s : State) (a : AlarmId) : (s.pass a).alarm.refresh = (s.pass a).alarm := by
  unfold State.pass
  simp only
  split
  · exact AlarmUnit.refresh_refresh _
  · split
    · exact (post_notified _ _ (fun _ => rfl)).lines (AlarmUnit.refresh_refresh _)
    · exact AlarmUnit.refresh_refresh _

theorem lines_of_refreshed {u : AlarmUnit} (h : u.refresh = u) : (u.major = true ↔ u.shows true) ∧ (u.minor = true ↔ u.shows false) := by
  rw [← shows_iff_anyLit, ← shows_iff_anyLit, ← h]
  simp only [AlarmUnit.anyLit_refresh]
  exact ⟨Iff.rfl, Iff.rfl⟩

/-- An event that posts no notice leaves the line controller alone. -/
theorem pass_of_silent (s : State) (a : AlarmId) (h : (s.alarm.get a).set = true ∨ (s.alarm.get a).enabled = false) :
    ∃ l, s.pass a = s.putLatch a l := by
  unfold State.pass
  simp only
  split
  · exact ⟨_, rfl⟩
  · rename_i hset
    rw [if_neg (by simpa [hset] using h)]
    exact ⟨_, rfl⟩

/-- A full queue takes no notice (R185). -/
theorem post_queue_full (s : State) (n : Notice) (h : ¬s.line.queue.length < 16) : (s.post n).line.queue = s.line.queue := by
  unfold State.post
  rw [if_neg (show ¬s.line.queue.length < Config.queueRoom from h)]
  unfold State.passNoticeLost
  simp only
  split
  · rfl
  · split <;> rfl

/-- The queue after an event: with room, the ALARM notice of one that posts a notice is its newest (R168, R185). -/
theorem pass_queue (s : State) (a : AlarmId) : (s.pass a).line.queue =
    if (s.alarm.get a).set = false ∧ (s.alarm.get a).enabled = true ∧ s.line.queue.length < 16 then
      s.line.queue ++ [.alarm a s.field (s.alarmFrame a)]
    else s.line.queue := by
  cases hset : (s.alarm.get a).set with
  | true =>
    obtain ⟨l, hl⟩ := pass_of_silent s a (.inl hset)
    rw [hl, if_neg (by simp)]
    rfl
  | false =>
    cases hen : (s.alarm.get a).enabled with
    | false =>
      obtain ⟨l, hl⟩ := pass_of_silent s a (.inr hen)
      rw [hl, if_neg (by simp)]
      rfl
    | true =>
      by_cases hq : s.line.queue.length < 16
      · rw [pass_of_room s a hset hen hq, if_pos ⟨rfl, rfl, hq⟩]
      · rw [if_neg (by simp [hq])]
        unfold State.pass
        simp only [hset, hen, Bool.false_eq_true, if_false, if_true]
        exact post_queue_full _ _ hq

/-- Only a notice that a full queue discards passes NOTICE_LOST. -/
theorem pass_noticeLost (s : State) {a : AlarmId} (ha : a ≠ .dev .noticeLost)
    (h : (s.alarm.get a).set = true ∨ (s.alarm.get a).enabled = false ∨ s.line.queue.length < 16) :
    (s.pass a).alarm.get (.dev .noticeLost) = s.alarm.get (.dev .noticeLost) ∧ (s.pass a).line.discarded = s.line.discarded := by
  have hput (l : Latch) : (s.alarm.put a l).refresh.get (.dev .noticeLost) = s.alarm.get (.dev .noticeLost) :=
    (AlarmUnit.get_refresh _ _).trans (AlarmUnit.get_put_other _ _ ha.symm)
  by_cases hs : (s.alarm.get a).set = true ∨ (s.alarm.get a).enabled = false
  · obtain ⟨l, hl⟩ := pass_of_silent s a hs
    rw [hl]
    exact ⟨hput l, rfl⟩
  · obtain ⟨hset, hen⟩ := not_or.1 hs
    have hq := (h.resolve_left hset).resolve_left hen
    rw [pass_of_room s a (by simpa using hset) (by simpa using hen) hq]
    exact ⟨hput _, rfl⟩

/-! ### What the two edges find -/

/-- An event finds RESET as it was. -/
theorem arrive_resetHeld (s : State) (m : Moment) : (s.arrive m).resetHeld = s.resetHeld := (arriveAt_kept s _ _).2.2

theorem exec_estopAsserted (m : Moment) {s : State} (h : s.resetHeld = false) :
    exec (.estopAsserted m) s = .next (if (s.arrive m).estop then s.arrive m else (s.arrive m).assertEstop) := by
  show execEstopAsserted m s = _
  rw [execEstopAsserted, if_neg (by simp [h]), event_of_running _ _ h]

theorem exec_estopReleased (m : Moment) {s : State} (h : s.resetHeld = false) :
    exec (.estopReleased m) s = .next (if (s.arrive m).estop then { s.arrive m with estop := false }.pass (.dev .estopReleased)
      else s.arrive m) := by
  show execEstopReleased m s = _
  rw [execEstopReleased, if_neg (by simp [h]), event_of_running _ _ h]

end Sys2Proof.Machine

section
open Sys2Proof Sys2Proof.Machine Sys2Proof.Claims

/-- Settles O59: block by block on the power-on values. -/
theorem resetMeetsInvariants : Obligations.ResetMeetsInvariants := by
  obtain ⟨hfollow, hhold⟩ := (channelsSound_iff _).1 reset_channelsSound
  refine ⟨hfollow, hhold, reset_trackerFits, ?_, reset_cuesWhole, ⟨by decide, by decide⟩, ?_, ?_, reset_placesDistinct, ?_⟩
  · exact ⟨iff_of_false (by decide) (not_shows_powerOn _), iff_of_false (by decide) (not_shows_powerOn _)⟩
  · intro r x rec rec' hrec
    rw [reset_records] at hrec
    cases hrec
  · intro i r hclaim
    have hnone : State.reset.isl[i].claim = none := by clear hclaim; revert i; decide
    rw [hnone] at hclaim
    cases hclaim
  · intro r q hslot
    have hnone : State.reset.take.slots[r] = none := by clear hslot; revert r; decide
    rw [hnone] at hslot
    cases hslot

/-- Settles O5: the channels and trackers as the line stops them, then what PROTECT and the endings of the records leave alone. -/
theorem estopAssertedStopsAll : Obligations.EstopAssertedStopsAll := by
  intro s m h
  have hexec := exec_estopAsserted m h
  have hheld := (arrive_resetHeld s m).trans h
  generalize s.arrive m = u at *
  refine ⟨fun he => by rw [hexec, if_pos he], fun he => ?_⟩
  rw [if_neg (by rw [he]; decide)] at hexec
  have hset := assertEstop_settings u
  have hslots := assertEstop_slots u
  obtain ⟨hrec, hclaim⟩ := assertEstop_records u
  have hon := assertEstop_handedOn u
  obtain ⟨hkept, hch, htr⟩ := estopped_kept u
  have hlatched : Latched u.assertEstop (.dev .estop) := hon.latched _ (pass_latches { u with estop := true } (.dev .estop))
  generalize u.assertEstop = v at *
  generalize u.estopped = w at *
  refine ⟨v, hexec, ?_, fun p => ⟨?_, ?_⟩, hlatched, hslots, ?_, hrec, hclaim, ?_, ?_, ?_, ?_, ?_, ?_, hset⟩
  all_goals rw [hon.eq]
  case refine_2 => exact hch p
  case refine_3 => exact htr p
  all_goals rw [hkept]
  exact hheld

/-- Settles O6: one event passed, on the state that the release finds. -/
theorem estopReleasedOnlyLatches : Obligations.EstopReleasedOnlyLatches := by
  intro s m h
  have hexec := exec_estopReleased m h
  generalize s.arrive m = u at *
  refine ⟨fun he => by rw [hexec, if_neg (by simp [he])], fun he => ?_⟩
  rw [if_pos he] at hexec
  have hne : AlarmId.dev .estopReleased ≠ .dev .noticeLost := by decide
  have hpass := pass_notified { u with estop := false } (.dev .estopReleased)
  have hlines := lines_of_refreshed (pass_refreshed { u with estop := false } (.dev .estopReleased))
  have hsame := pass_get_same { u with estop := false } hne
  have hother := fun a => pass_get_other { u with estop := false } (a := .dev .estopReleased) (b := a)
  have hlost := pass_noticeLost { u with estop := false } hne
  have hqueue := pass_queue { u with estop := false } (.dev .estopReleased)
  generalize ({ u with estop := false } : State).pass (.dev .estopReleased) = w at *
  refine ⟨w.alarm, w.line, hexec.trans ?_, hsame, hother, hlost, hpass.flags, hlines.1, hlines.2, hqueue, hpass.line⟩
  rw [hpass.eq]

end
end

section
/-! The records of a projector (R129), and the rows whose steps belong to a boundary: channels and trackers (R22 to R29, R54, R58). -/

namespace Sys2Proof.Machine
open Sys2Proof.Claims

/-! ### The record of a projector (R129) -/

theorem findRec_eq_none {s : State} {f : Record → Bool} (h : ∀ (r : Rec) (rec : Record), s.eng.records[r] = some rec → f rec = false) :
    s.findRec f = none := by
  refine List.find?_eq_none.2 fun r _ => ?_
  cases hr : s.eng.records[r] with
  | none => simp
  | some rec => simp [h r rec hr]

theorem asOutgoing_eq_none {s : State} {p : Proj} (h : InNoRecord s p) : s.asOutgoing p = none :=
  findRec_eq_none fun r rec hr => decide_eq_false (h r rec hr).1

theorem asIncoming_eq_none {s : State} {p : Proj} (h : NotIncoming s p) : s.asIncoming p = none :=
  findRec_eq_none fun r rec hr => decide_eq_false (h r rec hr)

theorem notIncoming_of_inNoRecord {s : State} {p : Proj} (h : InNoRecord s p) : NotIncoming s p :=
  fun r rec hr => (h r rec hr).2

/-- A projector that some record has as incoming (R18). -/
theorem asIncoming_isSome {s : State} {p : Proj} (h : ¬NotIncoming s p) : (s.asIncoming p).isSome = true := by
  by_contra hno
  refine h fun r rec hr hb => ?_
  have hnone : s.asIncoming p = none := by simpa using hno
  exact absurd (findRec_none hnone hr) (by simp [hb])

theorem engineFault_of_free {s : State} {p : Proj} (h : InNoRecord s p) (e : Bool) : s.engineFault p e = s := by
  unfold State.engineFault
  rw [asOutgoing_eq_none h, asIncoming_eq_none (notIncoming_of_inNoRecord h)]

/-! ### Rows that take a waiting step (assumption 7) -/

theorem event_takeDue {s : State} {d : Due} (h : s.resetHeld = false) (hd : d ∈ s.due) (hc : s.canTake d = true) :
    s.event (fun s => s.takeDue d) = .next ((s.dropDue d).effect d) := by
  rw [event_of_running s _ h, takeDue_of_mem s d hd hc]

theorem event_takeDue_of_not_mem {s : State} {d : Due} (h : s.resetHeld = false) (hd : d ∉ s.due) :
    s.event (fun s => s.takeDue d) = .next s := by
  rw [event_of_running s _ h, takeDue_of_not_mem s d hd]

theorem mem_dropDue {s : State} {d e : Due} : e ∈ (s.dropDue d).due ↔ e ∈ s.due ∧ e ≠ d := by simp [State.dropDue]

/-! ### Entry to FAULT at a row (R31) -/

theorem toFault_eq (c : Channel) (cause : Cause) (off : Bool) : c.toFault cause off = faulted c cause (c.lamp && !off) := rfl

/-- What an entry to FAULT leaves of the blocks, the first of the faults giving the cause (R31, R45). -/
theorem enterFault_frame (s : State) (p : Proj) (f : ChanFault) (fs : List ChanFault) :
    let t := s.enterFault p (f :: fs)
    t.ch = s.ch.set p (faulted s.ch[p] f.cause (s.ch[p].lamp && !(f :: fs).any (fun x => x = .lampFail)))
      ∧ t.tr = s.tr.set p (stopped s.tr[p]) ∧ (∀ d ∈ t.due, d ∈ s.due)
      ∧ t.cues = s.cues ∧ t.det = s.det ∧ t.route = s.route ∧ t.tb = s.tb
      ∧ ∀ x ∈ f :: fs, Latched t (.proj p x.alarm) := by
  intro t
  have hk := beforeFault_handedOn s p (f :: fs)
  have hl := fun x (hx : x ∈ f :: fs) => beforeFault_latches s p (f :: fs) hx
  have ht : t = _ := enterFault_eq s p f fs
  rw [ht]
  generalize s.beforeFault p (f :: fs) = w at hk hl
  refine ⟨?_, ?_, hk.due, hk.cues, hk.det, hk.route, hk.tb, hl⟩
  · show w.ch.set p (w.ch[p].toFault _ _) = _
    rw [hk.ch, toFault_eq]
  · show w.tr.set p w.tr[p].motorOff = _
    rw [hk.tr]
    rfl

/-- A fault that is no protective event, on a projector of no record, reaches the alarm unit alone (R100, R104). -/
theorem enterFault_of_unprotected (s : State) (p : Proj) (f : ChanFault) (hno : InNoRecord s p)
    (hprot : s.isProtective p f.kind = false) (hstrike : s.strikesTarget p f.kind = false) :
    (s.enterFault p [f]).take = s.take ∧ (s.enterFault p [f]).eng = s.eng ∧ (s.enterFault p [f]).isl = s.isl := by
  have hpass := pass_notified s (.proj p f.alarm)
  have hfind : ∀ g : Record → Bool, (s.pass (.proj p f.alarm)).findRec g = s.findRec g := fun g => by
    unfold State.findRec
    rw [hpass.eng]
  have hprot' : (s.pass (.proj p f.alarm)).isProtective p f.kind = false := by
    rw [← hprot]
    simp only [State.isProtective, State.onAir, hpass.take, hpass.route, hpass.isl, hpass.ch, hfind]
  have hstrike' : (s.pass (.proj p f.alarm)).strikesTarget p f.kind = false := by
    rw [← hstrike]
    simp only [State.strikesTarget, hpass.take]
  have hno' : InNoRecord (s.pass (.proj p f.alarm)) p := by
    unfold InNoRecord
    rw [hpass.eng]
    exact hno
  have hbefore : s.beforeFault p [f] = s.pass (.proj p f.alarm) := by
    show ((s.pass (.proj p f.alarm)).protect p f.kind).engineFault p _ = _
    rw [protect_of_none _ p f.kind hprot' hstrike', engineFault_of_free hno']
  rw [enterFault_eq, hbefore]
  exact ⟨hpass.take, hpass.eng, hpass.isl⟩

/-- What an entry to FAULT leaves when its row then drops the other row of the same boundary (R24, R28). -/
theorem faultRow_frame (s : State) (p : Proj) (d e : Due) (f : ChanFault) (fs : List ChanFault) :
    let t := ((s.dropDue d).enterFault p (f :: fs)).dropDue e
    t.ch = s.ch.set p (faulted s.ch[p] f.cause (s.ch[p].lamp && !(f :: fs).any (fun x => x = .lampFail)))
      ∧ t.tr = s.tr.set p (stopped s.tr[p]) ∧ d ∉ t.due ∧ e ∉ t.due
      ∧ t.cues = s.cues ∧ t.det = s.det ∧ t.route = s.route ∧ t.tb = s.tb
      ∧ ∀ x ∈ f :: fs, Latched t (.proj p x.alarm) := by
  intro t
  obtain ⟨hch, htr, hdue, hcues, hdet, hroute, htb, hl⟩ := enterFault_frame (s.dropDue d) p f fs
  refine ⟨hch, htr, fun hd => ?_, fun he => (mem_dropDue.1 he).2 rfl, hcues, hdet, hroute, htb, hl⟩
  exact (mem_dropDue.1 (hdue d (mem_dropDue.1 hd).1)).2 rfl

/-! ### The faults of the lamp and of the run-up (R24, R28) -/

theorem watched_iff (c : Channel) : c.state = .ready ∨ c.running = true ↔ c.state = .ready ∨ c.state = .runup ∨ c.state = .run := by
  simp [Channel.running]

theorem runupOut_iff (c : Channel) :
    c.runupOut = true ↔ c.state = .runup ∧ ∃ x, c.runup = some x ∧ x.limit ≤ x.count := by
  simp [Channel.runupOut, Timer.reached, Option.any_eq_true]

/-- A lamp that has failed comes first among the faults of the counts, a run-up that has run out beside it (R31). -/
theorem countFaults_of_lamp {c : Channel} (hw : c.state = .ready ∨ c.running = true) (hf : c.lampFails = 2) (runupDue : Bool) :
    c.countFaults true runupDue = .lampFail :: (if runupDue && c.runupOut then [.lockFail] else []) := by
  have hw' : (decide (c.state = .ready) || c.running) = true := by simpa using hw
  simp [Channel.countFaults, hw', hf]

/-- With no lamp failure due, a run-up that has run out stands alone. -/
theorem countFaults_of_late {c : Channel} (h : c.runupOut = true) : c.countFaults false true = [.lockFail] := by
  simp [Channel.countFaults, h]

/-- Out of READY, RUNUP and RUN no lamp fails (R24). -/
theorem countFaults_of_unwatched {c : Channel} (hw : ¬(c.state = .ready ∨ c.running = true)) : c.countFaults true false = [] := by
  have hw' : (decide (c.state = .ready) || c.running) = false := by simpa using hw
  simp [Channel.countFaults, hw']

theorem dropDue_of_not_mem {s : State} {d : Due} (h : d ∉ s.due) : s.dropDue d = s := by
  have hfilter : s.due.filter (fun x => x ≠ d) = s.due :=
    List.filter_eq_self.2 fun x hx => decide_eq_true (ne_of_mem_of_not_mem hx h)
  unfold State.dropDue
  rw [hfilter]

/-- One step dropped, another still waits if it did. -/
theorem decide_mem_dropDue (s : State) {d e : Due} (h : e ≠ d) : decide (e ∈ (s.dropDue d).due) = decide (e ∈ s.due) :=
  decide_eq_decide.2 (mem_dropDue.trans (and_iff_left h))

/-- The row LAMP_FAIL when no other step of the boundary has begun the count again (R24). -/
theorem exec_lampFail {s : State} {p : Proj} (h : s.resetHeld = false) (hd : .lampFail p ∈ s.due)
    (hc : ¬((s.ch[p].state = .ready ∨ s.ch[p].running = true) ∧ s.ch[p].lampFails ≠ 2)) :
    exec (.lampFail p) s = .next (((s.dropDue (.lampFail p)).enterFault p
      (s.ch[p].countFaults true (decide (.runupTimeout p ∈ s.due)))).dropDue (.runupTimeout p)) := by
  rw [← decide_mem_dropDue s (d := .lampFail p) (e := .runupTimeout p) (fun he => by cases he)]
  exact (event_takeDue h hd rfl).trans (congrArg _ (if_neg hc))

/-- The row RUNUP_TIMEOUT when the timer has run out (R28). -/
theorem exec_runupTimeout {s : State} {p : Proj} (h : s.resetHeld = false) (hd : .runupTimeout p ∈ s.due) (hout : s.ch[p].runupOut = true) :
    exec (.runupTimeout p) s = .next (((s.dropDue (.runupTimeout p)).enterFault p
      (s.ch[p].countFaults (decide (.lampFail p ∈ s.due)) true)).dropDue (.lampFail p)) := by
  rw [← decide_mem_dropDue s (d := .runupTimeout p) (e := .lampFail p) (fun he => by cases he)]
  exact (event_takeDue h hd rfl).trans (congrArg _ (if_pos hout))

end Sys2Proof.Machine
end

section
open Sys2Proof Sys2Proof.Machine Sys2Proof.Claims

/-- Settles O16: the rows STRIKE_END and COAST_END by the effect of their step; a strike failure is no protective event (R22). -/
theorem strikeAndCoastEnd : Obligations.StrikeAndCoastEnd := by
  intro s p h
  refine ⟨fun hd hs hl => ?_, fun hd hs hl => ?_, fun hd hs => ?_, fun hd => event_takeDue_of_not_mem h hd,
    fun hd => event_takeDue_of_not_mem h hd⟩
  · refine (event_takeDue h hd rfl).trans (congrArg _ ?_)
    exact (if_pos hs).trans (if_pos hl)
  · refine ⟨_, (event_takeDue h hd rfl).trans (congrArg _ ((if_pos hs).trans (if_neg (by rw [show (s.dropDue _).alarm = s.alarm from rfl, hl]; decide)))), ?_⟩
    obtain ⟨hch, htr, -, hcues, hdet, hroute, htb, hlatched⟩ := enterFault_frame (s.dropDue (.strikeEnd p)) p .lampFail []
    refine ⟨?_, htr, hlatched _ List.mem_cons_self, fun hno htarget => ?_, hcues, hdet, hroute, htb⟩
    · exact hch.trans (by simp [ChanFault.cause])
    · refine enterFault_of_unprotected (s.dropDue (.strikeEnd p)) p .lampFail hno ?_ ?_
      · have hstrike : (s.dropDue (.strikeEnd p)).ch[p].state = .strike := hs
        unfold State.isProtective
        rw [hstrike]
        simp [ChanFault.kind]
      · unfold State.strikesTarget
        rw [Bool.and_eq_false_iff]
        refine .inr ?_
        rw [Option.any_eq_false]
        exact fun q hq => decide_eq_false (htarget q hq)
  · refine (event_takeDue h hd rfl).trans (congrArg _ ?_)
    exact if_pos hs

/-- Settles O17: either row enters FAULT with the faults of the counts, and drops the other row. -/
theorem lampAndRunupFaults : Obligations.LampAndRunupFaults := by
  intro s p h watched fails late taken
  have hout (hl : late) : s.ch[p].runupOut = true := (runupOut_iff _).2 hl.2
  have hfails (hf : fails) : (s.ch[p].state = .ready ∨ s.ch[p].running = true) ∧ s.ch[p].lampFails = 2 :=
    ⟨(watched_iff _).2 hf.2.1, hf.2.2⟩
  have hlampRow (hf : fails) := exec_lampFail h hf.1 fun hc => hc.2 hf.2.2
  refine ⟨fun hf hr => ?_, fun hd hw hzero => ?_, fun hd hw hr => ?_, fun hl hlamp => ?_, fun hf hl row hrow => ?_⟩
  · refine ⟨_, hlampRow hf, ?_⟩
    rw [decide_eq_false hr, countFaults_of_lamp (hfails hf).1 (hfails hf).2]
    obtain ⟨hch, htr, hd, he, hcues, hdet, hroute, htb, hlatched⟩ := faultRow_frame s p (.lampFail p) (.runupTimeout p) .lampFail []
    exact ⟨⟨hch.trans (by simp [ChanFault.cause]), htr, hd, he, hcues, hdet, hroute, htb⟩, hlatched _ List.mem_cons_self⟩
  · refine (event_takeDue h hd rfl).trans (congrArg _ ?_)
    exact if_pos ⟨(watched_iff _).2 hw, by rw [show (s.dropDue _).ch = s.ch from rfl, hzero]; decide⟩
  · have hw' := fun hr => hw ((watched_iff _).1 hr)
    rw [exec_lampFail h hd fun hc => hw' hc.1, decide_eq_false hr, countFaults_of_unwatched hw']
    exact congrArg _ (dropDue_of_not_mem fun hd => hr (mem_dropDue.1 hd).1)
  · refine ⟨_, exec_runupTimeout h hl.1 (hout hl), ?_⟩
    rw [decide_eq_false hlamp, countFaults_of_late (hout hl)]
    obtain ⟨hch, htr, hd, he, hcues, hdet, hroute, htb, hlatched⟩ := faultRow_frame s p (.runupTimeout p) (.lampFail p) .lockFail []
    exact ⟨⟨hch.trans (by simp [ChanFault.cause]), htr, he, hd, hcues, hdet, hroute, htb⟩, hlatched _ List.mem_cons_self⟩
  · have hboth : s.ch[p].countFaults true true = [.lampFail, .lockFail] := by
      rw [countFaults_of_lamp (hfails hf).1 (hfails hf).2, hout hl]
      rfl
    obtain rfl | rfl := List.mem_pair.1 hrow
    · refine ⟨_, hlampRow hf, ?_⟩
      rw [decide_eq_true hl.1, hboth]
      obtain ⟨hch, htr, hd, he, hcues, hdet, hroute, htb, hlatched⟩ :=
        faultRow_frame s p (.lampFail p) (.runupTimeout p) .lampFail [.lockFail]
      exact ⟨⟨hch.trans (by simp [ChanFault.cause]), htr, hd, he, hcues, hdet, hroute, htb⟩, hlatched .lampFail (by decide),
        hlatched .lockFail (by decide)⟩
    · refine ⟨_, exec_runupTimeout h hl.1 (hout hl), ?_⟩
      rw [decide_eq_true hf.1, hboth]
      obtain ⟨hch, htr, hd, he, hcues, hdet, hroute, htb, hlatched⟩ :=
        faultRow_frame s p (.runupTimeout p) (.lampFail p) .lampFail [.lockFail]
      exact ⟨⟨hch.trans (by simp [ChanFault.cause]), htr, he, hd, hcues, hdet, hroute, htb⟩, hlatched .lampFail (by decide),
        hlatched .lockFail (by decide)⟩

end

section
/-! The tracker's rows at a boundary (R54, R58, R59), and the start of a changeover (R137, R138). -/

namespace Sys2Proof.Machine
open Sys2Proof.Claims

/-! ### A lock declared (R26, R40, R54) -/

theorem pushHistory_eq (h : List (Nat × Nat)) (x : Nat × Nat) :
    pushHistory h x = if h.length < 8 then h ++ [x] else h.tail ++ [x] := by
  simp [pushHistory]

/-- A number of fields or frames taken to a range that begins at 0. -/
theorem clampNat_toNat (hi : Nat) (x : Int) : clampNat 0 hi x.toNat = (max 0 (min (hi : Int) x)).toNat := by
  unfold clampNat
  omega

/-- The tracker that a pending lock declares (R54). -/
def Tracker.declared (t : Tracker) (q : PendingLock) : Tracker :=
  { t with
    lock := .locked
    pos := some ⟨t.frame, q.i, q.c⟩
    edgeDue := some (q.declare - BitVec.ofNat 32 q.i + BitVec.ofNat 32 q.c.len)
    slipWait := none
    pendingLock := none
    out := 0
    run := 0
    lastIn := none }

/-- A pending lock at its boundary: the tracker is LOCKED, and a channel in RUNUP enters RUN (R26, R54). -/
theorem declareLock_of_pending (s : State) (p : Proj) (q : PendingLock) (hlock : s.tr[p].lock = .search)
    (hpending : s.tr[p].pendingLock = some q) (hdeclare : q.declare = s.tb.field) :
    s.declareLock p =
      if s.ch[p].state = .runup then
        (s.updTr p fun t => t.declared q).updCh p fun c => c.toRun s.tb.field s.tr[p].frame
      else s.updTr p fun t => t.declared q := by
  unfold State.declareLock
  rw [hlock, hpending]
  simp only
  rw [if_pos (show q.declare = s.field from hdeclare)]
  have hframe : (s.updTr p fun t => t.declared q).tr[p].frame = s.tr[p].frame :=
    (congrArg Tracker.frame (getElem_set_same s.tr p (s.tr[p].declared q))).trans rfl
  rw [← hframe]
  rfl

/-- A run-up from READY joins the history as its fields and its frames (R39, R40). -/
theorem toRun_history (c : Channel) (n : Field) (frame : Int) {x : RunRecord} (hx : c.record = some x) (h : x.fromReady = true) :
    (c.toRun n frame).history = pushHistory c.history
      ((max 0 (min 1023 (fieldDiff n x.startField))).toNat, (max 0 (min 255 (frame - x.startFrame))).toNat) := by
  unfold Channel.toRun
  simp only [hx, h, if_true, clampNat_toNat]
  rfl

/-- Any other run leaves the history as it is. -/
theorem toRun_history_kept (c : Channel) (n : Field) (frame : Int) (h : ∀ x ∈ c.record, x.fromReady = false) :
    (c.toRun n frame).history = c.history := by
  unfold Channel.toRun
  simp only
  cases hx : c.record with
  | none => rfl
  | some x => simp [h x hx]

/-! ### A loss of lock that is no protective event (R59, R99, R158) -/

theorem loseLock_of_unprotected (s : State) (p : Proj) (hr : s.ch[p].state = .run) (hoff : s.take.protectSet.getLsbD 6 = false) :
    s.loseLock p = ((s.updTr p Tracker.toSearch).updCh p (fun c => c.backToRunup s.field)).pass (.proj p .lockLost) := by
  have hprot (t : State) (ht : t.take = s.take) : t.isProtective p .lockLost = false ∧ t.strikesTarget p .lockLost = false := by
    have : t.take.protects .lockLost = false := by rw [ht]; exact hoff
    simp [State.isProtective, State.strikesTarget, this]
  have hpass := pass_notified ((s.updTr p Tracker.toSearch).updCh p (fun c => c.backToRunup s.field)) (.proj p .lockLost)
  obtain ⟨hprot2, hstrike2⟩ := hprot _ hpass.take
  obtain ⟨hprot1, -⟩ := hprot (s.updTr p Tracker.toSearch) rfl
  unfold State.loseLock
  simp only
  rw [if_pos (by simpa using hr), hprot1]
  have hprotect := protect_of_none _ p .lockLost hprot2 hstrike2
  refine (congrArg (fun t : State => t.engineLockLost p false _) hprotect).trans ?_
  unfold State.engineLockLost
  split <;> rfl

/-! ### START at an engine's request (R25, R137) -/

theorem skipAtStart_of_none (s : State) (p : Proj) (h : ∀ e ∈ s.cues.lists[p], s.tr[p].frame ≤ e.pos) : s.skipAtStart p = s := by
  unfold State.skipAtStart
  rw [List.filter_eq_nil_iff.2 fun e he => by simpa using h e he]
  rfl

/-- A count of entries ahead that stays passes no CUE_LOW (R123). -/
theorem lowTest_of_same (s : State) (p : Proj) : s.lowTest p (s.ahead p) = s := by
  unfold State.lowTest
  simp only
  rw [show (decide (s.cues.low[p] ≠ 0) && decide (s.cues.low[p] ≤ s.ahead p) && decide (s.ahead p < s.cues.low[p])) = false by
    simp]
  rfl

/-- A START with no cue behind the frame count and the perf phase at 0 (R25). -/
theorem doStart_eq (s : State) (p : Proj) (hcues : ∀ e ∈ s.cues.lists[p], s.tr[p].frame ≤ e.pos) (hphase : s.tr[p].phase = 0) :
    s.doStart p = (s.updCh p (fun c => c.beginRunup s.field s.tr[p].frame)).updTr p Tracker.motorOn := by
  have hframe : ((s.updCh p (fun c => c.beginRunup s.field s.tr[p].frame)).updTr p Tracker.motorOn).tr[p].frame = s.tr[p].frame :=
    (congrArg Tracker.frame (getElem_set_same s.tr p s.tr[p].motorOn)).trans rfl
  unfold State.doStart
  rw [hphase]
  show State.lowTest (State.skipAtStart ((s.updCh p _).updTr p Tracker.motorOn) p) p (s.ahead p) = _
  rw [skipAtStart_of_none _ p fun e he => by rw [hframe]; exact hcues e he]
  have hahead : ((s.updCh p (fun c => c.beginRunup s.field s.tr[p].frame)).updTr p Tracker.motorOn).ahead p = s.ahead p :=
    congrArg (aheadOf s.cues.lists[p]) hframe
  rw [← hahead]
  exact lowTest_of_same _ p

theorem giveStart_of_ready {s : State} {r : Rec} {rec : Record} (hrec : s.eng.records[r] = some rec) (he : s.estop = false)
    (hs : s.ch[rec.b].state = .ready) :
    s.giveStart r = (s.doStart rec.b).updRec r (fun rec => { rec with state := .starting, startField := some s.field }) := by
  unfold State.giveStart State.requestStart
  rw [hrec]
  simp only [he, Bool.false_eq_true, if_false, Bool.false_and]
  rw [if_neg (not_not.2 hs)]

theorem giveStart_of_refused {s : State} {r : Rec} {rec : Record} (hrec : s.eng.records[r] = some rec)
    (h : s.estop = true ∨ s.ch[rec.b].state ≠ .ready) : s.giveStart r = s.endRecord r .incomingFailed := by
  rcases giveStart_cases s r rec hrec with ⟨hready, -⟩ | heq
  · have he : s.estop = true := h.resolve_right (not_not.2 hready)
    unfold State.giveStart State.requestStart
    rw [hrec]
    simp only [he, if_true]
  · exact heq

theorem startEvaluation_of_armed {s : State} {r : Rec} {rec : Record} (hrec : s.eng.records[r] = some rec) (hs : rec.state = .armed) :
    s.startEvaluation r = match s.fieldPos rec.a with
      | none => s
      | some q => if q.reach rec.p ≤ rec.lead then s.giveStart r else s := by
  unfold State.startEvaluation
  rw [hrec]
  simp only [hs, if_true] <;> rfl

/-! ### The ending of a record with room in the queue (R150, R151) -/

theorem ended_endRecord {s : State} {r : Rec} {rec : Record} (res : Result) (hrec : s.eng.records[r] = some rec)
    (hq : s.line.queue.length < 16) : Ended s (s.endRecord r res) r rec (rec.endResult res) := by
  rw [endRecord_of_room s r res rec hrec hq]
  refine ⟨rfl, rfl, fun i => ?_, rfl, rfl, rfl, rfl, rfl, rfl⟩
  simp only [Fin.getElem_fin, getElem_map4]
  split <;> rfl

/-- Before TAILOUT an ending reports its own result (R150). -/
theorem endResult_of_ne_tailout {rec : Record} (h : rec.state ≠ .tailout) (res : Result) : rec.endResult res = res :=
  if_neg fun h' => h h'.1

end Sys2Proof.Machine

section
open Sys2Proof Sys2Proof.Machine Sys2Proof.Claims

/-- Settles O19: the effect of LOCK_DECLARED on a pending lock at its boundary, by the channel's state. -/
theorem lockDeclaredBringsRun : Obligations.LockDeclaredBringsRun := by
  intro s p q h hd hlock hpending hdeclare t c locked running
  have hexec : exec (.lockDeclared p) s = .next ((s.dropDue (.lockDeclared p)).declareLock p) := event_takeDue h hd rfl
  have hdeclared := declareLock_of_pending (s.dropDue (.lockDeclared p)) p q hlock hpending hdeclare
  have hrun (history : List (Nat × Nat)) (hh : (c.toRun s.tb.field t.frame).history = history) :
      c.toRun s.tb.field t.frame = { running with history := history } := by
    rw [← hh]
    rfl
  refine ⟨fun hs => hexec.trans (congrArg _ (hdeclared.trans (if_neg hs))), fun hs hold => ?_, fun x hs hx hready => ?_⟩
  all_goals refine hexec.trans (congrArg _ ((hdeclared.trans (if_pos hs)).trans ?_))
  · exact congrArg (fun d => { s.dropDue (.lockDeclared p) with tr := s.tr.set p locked, ch := s.ch.set p d })
      (hrun _ (toRun_history_kept c _ _ hold))
  · exact congrArg (fun d => { s.dropDue (.lockDeclared p) with tr := s.tr.set p locked, ch := s.ch.set p d })
      (hrun _ ((toRun_history c _ _ hx hready).trans (pushHistory_eq _ _)))

/-- Settles O21: a missing edge is a loss of lock; out of RUN the tracker alone changes. -/
theorem missingEdgeLosesLock : Obligations.MissingEdgeLosesLock := by
  intro s p d h hd hlock hedge hfield
  have hmissing : (s.dropDue (.missingEdge p)).tr[p].edgeMissing (s.dropDue (.missingEdge p)).field = true := by
    show s.tr[p].edgeMissing s.tb.field = true
    unfold Tracker.edgeMissing
    rw [hlock, hedge, hfield]
    simp
  have hexec : exec (.missingEdge p) s = .next ((s.dropDue (.missingEdge p)).loseLock p) :=
    (event_takeDue h hd rfl).trans (congrArg _ (if_pos hmissing))
  refine ⟨fun hs => ?_, fun hs => ?_⟩
  · rw [hexec, loseLock_of_not_run (s.dropDue (.missingEdge p)) p hs]
    rfl
  · have hset := takeDue_settings s (.missingEdge p)
    rw [takeDue_of_mem s _ hd rfl] at hset
    obtain ⟨hon, hlatched⟩ := loseLock_of_run (s.dropDue (.missingEdge p)) p hs
    refine ⟨_, hexec, hon.tr, hon.ch, hlatched, fun hoff => ?_, hon.cues, hon.det, hon.route, hon.tb, ?_⟩
    · rw [loseLock_of_unprotected (s.dropDue (.missingEdge p)) p hs hoff]
      have hpass := pass_notified (((s.dropDue (.missingEdge p)).updTr p Tracker.toSearch).updCh p
        (fun c => c.backToRunup (s.dropDue (.missingEdge p)).field)) (.proj p .lockLost)
      exact ⟨hpass.take, hpass.eng, hpass.isl⟩
    · exact (show State.effect _ (.missingEdge p) = _ from if_pos hmissing) ▸ hset

/-- Settles O26: the start evaluation by the position for the field, the reach and the channel's answer. -/
theorem changeoverStartFollowsReach : Obligations.ChangeoverStartFollowsReach := by
  intro s r rec h hd hrec hs n b v
  have hexec : exec (.changeoverStart r) s = .next (v.startEvaluation r) := event_takeDue h hd rfl
  have heval := startEvaluation_of_armed (s := v) hrec hs
  have hpos : v.fieldPos rec.a = s.fieldPos rec.a := rfl
  rw [hpos] at heval
  rw [hexec, heval]
  refine ⟨fun hnone => by rw [hnone], fun q hq => ?_⟩
  rw [hq]
  refine ⟨fun hlt => congrArg _ (if_neg (by omega)), fun hle he hready hcues hphase => ?_, fun hle hrefuse hroom => ?_⟩
  · refine congrArg _ ((if_pos hle).trans ?_)
    rw [giveStart_of_ready (s := v) hrec he hready, doStart_eq v b hcues hphase]
    unfold State.updRec
    rw [show ((v.updCh b (fun c => c.beginRunup v.field v.tr[b].frame)).updTr b Tracker.motorOn).eng = s.eng from rfl, hrec]
    rfl
  · refine ⟨v.endRecord r .incomingFailed, congrArg _ ((if_pos hle).trans (giveStart_of_refused (s := v) hrec hrefuse)), ?_,
      (endRecord_engineOnly v r _).ch, (endRecord_engineOnly v r _).tr⟩
    have hended := ended_endRecord (s := v) .incomingFailed hrec hroom
    rw [endResult_of_ne_tailout (by rw [hs]; decide)] at hended
    exact ⟨hended.records, hended.request, hended.claims, hended.notice, hended.rest⟩

end
end

section
/-! A frame that is heard: its command is carried out on the state that it finds, and answered (R180 to R182). -/

namespace Sys2Proof.Machine
open Sys2Proof.Claims

/-! ### A heard frame and its answer -/

/-- The state with the frame of `u` counted and the reply `r` in the line controller, as a command finds it. -/
def State.framed (v u : State) (r : Option Reply) : State :=
  { v with line := { v.line with taken := min 65535 (u.line.taken + 1), reply := r } }

/-- A command row whose frame is heard with `r` for the reply that its command finds: whatever the command makes of the state found is
answered (R180 to R182). -/
structure Heard (s : State) (m : Moment) (via : Via) (u : State) (r : Option Reply) : Prop where
  answered : ∀ {code : Byte} {cmd : State → Answer} {v : State} {st : Status} {body : List Byte},
    cmd (u.asFound r) = ⟨v.framed u r, st, body⟩ → v.line.own = u.line.own → v.line.reply = u.line.reply → v.now = u.now →
    s.message m via code cmd = .next (Answered via u code st.code body v)
  kept : ∀ {code : Byte} {cmd : State → Answer} {w : State} {st : Status} {body : List Byte},
    cmd (u.asFound r) = ⟨w, st, body⟩ → w.line.own = u.line.own → w.line.taken = min 65535 (u.line.taken + 1) → w.now = u.now →
    s.message m via code cmd = .next (Answered via u code st.code body w)

theorem heard {s : State} {m : Moment} {via : Via} (h : Hears s m via) : ∃ r, Heard s m via (s.arrive m) r := by
  cases via with
  | individual =>
    obtain ⟨r, hr⟩ := message_individual_asFound s m h.1 (h.2 rfl)
    generalize s.arrive m = u at *
    refine ⟨r, ⟨fun hcmd hown _ hnow => ?_, fun hcmd hown htaken hnow => ?_⟩⟩
    · rw [hr, hcmd]
      unfold Answered replyTo
      rw [← hown, ← hnow]
      rfl
    · rw [hr, hcmd]
      unfold Answered replyTo
      rw [← hown, ← htaken, ← hnow]
      rfl
  | group =>
    have hr := fun code cmd => message_group_asFound s m code cmd h.1
    generalize s.arrive m = u at *
    refine ⟨u.line.reply, ⟨fun hcmd hown hreply hnow => ?_, fun hcmd hown htaken hnow => ?_⟩⟩
    · rw [hr, hcmd, ← hreply]
      rfl
    · rw [hr, hcmd]
      unfold Answered
      rw [← htaken]
      rfl

namespace Heard

variable {s : State} {m : Moment} {via : Via} {u : State} {r : Option Reply} (h : Heard s m via u r)
  {row : Instr} {code : Byte} {cmd : State → Answer}
include h

/-- A row whose command changes nothing: a refusal or an answer alone. -/
theorem unchanged (hrow : exec row s = s.message m via code cmd) {st : Status} {body : List Byte}
    (hcmd : cmd (u.asFound r) = ⟨u.asFound r, st, body⟩) {b : Byte} (hb : st.code = b) :
    exec row s = .next (Answered via u code b body u) := by
  rw [hrow, ← hb]
  exact h.answered hcmd rfl rfl rfl

/-- A row whose command makes a change outside the line controller and the clock. -/
theorem changed (hrow : exec row s = s.message m via code cmd) {v : State} {st : Status} {body : List Byte}
    (hcmd : cmd (u.asFound r) = ⟨v.framed u r, st, body⟩) (hline : v.line = u.line) (hnow : v.now = u.now) {b : Byte} (hb : st.code = b) :
    exec row s = .next (Answered via u code b body v) := by
  rw [hrow, ← hb]
  exact h.answered hcmd (by rw [hline]) (by rw [hline]) hnow

/-- A row whose command leaves `w`, of the line controller no more changed than its queue and the count of notices discarded. -/
theorem left (hrow : exec row s = s.message m via code cmd) {w : State} {st : Status} {body : List Byte}
    (hcmd : cmd (u.asFound r) = ⟨w, st, body⟩)
    (hline : ({ w.line with queue := (u.asFound r).line.queue, discarded := (u.asFound r).line.discarded } : Line) = (u.asFound r).line)
    (hnow : w.now = u.now) {b : Byte} (hb : st.code = b) : exec row s = .next (Answered via u code b body w) := by
  rw [hrow, ← hb]
  have hown : w.line.own = (u.asFound r).line.own := by simpa using congrArg Line.own hline
  have htaken : w.line.taken = (u.asFound r).line.taken := by simpa using congrArg Line.taken hline
  exact h.kept hcmd hown htaken hnow

end Heard

/-! ### Requests to one projector (R18, R19) -/

theorem projByte_ne_zero (p : Proj) : projByte p ≠ 0 := by
  revert p
  decide

theorem forProjector_projByte (req : State → Proj → State × Status) (p : Proj) (s : State) :
    forProjector req (projByte p) s = ⟨(req s p).1, (req s p).2, []⟩ := by
  unfold forProjector projByte
  rw [projOf_ofNat]
  rfl

theorem forProjector_of_none (req : State → Proj → State × Status) {a : Byte} (h : a.toNat = 0 ∨ 8 < a.toNat) (s : State) :
    forProjector req a s = ⟨s, .badField, []⟩ := by
  unfold forProjector
  rw [projOf_eq_none a h]
  rfl

theorem forProjectors_projByte (req : State → Proj → State × Status) (p : Proj) (s : State) :
    forProjectors req (projByte p) s = ⟨(req s p).1, (req s p).2, []⟩ := by
  unfold forProjectors
  rw [if_neg (projByte_ne_zero p)]
  unfold projByte
  rw [projOf_ofNat]
  rfl

theorem forProjectors_of_none (req : State → Proj → State × Status) {a : Byte} (h : 8 < a.toNat) (s : State) :
    forProjectors req a s = ⟨s, .badField, []⟩ := by
  have hne : a ≠ 0 := fun h0 => by simp [h0] at h
  unfold forProjectors
  rw [if_neg hne, projOf_eq_none a (.inr h)]
  rfl

theorem forProjectors_zero (req : State → Proj → State × Status) (s : State) : forProjectors req 0 s =
    ⟨(s.requestEach req allProj).1, ((s.requestEach req allProj).2.find? (fun st => !st.taken)).getD .accepted,
      (s.requestEach req allProj).2.map Status.code⟩ := rfl

/-- The check of an incoming projector, in the words of the statements (R18). -/
theorem incoming_of_not {u : State} {p : Proj} (h : ¬NotIncoming u p) (r : Option Reply) : ((u.asFound r).asIncoming p).isSome = true :=
  asIncoming_isSome h

theorem not_incoming {u : State} {p : Proj} (h : NotIncoming u p) (r : Option Reply) : ((u.asFound r).asIncoming p).isSome = false :=
  congrArg Option.isSome (asIncoming_eq_none h)

/-! ### INCH (R30) -/

section
variable {s : State} {p : Proj}

theorem requestInch_estop (he : s.estop = true) (fwd : Bool) : s.requestInch p fwd = (s, .estop) := if_pos he

theorem requestInch_incoming (he : s.estop = false) (hi : (s.asIncoming p).isSome = true) (fwd : Bool) :
    s.requestInch p fwd = (s, .inChangeover) := (if_neg (by simp [he])).trans (if_pos hi)

theorem requestInch_taken (he : s.estop = false) (hi : (s.asIncoming p).isSome = false)
    (hs : s.ch[p].state = .dark ∨ s.ch[p].state = .ready) (fwd : Bool) :
    s.requestInch p fwd = (s.updCh p (fun c => c.toInch fwd), .accepted) :=
  (if_neg (by simp [he])).trans ((if_neg (by simp [hi])).trans (if_pos hs))

theorem requestInch_busy (he : s.estop = false) (hi : (s.asIncoming p).isSome = false)
    (hs : ¬(s.ch[p].state = .dark ∨ s.ch[p].state = .ready)) (fwd : Bool) : s.requestInch p fwd = (s, .busy) :=
  (if_neg (by simp [he])).trans ((if_neg (by simp [hi])).trans (if_neg hs))

theorem requestInchStop_estop (he : s.estop = true) : s.requestInchStop p = (s, .estop) := if_pos he

theorem requestInchStop_incoming (he : s.estop = false) (hi : (s.asIncoming p).isSome = true) :
    s.requestInchStop p = (s, .inChangeover) := (if_neg (by simp [he])).trans (if_pos hi)

theorem requestInchStop_taken (he : s.estop = false) (hi : (s.asIncoming p).isSome = false) (hs : s.ch[p].state = .inch) :
    s.requestInchStop p = (s.updCh p Channel.toCoast, .accepted) :=
  (if_neg (by simp [he])).trans ((if_neg (by simp [hi])).trans (if_pos hs))

theorem requestInchStop_busy (he : s.estop = false) (hi : (s.asIncoming p).isSome = false) (hs : s.ch[p].state ≠ .inch) :
    s.requestInchStop p = (s, .busy) :=
  (if_neg (by simp [he])).trans ((if_neg (by simp [hi])).trans (if_neg hs))

end

/-- What a request to one projector makes of the state found, by what it makes of any state. -/
theorem forProjector_eq {req : State → Proj → State × Status} {p : Proj} {s v : State} {st : Status} (h : req s p = (v, st)) :
    forProjector req (projByte p) s = ⟨v, st, []⟩ := by
  rw [forProjector_projByte, h]

theorem forProjectors_eq {req : State → Proj → State × Status} {p : Proj} {s v : State} {st : Status} (h : req s p = (v, st)) :
    forProjectors req (projByte p) s = ⟨v, st, []⟩ := by
  rw [forProjectors_projByte, h]

theorem cmdInch_of_none {a : Byte} (ha : a.toNat = 0 ∨ 8 < a.toNat) (x : Byte) (s : State) : cmdInch a x s = ⟨s, .badField, []⟩ := by
  unfold cmdInch
  simp only [forProjector_of_none _ ha]
  split_ifs <;> rfl

/-- An INCH row to a projector is answered with what its request makes of the state found. -/
theorem inch_rows {s : State} {m : Moment} {u : State} {r : Option Reply} (h : Heard s m .individual u r) (p : Proj) (fwd : Bool)
    {v : State} {st : Status} (hreq : (u.asFound r).requestInch p fwd = (v.framed u r, st)) (hline : v.line = u.line)
    (hnow : v.now = u.now) :
    exec (if fwd then .inchForward m (projByte p) else .inchReverse m (projByte p)) s
      = .next (Answered .individual u 0x23 st.code [] v) := by
  cases fwd with
  | false =>
    exact h.changed (cmd := cmdInch (projByte p) 2) rfl (forProjector_eq (req := fun s p => s.requestInch p false) hreq) hline hnow rfl
  | true =>
    exact h.changed (cmd := cmdInch (projByte p) 1) rfl (forProjector_eq (req := fun s p => s.requestInch p true) hreq) hline hnow rfl

theorem inchStop_row {s : State} {m : Moment} {u : State} {r : Option Reply} (h : Heard s m .individual u r) (p : Proj)
    {v : State} {st : Status} (hreq : (u.asFound r).requestInchStop p = (v.framed u r, st)) (hline : v.line = u.line)
    (hnow : v.now = u.now) : exec (.inchStop m (projByte p)) s = .next (Answered .individual u 0x23 st.code [] v) :=
  h.changed (cmd := cmdInch (projByte p) 0) rfl (forProjector_eq (req := State.requestInchStop) hreq) hline hnow rfl

end Sys2Proof.Machine

section
open Sys2Proof Sys2Proof.Machine Sys2Proof.Claims

/-- Settles O44: each row's request by its checks in order, on the state found. -/
theorem inchRows : Obligations.InchRows := by
  intro s m hears
  obtain ⟨r, h⟩ := heard hears
  generalize s.arrive m = u at h
  intro u' answer
  refine ⟨fun a ha => ?_, fun p => ?_⟩
  · have hbad (x : Byte) : cmdInch a x (u.asFound r) = ⟨u.asFound r, .badField, []⟩ := cmdInch_of_none ha x _
    exact ⟨h.unchanged (cmd := cmdInch a 1) rfl (hbad 1) rfl, h.unchanged (cmd := cmdInch a 2) rfl (hbad 2) rfl,
      h.unchanged (cmd := cmdInch a 0) rfl (hbad 0) rfl⟩
  intro c
  have hrefused (st : Status) (hinch : ∀ fwd, (u.asFound r).requestInch p fwd = (u.asFound r, st))
      (hstop : (u.asFound r).requestInchStop p = (u.asFound r, st))  :
      ∀ row ∈ [Instr.inchForward m (projByte p), .inchReverse m (projByte p), .inchStop m (projByte p)],
        exec row s = answer st.code u := by
    intro row hrow
    simp only [List.mem_cons, List.not_mem_nil, or_false] at hrow
    rcases hrow with rfl | rfl | rfl
    · exact inch_rows h p true (v := u) (hinch true) rfl rfl
    · exact inch_rows h p false (v := u) (hinch false) rfl rfl
    · exact inchStop_row h p (v := u) hstop rfl rfl
  refine ⟨fun he => ?_, fun he hi => ?_, fun he hi hs => ⟨?_, ?_⟩, fun he hi hs => ⟨?_, ?_⟩, fun he hi hs => ?_, fun he hi hs => ?_⟩
  · exact hrefused .estop (requestInch_estop (s := u.asFound r) he) (requestInchStop_estop (s := u.asFound r) he)
  · exact hrefused .inChangeover (requestInch_incoming (s := u.asFound r) he (incoming_of_not hi r))
      (requestInchStop_incoming (s := u.asFound r) he (incoming_of_not hi r))
  · exact inch_rows h p true (v := u.updCh p fun c => c.toInch true)
      (requestInch_taken (s := u.asFound r) he (not_incoming hi r) hs true) rfl rfl
  · exact inch_rows h p false (v := u.updCh p fun c => c.toInch false)
      (requestInch_taken (s := u.asFound r) he (not_incoming hi r) hs false) rfl rfl
  · exact inch_rows h p true (v := u) (requestInch_busy (s := u.asFound r) he (not_incoming hi r) hs true) rfl rfl
  · exact inch_rows h p false (v := u) (requestInch_busy (s := u.asFound r) he (not_incoming hi r) hs false) rfl rfl
  · exact inchStop_row h p (v := u.updCh p Channel.toCoast)
      (requestInchStop_taken (s := u.asFound r) he (not_incoming hi r) hs) rfl rfl
  · exact inchStop_row h p (v := u) (requestInchStop_busy (s := u.asFound r) he (not_incoming hi r) hs) rfl rfl

end
end

section
/-! The LAMP rows (R19, R21, R23). -/

namespace Sys2Proof.Machine
open Sys2Proof.Claims

/-! ### A command that reaches all eight projectors (R19) -/

/-- What a command to a list of projectors leaves and answers, by an invariant that speaks of the projectors still to be reached. -/
theorem requestEach_spec {req : State → Proj → State × Status} {g : Proj → Status} {Inv : List Proj → State → Prop}
    (hstep : ∀ p l s, Inv (p :: l) s → (req s p).2 = g p ∧ Inv l (req s p).1) {l : List Proj} {s : State} (h : Inv l s) :
    (s.requestEach req l).2 = l.map g ∧ Inv [] (s.requestEach req l).1 := by
  induction l generalizing s with
  | nil => exact ⟨rfl, h⟩
  | cons p l ih =>
    obtain ⟨hst, hinv⟩ := hstep p l s h
    obtain ⟨hsts, hend⟩ := ih hinv
    exact ⟨congrArg₂ List.cons hst hsts, hend⟩

/-- A request that changes its own channel alone, and by what stands there alone. -/
theorem requestEach_channels {req : State → Proj → State × Status} {w : State} {f : Proj → Channel} {g : Proj → Status}
    (h : ∀ (ch : Vector Channel 8) (p : Proj), ch[p] = w.ch[p] →
      req { w with ch := ch } p = ({ w with ch := ch.set p (f p) }, g p)) :
    ∃ ch : Vector Channel 8, w.requestEach req allProj = ({ w with ch := ch }, allProj.map g) ∧ ∀ p : Proj, ch[p] = f p := by
  let Inv (l : List Proj) (s : State) : Prop :=
    l.Nodup ∧ ∃ ch : Vector Channel 8, s = { w with ch := ch } ∧ ∀ p : Proj, ch[p] = if p ∈ l then w.ch[p] else f p
  have hstep (p l s) (hinv : Inv (p :: l) s) : (req s p).2 = g p ∧ Inv l (req s p).1 := by
    obtain ⟨hnodup, ch, rfl, hch⟩ := hinv
    obtain ⟨hp, hl⟩ := List.nodup_cons.1 hnodup
    rw [h ch p (by rw [hch, if_pos List.mem_cons_self])]
    refine ⟨rfl, hl, _, rfl, fun q => ?_⟩
    by_cases hq : q = p
    · subst hq
      rw [if_neg hp]
      exact getElem_set_same _ _ _
    · refine (getElem_set_other _ _ hq).trans ((hch q).trans ?_)
      simp only [List.mem_cons, hq, false_or]
  have hstart : Inv allProj w := ⟨allProj_nodup, w.ch, rfl, fun p => by rw [if_pos (mem_allProj p)]⟩
  obtain ⟨hsts, -, ch, hw, hch⟩ := requestEach_spec hstep hstart
  exact ⟨ch, Prod.ext hw hsts, fun p => (hch p).trans (if_neg List.not_mem_nil)⟩

/-- The status of the whole is that of the lowest projector that refused (R19, R180). -/
theorem overall_code {sts : List Status} (h : .acceptedClamped ∉ sts) :
    ((sts.find? (fun st => !st.taken)).getD .accepted).code = overall (sts.map Status.code) := by
  unfold overall
  induction sts with
  | nil => rfl
  | cons st sts ih =>
    obtain ⟨hst, hsts⟩ := not_or.1 (mt List.mem_cons.2 h)
    cases st <;> first | exact ih hsts | exact absurd rfl hst | rfl

/-- A row to all eight projectors, its requests answered by `g` (R19, R180). -/
theorem forProjectors_zero_of_each {req : State → Proj → State × Status} {s v : State} {g : Proj → Status}
    (h : s.requestEach req allProj = (v, allProj.map g)) (hg : ∀ p, g p ≠ .acceptedClamped) :
    ∃ st, forProjectors req 0 s = ⟨v, st, allProj.map fun p => (g p).code⟩ ∧ st.code = overall (allProj.map fun p => (g p).code) := by
  rw [forProjectors_zero, h]
  refine ⟨_, congrArg (Answer.mk v _) (List.map_map ..), ?_⟩
  refine (overall_code fun hmem => ?_).trans (congrArg overall (List.map_map ..))
  obtain ⟨p, -, hp⟩ := List.mem_map.1 hmem
  exact hg p hp

/-! ### LAMP on and off (R21, R23) -/

/-- What LAMP on makes of a channel and answers, by the ESTOP line and the table of R21. -/
def lampOnAnswer (estop : Bool) (n : Field) (c : Channel) : Channel × Status :=
  if estop then (c, .estop) else ((lampOnTable c n).1, if (lampOnTable c n).2 = 0x00 then .accepted else .busy)

/-- What LAMP off makes of a channel and answers, by the ESTOP line, the record of an incoming projector and the table of R23. -/
def lampOffAnswer (estop incoming : Bool) (c : Channel) : Channel × Status :=
  if estop then (c, .estop) else if incoming then (c, .inChangeover)
  else ((lampOffTable c).1, if (lampOffTable c).2 = 0x00 then .accepted else .busy)

/-- A channel set to what it is already. -/
theorem withCh_self (s : State) (p : Proj) : ({ s with ch := s.ch.set p s.ch[p] } : State) = s := by
  rw [set_getElem_self]

theorem requestLampOn_eq (s : State) (p : Proj) : s.requestLampOn p =
    ({ s with ch := s.ch.set p (lampOnAnswer s.estop s.tb.field s.ch[p]).1 }, (lampOnAnswer s.estop s.tb.field s.ch[p]).2) := by
  by_cases he : s.estop = true
  · rw [show lampOnAnswer s.estop s.tb.field s.ch[p] = (s.ch[p], .estop) from if_pos he, withCh_self]
    exact if_pos he
  · rw [show lampOnAnswer s.estop s.tb.field s.ch[p] = _ from if_neg he]
    refine (if_neg he).trans ?_
    unfold lampOnTable
    cases hs : s.ch[p].state with
    | dark => rfl
    | coast | inch => cases s.ch[p].lamp <;> (simp only [withCh_self]; rfl)
    | _ => simp only [withCh_self]; rfl

theorem requestLampOff_eq (s : State) (p : Proj) : s.requestLampOff p =
    ({ s with ch := s.ch.set p (lampOffAnswer s.estop (s.asIncoming p).isSome s.ch[p]).1 },
      (lampOffAnswer s.estop (s.asIncoming p).isSome s.ch[p]).2) := by
  by_cases he : s.estop = true
  · rw [show lampOffAnswer s.estop (s.asIncoming p).isSome s.ch[p] = (s.ch[p], .estop) from if_pos he, withCh_self]
    exact if_pos he
  by_cases hi : (s.asIncoming p).isSome = true
  · rw [show lampOffAnswer s.estop (s.asIncoming p).isSome s.ch[p] = (s.ch[p], .inChangeover) from (if_neg he).trans (if_pos hi),
      withCh_self]
    exact (if_neg he).trans (if_pos hi)
  · rw [show lampOffAnswer s.estop (s.asIncoming p).isSome s.ch[p] = _ from (if_neg he).trans (if_neg hi)]
    refine (if_neg he).trans ((if_neg hi).trans ?_)
    unfold lampOffTable
    cases hs : s.ch[p].state with
    | dark | runup | run => simp only [withCh_self]; rfl
    | strike | ready => rfl
    | coast | inch | fault => simp only [State.updCh, hs]; rfl

theorem lampOnAnswer_code (n : Field) (c : Channel) : (lampOnAnswer false n c).2.code = (lampOnTable c n).2 := by
  unfold lampOnAnswer lampOnTable
  cases c.state <;> cases c.lamp <;> rfl

theorem lampOffAnswer_code (c : Channel) : (lampOffAnswer false false c).2.code = (lampOffTable c).2 := by
  unfold lampOffAnswer lampOffTable
  cases c.state <;> rfl

theorem lampOnAnswer_ne_clamped (e : Bool) (n : Field) (c : Channel) : (lampOnAnswer e n c).2 ≠ .acceptedClamped := by
  unfold lampOnAnswer
  split_ifs <;> exact nofun

theorem lampOffAnswer_ne_clamped (e i : Bool) (c : Channel) : (lampOffAnswer e i c).2 ≠ .acceptedClamped := by
  unfold lampOffAnswer
  split_ifs <;> exact nofun

end Sys2Proof.Machine

section
open Sys2Proof Sys2Proof.Machine Sys2Proof.Claims

/-- Settles O41: each request as its table says, for one projector and for each of the eight. -/
theorem lampRows : Obligations.LampRows := by
  intro s m via hears
  obtain ⟨r, h⟩ := heard hears
  generalize s.arrive m = u at h
  intro u' n answer
  have hon (p : Proj) : exec (.lampOn m via (projByte p)) s = .next (answer (lampOnAnswer u.estop n u.ch[p]).2.code []
      { u with ch := u.ch.set p (lampOnAnswer u.estop n u.ch[p]).1 }) :=
    h.changed (cmd := cmdLamp (projByte p) 1) (v := { u with ch := u.ch.set p (lampOnAnswer u.estop n u.ch[p]).1 }) rfl
      (forProjectors_eq (req := State.requestLamp 1) (requestLampOn_eq (u.asFound r) p)) rfl rfl rfl
  have hoff (p : Proj) : exec (.lampOff m via (projByte p)) s =
      .next (answer (lampOffAnswer u.estop (u.asIncoming p).isSome u.ch[p]).2.code []
        { u with ch := u.ch.set p (lampOffAnswer u.estop (u.asIncoming p).isSome u.ch[p]).1 }) :=
    h.changed (cmd := cmdLamp (projByte p) 0)
      (v := { u with ch := u.ch.set p (lampOffAnswer u.estop (u.asIncoming p).isSome u.ch[p]).1 }) rfl
      (forProjectors_eq (req := State.requestLamp 0) (requestLampOff_eq (u.asFound r) p)) rfl rfl rfl
  refine ⟨fun a ha => ?_, fun he p => ?_, fun he p => ⟨?_, fun hi => ?_, fun hi => ?_⟩, ?_, ?_⟩
  · exact ⟨h.unchanged (cmd := cmdLamp a 1) rfl (forProjectors_of_none _ ha _) rfl,
      h.unchanged (cmd := cmdLamp a 0) rfl (forProjectors_of_none _ ha _) rfl⟩
  · rw [hon, hoff, show lampOnAnswer u.estop n u.ch[p] = (u.ch[p], .estop) from if_pos he,
      show lampOffAnswer u.estop (u.asIncoming p).isSome u.ch[p] = (u.ch[p], .estop) from if_pos he, withCh_self]
    exact ⟨rfl, rfl⟩
  · rw [hon, show u.estop = false from he, lampOnAnswer_code]
    rfl
  · rw [hoff, show lampOffAnswer u.estop (u.asIncoming p).isSome u.ch[p] = (u.ch[p], .inChangeover) from
      (if_neg (ne_true_of_eq_false he)).trans (if_pos (asIncoming_isSome hi)), withCh_self]
    rfl
  · rw [hoff, show u.estop = false from he, show (u.asIncoming p).isSome = false from not_incoming hi none, lampOffAnswer_code]
    rfl
  · obtain ⟨ch, heach, hch⟩ := requestEach_channels (req := State.requestLampOn) (w := u.asFound r)
      (f := fun p => (lampOnAnswer u.estop n u.ch[p]).1) (g := fun p => (lampOnAnswer u.estop n u.ch[p]).2) fun ch p hp => by
        rw [requestLampOn_eq]
        simp only [hp]
        rfl
    obtain ⟨st, hcmd, hst⟩ := forProjectors_zero_of_each heach fun p => lampOnAnswer_ne_clamped _ _ _
    refine ⟨_, ch, h.changed (cmd := cmdLamp 0 1) (v := { u with ch := ch }) rfl hcmd rfl rfl hst, fun p => ⟨fun he => ?_, fun he => ?_⟩⟩
    · rw [hch, show u.estop = true from he]
      exact ⟨rfl, rfl⟩
    · rw [hch, show u.estop = false from he]
      exact ⟨lampOnAnswer_code _ _, rfl⟩
  · obtain ⟨ch, heach, hch⟩ := requestEach_channels (req := State.requestLampOff) (w := u.asFound r)
      (f := fun p => (lampOffAnswer u.estop (u.asIncoming p).isSome u.ch[p]).1)
      (g := fun p => (lampOffAnswer u.estop (u.asIncoming p).isSome u.ch[p]).2) fun ch p hp => by
        rw [requestLampOff_eq]
        simp only [hp]
        rfl
    obtain ⟨st, hcmd, hst⟩ := forProjectors_zero_of_each heach fun p => lampOffAnswer_ne_clamped _ _ _
    refine ⟨_, ch, h.changed (cmd := cmdLamp 0 0) (v := { u with ch := ch }) rfl hcmd rfl rfl hst,
      fun p => ⟨fun he => ?_, fun he hi => ?_, fun he hi => ?_⟩⟩
    · rw [hch, show u.estop = true from he]
      exact ⟨rfl, rfl⟩
    · rw [hch, show u.estop = false from he, asIncoming_isSome hi]
      exact ⟨rfl, rfl⟩
    · rw [hch, show u.estop = false from he, show (u.asIncoming p).isSome = false from not_incoming hi none]
      exact ⟨lampOffAnswer_code _, rfl⟩

end
end

section
/-! The rows SET_PROJECTOR, SET_SIGNATURE, CLEAR, SET_MODE and PRESET (R32, R36 to R38, R52, R68, R76, R123). -/

namespace Sys2Proof.Machine
open Sys2Proof.Claims

/-! ### Fields of a message (R183) -/

theorem projOf_projByte (p : Proj) : projOf (projByte p) = some p := projOf_ofNat p

/-- A byte that names a projector. -/
theorem projOf_of_range {a : Byte} (h1 : 1 ≤ a.toNat) (h8 : a.toNat ≤ 8) : ∃ p, projOf a = some p ∧ a = projByte p := by
  refine ⟨⟨a.toNat - 1, by omega⟩, ?_, ?_⟩
  · unfold projOf
    rw [dif_pos ⟨h1, h8⟩]
  · apply BitVec.eq_of_toNat_eq
    simp only [projByte, BitVec.toNat_ofNat]
    omega

/-- The codes 0 and 1 (R183). -/
theorem byte_le_one {x : Byte} (h : x.toNat ≤ 1) : x = 0 ∨ x = 1 := by
  rcases Nat.le_one_iff_eq_zero_or_eq_one.1 h with h | h
  · exact .inl (BitVec.eq_of_toNat_eq h)
  · exact .inr (BitVec.eq_of_toNat_eq h)

theorem ne_zero_one_of_gt {x : Byte} (h : 1 < x.toNat) : x ≠ 0 ∧ x ≠ 1 := by
  constructor <;> (rintro rfl; revert h; decide)

theorem modeOf_of_gt {x : Byte} (h : 1 < x.toNat) : modeOf x = none := by
  obtain ⟨h0, h1⟩ := ne_zero_one_of_gt h
  exact (if_neg h0).trans (if_neg h1)

theorem modeOf_of_le {x : Byte} (h : x.toNat ≤ 1) : modeOf x = some (if x = 0 then .manual else .auto) := by
  rcases byte_le_one h with rfl | rfl <;> rfl

theorem gaugeOf_of_gt {x : Byte} (h : 1 < x.toNat) : gaugeOf x = none := by
  obtain ⟨h0, h1⟩ := ne_zero_one_of_gt h
  exact (if_neg h0).trans (if_neg h1)

theorem gaugeOf_of_le {x : Byte} (h : x.toNat ≤ 1) : gaugeOf x = some (if x = 0 then .g35 else .g16) := by
  rcases byte_le_one h with rfl | rfl <;> rfl

/-! ### The checks of a projector in a record and in motion (R38, R76) -/

theorem inRecord_of_inNoRecord {s : State} {p : Proj} (h : InNoRecord s p) : s.inRecord p = false := by
  simp [State.inRecord, asOutgoing_eq_none h, asIncoming_eq_none (notIncoming_of_inNoRecord h)]

theorem inRecord_of_not {s : State} {p : Proj} (h : ¬InNoRecord s p) : s.inRecord p = true := by
  unfold InNoRecord at h
  push Not at h
  obtain ⟨r, rec, hr, hp⟩ := h
  exact inRecord_of_mem hr (by tauto)

theorem inMotion_of_not {c : Channel} (h : ¬AtRest c) : c.inMotion = true := by
  rw [← Bool.not_eq_false, inMotion_eq_false_iff]
  exact h

/-! ### SET_PROJECTOR (R38, R52) -/

/-- A value held within a range is the value sent exactly when that lies in the range. -/
theorem clampNat_eq_iff {lo hi n : Nat} (h : lo ≤ hi) : clampNat lo hi n = n ↔ lo ≤ n ∧ n ≤ hi := by
  unfold clampNat
  omega

theorem clampNat_zero (hi n : Nat) : clampNat 0 hi n = min hi n := by
  unfold clampNat
  omega

theorem bodyClamps_eq_false_iff (b : ProjectorBody) (g : Gauge) :
    bodyClamps b g = false ↔
      (configOf b g).strikeFields = b.strikeFields.toNat ∧ (configOf b g).runupLimit = b.runupLimit.toNat
        ∧ (configOf b g).stillness = b.stillness.toNat ∧ (configOf b g).progU = b.progU.toNat ∧ (configOf b g).progD = b.progD.toNat
        ∧ 1 ≤ b.w.toNat ∧ b.w.toNat ≤ 16 ∧ 2 ≤ b.k.toNat ∧ b.k.toNat ≤ 15 ∧ 1 ≤ b.m.toNat ∧ b.m.toNat ≤ 7 := by
  have hw := clampNat_eq_iff (lo := 1) (hi := 16) (n := b.w.toNat) (by decide)
  have hk := clampNat_eq_iff (lo := 2) (hi := 15) (n := b.k.toNat) (by decide)
  have hm := clampNat_eq_iff (lo := 1) (hi := 7) (n := b.m.toNat) (by decide)
  simp only [bodyClamps, Bool.or_eq_false_iff, decide_eq_false_iff_not, not_not, hw, hk, hm, and_assoc]

theorem cmdSetProjector_of_bad (b : ProjectorBody) (s : State)
    (h : ¬(1 ≤ b.projector.toNat ∧ b.projector.toNat ≤ 8 ∧ b.gauge.toNat ≤ 1 ∧ b.adaptDepth.toNat ∈ [0, 2, 4, 8])) :
    cmdSetProjector b s = ⟨s, .badField, []⟩ := by
  unfold cmdSetProjector
  by_cases hp : 1 ≤ b.projector.toNat ∧ b.projector.toNat ≤ 8
  · obtain ⟨p, hproj, -⟩ := projOf_of_range hp.1 hp.2
    rw [hproj]
    by_cases hg : b.gauge.toNat ≤ 1
    · rw [gaugeOf_of_le hg]
      exact if_pos fun hd => h ⟨hp.1, hp.2, hg, hd⟩
    · rw [gaugeOf_of_gt (by omega)]
      rfl
  · rw [projOf_eq_none b.projector (by omega)]
    rfl

theorem cmdSetProjector_cases (b : ProjectorBody) (s : State) (p : Proj) (g : Gauge) (hp : projOf b.projector = some p)
    (hg : gaugeOf b.gauge = some g) :
    (b.adaptDepth.toNat ∉ [0, 2, 4, 8] → cmdSetProjector b s = s.answer .badField)
    ∧ (b.adaptDepth.toNat ∈ [0, 2, 4, 8] →
      (s.inRecord p = true → cmdSetProjector b s = s.answer .inChangeover)
      ∧ (s.inRecord p = false → s.ch[p].inMotion = true → cmdSetProjector b s = s.answer .busy)
      ∧ (s.inRecord p = false → s.ch[p].inMotion = false → cmdSetProjector b s =
          ((s.updCh p (fun c => c.configure (configOf b g))).updTr p (fun t =>
            t.configure (clampNat 1 16 b.w.toNat) (clampNat 2 15 b.k.toNat) (clampNat 1 7 b.m.toNat)
              (decide (g ≠ s.ch[p].config.gauge)))).answer (acceptedIf (bodyClamps b g)))) := by
  unfold cmdSetProjector
  rw [hp, hg]
  refine ⟨fun h => if_pos h, fun h => ⟨fun hr => ?_, fun hr hm => ?_, fun hr hm => ?_⟩⟩ <;> refine (if_neg (not_not.2 h)).trans ?_
  · exact if_pos hr
  · exact (if_neg (ne_true_of_eq_false hr)).trans (if_pos hm)
  · exact (if_neg (ne_true_of_eq_false hr)).trans (if_neg (ne_true_of_eq_false hm))

/-! ### SET_SIGNATURE (R76) -/

theorem patternSamples_take (x : Byte) {l : Nat} (h : l ≤ 8) :
    (patternSamples x).take l = (List.range l).map (fun k => x.getLsbD (7 - k)) := by
  have hall : patternSamples x = (List.range 8).map (fun k => x.getLsbD (7 - k)) := rfl
  rw [hall, ← List.map_take, List.take_range, Nat.min_eq_left h]

theorem configOf_eq (b : ProjectorBody) (g : Gauge) : configOf b g =
    { gauge := g
      strikeFields := max 10 (min 1023 b.strikeFields.toNat)
      runupLimit := max 1 (min 1023 b.runupLimit.toNat)
      stillness := max 2 (min 63 b.stillness.toNat)
      progU := min 1023 b.progU.toNat
      progD := min 255 b.progD.toNat
      adaptDepth := b.adaptDepth.toNat } := by
  unfold configOf
  rw [clampNat_zero, clampNat_zero]
  rfl

/-- A change of gauge, U or D empties the run-up history (R38). -/
theorem configure_eq (c : Channel) (cfg : ChanConfig) : c.configure cfg = { c with
    config := cfg
    history := if decide (cfg.gauge = c.config.gauge) && decide (cfg.progU = c.config.progU) && decide (cfg.progD = c.config.progD)
      then c.history else [] } := by
  unfold Channel.configure
  simp only [Bool.and_eq_true, decide_eq_true_eq, and_assoc]

/-- A change of gauge sets the perf phase to 0 (R52). -/
theorem trackerConfigure_eq (t : Tracker) (w k m : Nat) (g g' : Gauge) : t.configure w k m (decide (g ≠ g')) =
    { t with w := w, k := k, m := m, phase := if g = g' then t.phase else 0 } := by
  unfold Tracker.configure
  by_cases h : g = g' <;> simp [h]

theorem cmdSetSignature_cases (a l x : Byte) (s : State) (p : Proj) (hp : projOf a = some p) :
    (¬(5 ≤ l.toNat ∧ l.toNat ≤ 8 ∧ true ∈ (List.range l.toNat).map fun k => x.getLsbD (7 - k)) →
      cmdSetSignature a l x s = s.answer .badField)
    ∧ (5 ≤ l.toNat ∧ l.toNat ≤ 8 ∧ true ∈ (List.range l.toNat).map (fun k => x.getLsbD (7 - k)) →
      (s.ch[p].inMotion = true → cmdSetSignature a l x s = s.answer .busy)
      ∧ (s.ch[p].inMotion = false → cmdSetSignature a l x s =
          (s.updDet p (fun d => { d with
            sigLen := l.toNat, sigPat := (List.range l.toNat).map (fun k => x.getLsbD (7 - k)), history := [] })).answer .accepted)) := by
  have hall (pat : List Bool) : pat.all (fun x => !x) = true ↔ true ∉ pat := by
    simp only [List.all_eq_true, Bool.not_eq_true']
    exact ⟨fun h ht => absurd (h true ht) (by decide), fun h y hy => by cases y with | false => rfl | true => exact absurd hy h⟩
  unfold cmdSetSignature
  rw [hp]
  simp only
  refine ⟨fun h => ?_, fun h => ?_⟩
  · by_cases hl : l.toNat < 5 ∨ 8 < l.toNat
    · exact if_pos hl
    · refine (if_neg hl).trans (if_pos ?_)
      rw [patternSamples_take x (by omega), hall]
      exact fun ht => h ⟨by omega, by omega, ht⟩
  · obtain ⟨h5, h8, ht⟩ := h
    rw [if_neg (by omega), patternSamples_take x h8, if_neg (by rw [hall]; exact not_not.2 ht)]
    exact ⟨fun hm => if_pos hm, fun hm => if_neg (ne_true_of_eq_false hm)⟩

/-! ### CLEAR (R32) -/

section
variable {s : State} {p : Proj}

theorem requestClear_estop (he : s.estop = true) : s.requestClear p = (s, .estop) := if_pos he

theorem requestClear_busy (he : s.estop = false) (hs : s.ch[p].state ≠ .fault) : s.requestClear p = (s, .busy) :=
  (if_neg (ne_true_of_eq_false he)).trans (if_pos hs)

theorem requestClear_notStill (he : s.estop = false) (hs : s.ch[p].state = .fault) (hstill : s.ch[p].isStill = false) :
    s.requestClear p = (s, .notStill) := by
  refine (if_neg (ne_true_of_eq_false he)).trans ((if_neg (not_not.2 hs)).trans (if_pos ?_))
  rw [hstill]
  rfl

theorem requestClear_input (he : s.estop = false) (hs : s.ch[p].state = .fault) (hstill : s.ch[p].isStill = true)
    (hin : s.pins.proj[p].tail = true ∨ s.pins.proj[p].loop = true) : s.requestClear p = (s, .busy) := by
  refine (if_neg (ne_true_of_eq_false he)).trans ((if_neg (not_not.2 hs)).trans ((if_neg ?_).trans (if_pos (Bool.or_eq_true_iff.2 hin))))
  rw [hstill]
  decide

theorem requestClear_taken (he : s.estop = false) (hs : s.ch[p].state = .fault) (hstill : s.ch[p].isStill = true)
    (htail : s.pins.proj[p].tail = false) (hloop : s.pins.proj[p].loop = false) :
    s.requestClear p = (s.updCh p (fun c => c.clearFault s.pins.proj[p].lampok), .accepted) := by
  refine (if_neg (ne_true_of_eq_false he)).trans ((if_neg (not_not.2 hs)).trans ((if_neg ?_).trans (if_neg ?_)))
  · rw [hstill]
    decide
  · rw [htail, hloop]
    decide

end

/-! ### PRESET (R37, R68, R123) -/

/-- The watermark test by its three terms (R123). -/
theorem lowTest_eq (s : State) (p : Proj) (before : Nat) : s.lowTest p before =
    s.passIf (!decide (s.cues.low[p] = 0 ∨ before < s.cues.low[p] ∨ s.cues.low[p] ≤ s.ahead p)) (.proj p .cueLow) := by
  unfold State.lowTest
  simp only
  congr 1
  rw [Bool.eq_iff_iff]
  simp only [Bool.and_eq_true, decide_eq_true_eq, Bool.not_eq_true', decide_eq_false_iff_not]
  omega

/-- A number of entries ahead that does not fall below the watermark passes nothing (R123). -/
theorem lowTest_of_noFall {u s : State} {p : Proj} (hlow : s.cues.low = u.cues.low) (h : NoFall u p s.cues.lists[p] s.tr[p].frame) :
    s.lowTest p (u.ahead p) = s := by
  rw [lowTest_eq, hlow]
  have htest : decide (u.cues.low[p] = 0 ∨ u.ahead p < u.cues.low[p] ∨ u.cues.low[p] ≤ s.ahead p) = true := decide_eq_true h
  rw [htest]
  rfl

theorem lowTest_of_fall {u s : State} {p : Proj} (hlow : s.cues.low = u.cues.low) (h : ¬NoFall u p s.cues.lists[p] s.tr[p].frame) :
    s.lowTest p (u.ahead p) = s.pass (.proj p .cueLow) := by
  rw [lowTest_eq, hlow]
  have htest : decide (u.cues.low[p] = 0 ∨ u.ahead p < u.cues.low[p] ∨ u.cues.low[p] ≤ s.ahead p) = false := decide_eq_false h
  rw [htest]
  rfl

/-- A projector's tracker and detector as PRESET leaves them, before the watermark test (R37, R68). -/
def State.presetTo (s : State) (p : Proj) (frame : Int) : State :=
  { s with
    tr := s.tr.set p { s.tr[p] with frame := frame, phase := 0 }
    det := s.det.set p { s.det[p] with history := [], latch := false } }

theorem doPreset_eq (s : State) (p : Proj) (frame : Int) :
    s.doPreset p frame = (s.presetTo p frame).lowTest p (s.ahead p) := rfl

theorem presetTo_frame (s : State) (p : Proj) (frame : Int) : (s.presetTo p frame).tr[p].frame = frame :=
  (congrArg Tracker.frame (getElem_set_same s.tr p _)).trans rfl

section
variable (s : State) (p : Proj) {frame : BitVec 24}

theorem cmdPreset_of_none {a : Byte} (ha : a.toNat = 0 ∨ 8 < a.toNat) : cmdPreset a frame s = s.answer .badField := by
  unfold cmdPreset
  rw [projOf_eq_none a ha]

theorem frameInRange_iff (x : Int) : frameInRange x = true ↔ -99999 ≤ x ∧ x ≤ 999999 := by
  unfold frameInRange
  rw [Bool.and_eq_true, decide_eq_true_iff, decide_eq_true_iff]
  rfl

/-- The checks of PRESET in their order (R37). -/
theorem cmdPreset_cases :
    (frameInRange frame.toInt = false → cmdPreset (projByte p) frame s = s.answer .badField)
    ∧ (frameInRange frame.toInt = true →
      (s.estop = true → cmdPreset (projByte p) frame s = s.answer .estop)
      ∧ (s.estop = false →
        ((s.asIncoming p).isSome = true → cmdPreset (projByte p) frame s = s.answer .inChangeover)
        ∧ ((s.asIncoming p).isSome = false → ∀ ready : Prop,
          (ready ↔ (s.ch[p].state = .dark ∨ s.ch[p].state = .ready ∨ s.ch[p].state = .fault) ∧ s.ch[p].isStill = true) →
          (¬ready → cmdPreset (projByte p) frame s = s.answer .busy)
          ∧ (ready → cmdPreset (projByte p) frame s = (s.doPreset p frame.toInt).answer .accepted)))) := by
  unfold cmdPreset
  rw [projOf_projByte]
  simp only
  refine ⟨fun hf => if_pos (by rw [hf]; rfl), fun hf => ?_⟩
  rw [if_neg (by rw [hf]; decide)]
  refine ⟨fun he => if_pos he, fun he => ?_⟩
  rw [if_neg (ne_true_of_eq_false he)]
  refine ⟨fun hi => if_pos hi, fun hi ready hready => ?_⟩
  rw [if_neg (ne_true_of_eq_false hi)]
  refine ⟨fun hr => if_pos ?_, fun hr => if_neg ?_⟩
  · rw [hready, not_and_or, Bool.not_eq_true] at hr
    exact hr
  · obtain ⟨hstate, hstill⟩ := hready.1 hr
    rintro (h | h)
    · exact h hstate
    · exact absurd hstill (ne_true_of_eq_false h)

end

/-- The stillness of a channel (R20). -/
theorem isStill_iff (c : Channel) : c.isStill = true ↔ c.config.stillness ≤ c.still := decide_eq_true_iff

end Sys2Proof.Machine

section
open Sys2Proof Sys2Proof.Machine Sys2Proof.Claims

/-- Settles O38: the checks of each command in their order, and its effect on the state found. -/
theorem projectorAndSignatureRows : Obligations.ProjectorAndSignatureRows := by
  refine ⟨fun s m b hears => ?_, fun s m a l x hears => ?_⟩ <;> obtain ⟨r, h⟩ := heard hears <;> generalize s.arrive m = u at h
  · intro u' reply fieldsOk
    refine ⟨fun hbad => ?_, fun p hok hp => ?_⟩
    · exact h.unchanged (cmd := cmdSetProjector b) rfl (cmdSetProjector_of_bad b _ hbad) rfl
    intro g cfg whole c same v
    obtain ⟨-, -, hgauge, hdepth⟩ := hok
    have hproj : projOf b.projector = some p := by rw [hp, projOf_projByte]
    obtain ⟨-, hcases⟩ := cmdSetProjector_cases b (u.asFound r) p g hproj (gaugeOf_of_le hgauge)
    obtain ⟨hrecord, hbusy, htaken⟩ := hcases hdepth
    have hcfg : configOf b g = cfg := configOf_eq b g
    have hwhole : bodyClamps b g = false ↔ whole := by
      rw [bodyClamps_eq_false_iff, hcfg]
    have htaken (hno : InNoRecord u p) (hrest : AtRest c) :
        cmdSetProjector b (u.asFound r) = ⟨v.framed u r, acceptedIf (bodyClamps b g), []⟩ := by
      refine (htaken (inRecord_of_inNoRecord hno) ((inMotion_eq_false_iff _).2 hrest)).trans ?_
      rw [show (u.asFound r).ch = u.ch from rfl]
      simp only [configure_eq, trackerConfigure_eq, hcfg]
      rfl
    refine ⟨fun hno => ?_, fun hno hrest => ?_, fun hno hrest hw => ?_, fun hno hrest hw => ?_⟩
    · exact h.unchanged (cmd := cmdSetProjector b) rfl (hrecord (inRecord_of_not hno)) rfl
    · exact h.unchanged (cmd := cmdSetProjector b) rfl (hbusy (inRecord_of_inNoRecord hno) (inMotion_of_not hrest)) rfl
    · exact h.changed (cmd := cmdSetProjector b) rfl (htaken hno hrest) rfl rfl (by rw [hwhole.2 hw]; rfl)
    · exact h.changed (cmd := cmdSetProjector b) rfl (htaken hno hrest) rfl rfl (by
        rw [Bool.eq_true_of_not_eq_false (mt hwhole.1 hw)]; rfl)
  · intro u' reply pattern fieldsOk
    refine ⟨fun hbad => ?_, fun p hok hp => ?_⟩
    · refine h.unchanged (cmd := cmdSetSignature a l x) rfl ?_ (st := .badField) (body := []) rfl
      by_cases hp : 1 ≤ a.toNat ∧ a.toNat ≤ 8
      · obtain ⟨p, hproj, -⟩ := projOf_of_range hp.1 hp.2
        exact (cmdSetSignature_cases a l x _ p hproj).1 fun hrest => hbad ⟨hp.1, hp.2, hrest⟩
      · unfold cmdSetSignature
        rw [projOf_eq_none a (by omega)]
        rfl
    · obtain ⟨-, -, hrest⟩ := hok
      obtain ⟨hbusy, htaken⟩ := (cmdSetSignature_cases a l x (u.asFound r) p (by rw [hp, projOf_projByte])).2 hrest
      refine ⟨fun hm => ?_, fun hm => ?_⟩
      · exact h.unchanged (cmd := cmdSetSignature a l x) rfl (hbusy (inMotion_of_not hm)) rfl
      · exact h.changed (cmd := cmdSetSignature a l x) rfl
          (v := { u with det := u.det.set p { u.det[p] with sigLen := l.toNat, sigPat := pattern, history := [] } })
          (htaken ((inMotion_eq_false_iff _).2 hm)) rfl rfl rfl


/-- Settles O45: the checks of the three commands in their order, and the effect of each on the state found. -/
theorem clearModePresetRows : Obligations.ClearModePresetRows := by
  refine ⟨fun s m hears => ?_, fun s m via a x hears => ?_⟩
  · obtain ⟨r, h⟩ := heard hears
    have hpins := arrive_pins s m
    generalize s.arrive m = u at h hpins
    intro u'
    refine ⟨fun a ha => ⟨?_, fun f => ?_⟩, fun p => ?_⟩
    · exact h.unchanged (cmd := cmdClear a) rfl (forProjector_of_none State.requestClear ha _) rfl
    · exact h.unchanged (cmd := cmdPreset a f) rfl (cmdPreset_of_none _ ha) rfl
    intro c pins still cleared
    have hstill : (u.asFound r).ch[p].isStill = true ↔ still := isStill_iff _
    have hpin : (u.asFound r).pins.proj[p] = pins := congrArg (fun z : Pins => z.proj[p]) hpins
    have htake {v : State} {st : Status} (hreq : (u.asFound r).requestClear p = (v.framed u r, st)) (hline : v.line = u.line)
        (hnow : v.now = u.now) : cleared st.code v :=
      h.changed (cmd := cmdClear (projByte p)) rfl (forProjector_eq (req := State.requestClear) hreq) hline hnow rfl
    refine ⟨fun he => ?_, fun he hs => ?_, fun he hs hn => ?_, fun he hs hn hin => ?_, fun he hs hn htail hloop => ?_, fun f => ?_⟩
    · exact htake (v := u) (requestClear_estop (s := u.asFound r) he) rfl rfl
    · exact htake (v := u) (requestClear_busy (s := u.asFound r) he hs) rfl rfl
    · exact htake (v := u) (requestClear_notStill (s := u.asFound r) he hs (Bool.eq_false_iff.2 (mt hstill.1 hn))) rfl rfl
    · exact htake (v := u) (requestClear_input (s := u.asFound r) he hs (hstill.2 hn) (by rw [hpin]; exact hin)) rfl rfl
    · refine htake (st := .accepted) (v := u.updCh p fun c => c.clearFault pins.lampok) ((requestClear_taken (s := u.asFound r) he hs (hstill.2 hn) (by rw [hpin]; exact htail)
        (by rw [hpin]; exact hloop)).trans ?_) rfl rfl
      rw [hpin]
      rfl
    · intro preset inRange ready v
      have hrange : frameInRange f.toInt = true ↔ inRange := frameInRange_iff _
      have hready : ready ↔ ((u.asFound r).ch[p].state = .dark ∨ (u.asFound r).ch[p].state = .ready
          ∨ (u.asFound r).ch[p].state = .fault) ∧ (u.asFound r).ch[p].isStill = true := and_congr_right fun _ => hstill.symm
      obtain ⟨hbad, hok⟩ := cmdPreset_cases (u.asFound r) p (frame := f)
      have hrefuse {st : Status} (hcmd : cmdPreset (projByte p) f (u.asFound r) = (u.asFound r).answer st) : preset st.code u :=
        h.unchanged (cmd := cmdPreset (projByte p) f) rfl hcmd rfl
      have hframe : ((u.asFound r).presetTo p f.toInt).tr[p].frame = f.toInt := presetTo_frame _ _ _
      refine ⟨fun hn => ?_, fun hin he => ?_, fun hin he hi => ?_, fun hin he hi hn => ?_, fun hin he hi hr hno => ?_,
        fun hin he hi hr hfall => ?_⟩
      · exact hrefuse (hbad (Bool.eq_false_iff.2 (mt hrange.1 hn)))
      · exact hrefuse ((hok (hrange.2 hin)).1 he)
      · exact hrefuse (((hok (hrange.2 hin)).2 he).1 (incoming_of_not hi r))
      · exact hrefuse ((((hok (hrange.2 hin)).2 he).2 (not_incoming hi r) ready hready).1 hn)
      all_goals have htaken := (((hok (hrange.2 hin)).2 he).2 (not_incoming hi r) ready hready).2 hr
      · rw [doPreset_eq] at htaken
        refine h.changed (cmd := cmdPreset (projByte p) f) (v := v) (st := .accepted) (body := []) rfl (htaken.trans ?_) rfl rfl rfl
        have hsame := lowTest_of_noFall (u := u.asFound r) (s := (u.asFound r).presetTo p f.toInt) (p := p) rfl
          (by rw [hframe]; exact hno)
        rw [hsame]
        rfl
      · have hpass := lowTest_of_fall (u := u.asFound r) (s := (u.asFound r).presetTo p f.toInt) (p := p) rfl
          (by rw [hframe]; exact hfall)
        rw [doPreset_eq, hpass] at htaken
        have heq := (pass_notified ((u.asFound r).presetTo p f.toInt) (.proj p .cueLow)).eq
        have hset := pass_latches ((u.asFound r).presetTo p f.toInt) (.proj p .cueLow)
        generalize ((u.asFound r).presetTo p f.toInt).pass (.proj p .cueLow) = w at htaken heq hset
        refine ⟨w.alarm, w.line, ?_, hset⟩
        have hrow := h.left (cmd := cmdPreset (projByte p) f) (row := .preset m (projByte p) f) rfl htaken
          (by rw [heq]; rfl) (by rw [heq]; rfl) (b := 0x00) rfl
        have hw : w = { v with alarm := w.alarm, line := w.line } := by
          rw [heq]
          rfl
        exact hrow.trans (congrArg (fun z => Host.Outcome.next (Answered .individual u 0x26 0x00 [] z)) hw)
  · obtain ⟨r, h⟩ := heard hears
    generalize s.arrive m = u at h
    intro u' reply
    refine ⟨fun hbad => ?_, fun p hp hx => ⟨fun he => ?_, fun he => ?_⟩⟩
    · refine h.unchanged (cmd := cmdSetMode a x) (st := .badField) (body := []) rfl ?_ rfl
      unfold cmdSetMode
      by_cases hx : 1 < x.toNat
      · rw [modeOf_of_gt hx]
        rcases projOf a <;> rfl
      · rw [projOf_eq_none a (by omega)]
        rfl
    all_goals subst hp
    · refine h.unchanged (cmd := cmdSetMode (projByte p) x) (st := .estop) (body := []) rfl ?_ rfl
      unfold cmdSetMode
      rw [projOf_projByte, modeOf_of_le hx]
      exact if_pos he
    · refine h.changed (cmd := cmdSetMode (projByte p) x) (row := .setMode m via (projByte p) x)
        (v := u.updCh p fun c => { c with mode := if x = 0 then .manual else .auto }) (st := .accepted) (body := []) rfl ?_ rfl rfl rfl
      unfold cmdSetMode
      rw [projOf_projByte, modeOf_of_le hx]
      exact (if_neg (ne_true_of_eq_false he)).trans rfl

end
end

section
/-! The row RESTART (R189). -/

namespace Sys2Proof.Machine
open Sys2Proof.Claims

/-! ### The ending of all records, with room for their notices (R163) -/

theorem endRecord_of_none (s : State) (r : Rec) (res : Result) (h : s.eng.records[r] = none) : s.endRecord r res = s := by
  unfold State.endRecord
  rw [h]

/-- The ending of one record, the queue with room: the notices queued stay, its own CHANGE notice joins them, and the other records and
the field are as they were. -/
theorem endRecord_queue (s : State) (r : Rec) (res : Result) (hq : s.line.queue.length < 16) :
    (s.endRecord r res).line.queue.length ≤ s.line.queue.length + 1
    ∧ (∀ n ∈ s.line.queue, n ∈ (s.endRecord r res).line.queue)
    ∧ ∀ rec, s.eng.records[r] = some rec → changeNotice r rec (rec.endResult res) s.tb.field ∈ (s.endRecord r res).line.queue := by
  cases hrec : s.eng.records[r] with
  | none =>
    rw [endRecord_of_none _ _ _ hrec]
    exact ⟨Nat.le_succ _, fun _ h => h, fun rec h => nomatch h⟩
  | some rec =>
    rw [(ended_endRecord res hrec hq).notice]
    refine ⟨by simp, fun n hn => List.mem_append_left _ hn, ?_⟩
    rintro _ ⟨⟩
    exact List.mem_append_right _ (List.mem_singleton_self _)

theorem endRecords_queue (res : Result) (l : List Rec) (hl : l.Nodup) (s : State) (hq : s.line.queue.length + l.length ≤ 16) :
    (∀ n ∈ s.line.queue, n ∈ (l.foldl (fun s r => s.endRecord r res) s).line.queue)
    ∧ ∀ r ∈ l, ∀ rec, s.eng.records[r] = some rec →
        changeNotice r rec (rec.endResult res) s.tb.field ∈ (l.foldl (fun s r => s.endRecord r res) s).line.queue := by
  induction l generalizing s with
  | nil => exact ⟨fun _ h => h, fun r hr => absurd hr List.not_mem_nil⟩
  | cons r l ih =>
    obtain ⟨hr, hl⟩ := List.nodup_cons.1 hl
    rw [List.length_cons] at hq
    obtain ⟨hlen, hkeep, hnew⟩ := endRecord_queue s r res (by omega)
    obtain ⟨hkeep', hnew'⟩ := ih hl (s.endRecord r res) (by omega)
    refine ⟨fun n hn => hkeep' n (hkeep n hn), fun x hx rec hrec => ?_⟩
    rcases List.mem_cons.1 hx with rfl | hx
    · exact hkeep' _ (hnew rec hrec)
    · have hne : x ≠ r := fun h => hr (h ▸ hx)
      have hsame : (s.endRecord r res).eng.records[x] = some rec := by
        rw [endRecord_records]
        exact (getElem_set_other _ _ hne).trans hrec
      have := hnew' x hx rec hsame
      rwa [(endRecord_engineOnly s r res).tb] at this

/-- RESTART ends a record with its own result in every state (R163). -/
theorem endResult_restart (rec : Record) : rec.endResult .restart = .restart := if_neg fun h => h.2.1 rfl

/-! ### The projectors (R42, R44, R66) -/

/-- The part of RESTART that reaches the projectors. -/
def State.restartProjectors (s : State) : State := allProj.foldl (fun s p => s.restartProjector p) s

theorem restartProjectors_eq (s : State) : s.restartProjectors =
    { s with ch := s.restartProjectors.ch, tr := s.restartProjectors.tr, det := s.restartProjectors.det } := by
  have hfold (l : List Proj) (s : State) : l.foldl (fun s p => s.restartProjector p) s =
      { s with
        ch := (l.foldl (fun s p => s.restartProjector p) s).ch
        tr := (l.foldl (fun s p => s.restartProjector p) s).tr
        det := (l.foldl (fun s p => s.restartProjector p) s).det } := by
    induction l generalizing s with
    | nil => rfl
    | cons p l ih =>
      rw [List.foldl_cons, ih]
      rfl
  exact hfold allProj s

theorem restart_eq (c : Channel) : c.restart = if c.state = .runup ∨ c.state = .run ∨ c.state = .inch then coasting c
    else { c with runup := none, douseHeld := false, record := none } := by
  refine ite_congr (propext ?_) (fun _ => rfl) (fun _ => rfl)
  simp only [Channel.running, Bool.or_eq_true, decide_eq_true_eq, or_assoc]

theorem restartProjectors_of (s : State) (p : Proj) : s.restartProjectors.ch[p] = s.ch[p].restart
    ∧ s.restartProjectors.tr[p] = stopped s.tr[p] ∧ s.restartProjectors.det[p] = s.det[p].cleared := by
  refine ⟨?_, ?_, ?_⟩
  · exact foldl_allProj (get := fun s p => s.ch[p]) (g := fun _ c => c.restart) (fun s p => getElem_set_same _ _ _)
      (fun s p q h => getElem_set_other _ _ h) s p
  · exact foldl_allProj (get := fun s p => s.tr[p]) (g := fun _ t => stopped t) (fun s p => getElem_set_same _ _ _)
      (fun s p q h => getElem_set_other _ _ h) s p
  · exact foldl_allProj (get := fun s p => s.det[p]) (g := fun _ d => d.cleared) (fun s p => getElem_set_same _ _ _)
      (fun s p q h => getElem_set_other _ _ h) s p

/-- RESTART up to the records: the projectors, and the requests but the protective one (R105). -/
def State.restarted (s : State) : State :=
  s.restartProjectors.updTake fun t => { t with slots := Vector.replicate 4 none, host := none }

theorem cmdRestart_eq (s : State) : cmdRestart s = (s.restarted.endAllRecords .restart).answer .accepted := rfl

theorem restarted_eq (s : State) : s.restarted =
    { s with
      ch := s.restartProjectors.ch, tr := s.restartProjectors.tr, det := s.restartProjectors.det
      take := { s.take with slots := Vector.replicate 4 none, host := none } } := by
  unfold State.restarted
  rw [restartProjectors_eq]
  rfl

end Sys2Proof.Machine

section
open Sys2Proof Sys2Proof.Machine Sys2Proof.Claims

/-- Settles O52: the projectors and the requests first, then the records, each ending leaving all but the tables of its own. -/
theorem restartRow : Obligations.RestartRow := by
  intro s m via hears
  obtain ⟨r, h⟩ := heard hears
  generalize s.arrive m = u at h
  intro u'
  have hcmd := cmdRestart_eq (u.asFound r)
  have hsettings := cmdRestart_settings (u.asFound r)
  obtain ⟨hs, hproj⟩ := And.intro (restarted_eq (u.asFound r)) (restartProjectors_of (u.asFound r))
  generalize (u.asFound r).restartProjectors = v at hs hproj
  rw [hcmd] at hsettings
  generalize (u.asFound r).restarted = w at hs hcmd hsettings
  have heng := endAllRecords_engineOnly w .restart
  refine ⟨w.endAllRecords .restart, ?_, fun p => ⟨?_, ?_, ?_⟩, ?_, endAllRecords_records w .restart, fun i x hx => ?_,
    fun x rec hrec hroom => ?_, ?_, ?_, ?_, ?_, ?_, ?_⟩
  · exact h.left (cmd := cmdRestart) (row := .restart m via) rfl hcmd (by rw [heng.eq, hs]) (by rw [heng.eq, hs]; rfl) rfl
  · rw [heng.ch, hs]
    exact (hproj p).1.trans (restart_eq _)
  · rw [heng.tr, hs]
    exact (hproj p).2.1
  · rw [heng.det, hs]
    exact (hproj p).2.2
  · have hslots := endAllRecords_slots w .restart (by rw [hs])
    rw [heng.eq]
    simp only [hslots]
    rw [hs]
    rfl
  · obtain ⟨-, hnone⟩ := endAllRecords_claim w .restart i x hx
    rwa [hs] at hnone
  · have hmem := (endRecords_queue .restart allRec (by decide) w (by rw [hs]; exact hroom)).2 x (mem_allRec x) rec (by rw [hs]; exact hrec)
    rw [endResult_restart, show w.tb.field = u.tb.field by rw [hs]; rfl] at hmem
    exact hmem
  · rw [heng.eq, hs]; rfl
  · rw [heng.eq, hs]; rfl
  · rw [heng.eq, hs]; rfl
  · rw [heng.eq, hs]; rfl
  · rw [heng.eq, hs]; rfl
  · exact ⟨hsettings.standard, hsettings.config, hsettings.lockParams, hsettings.period, hsettings.signature, hsettings.route,
      hsettings.source, hsettings.safety, hsettings.low, hsettings.horizon, hsettings.enables, hsettings.line⟩

end
end

section
/-! The row STOP (R29). -/

namespace Sys2Proof.Machine
open Sys2Proof.Claims

/-! ### The record of a projector while no projector is shared (R129) -/

theorem asOutgoing_of_record {s : State} (h : RecordsDisjoint s) {r : Rec} {rec : Record} (hrec : s.eng.records[r] = some rec) :
    s.asOutgoing rec.a = some r := by
  cases hfound : s.asOutgoing rec.a with
  | none => exact absurd (findRec_none hfound hrec) (by simp)
  | some x =>
    obtain ⟨rec', hx, ha⟩ := asOutgoing_some hfound
    rw [(h.eq_of_shared hrec hx (.inl rfl) (.inl ha)).1]

theorem asIncoming_of_record {s : State} (h : RecordsDisjoint s) {r : Rec} {rec : Record} (hrec : s.eng.records[r] = some rec) :
    s.asOutgoing rec.b = none ∧ s.asIncoming rec.b = some r := by
  constructor
  · cases hfound : s.asOutgoing rec.b with
    | none => rfl
    | some x =>
      obtain ⟨rec', hx, ha⟩ := asOutgoing_some hfound
      obtain ⟨-, rfl⟩ := h.eq_of_shared hrec hx (.inr rfl) (.inl ha)
      exact absurd ha (h r r rec rec hrec hrec).1
  · cases hfound : s.asIncoming rec.b with
    | none => exact absurd (findRec_none hfound hrec) (by simp)
    | some x =>
      obtain ⟨rec', hx, hb⟩ := asIncoming_some hfound
      rw [(h.eq_of_shared hrec hx (.inr rfl) (.inr hb)).1]

/-! ### A STOP handed to the engine (R158, R161) -/

theorem engineStop_of_free {s : State} {p : Proj} (h : InNoRecord s p) : s.engineStop p = s := by
  unfold State.engineStop
  rw [asOutgoing_eq_none h, asIncoming_eq_none (notIncoming_of_inNoRecord h)]

theorem engineStop_outgoing {s : State} (h : RecordsDisjoint s) {r : Rec} {rec : Record} (hrec : s.eng.records[r] = some rec) :
    s.engineStop rec.a = s.endRecord r .outgoingFailed := by
  unfold State.engineStop
  rw [asOutgoing_of_record h hrec]

theorem engineStop_incoming {s : State} (h : RecordsDisjoint s) {r : Rec} {rec : Record} (hrec : s.eng.records[r] = some rec) :
    s.engineStop rec.b = if rec.state = .tailout then s else s.endRecord r .incomingFailed := by
  obtain ⟨hout, hin⟩ := asIncoming_of_record h hrec
  unfold State.engineStop
  rw [hout, hin]
  simp only [hrec, Option.any_some, decide_eq_true_eq]

/-- The result that OUTGOING_FAILED reports: the decided one in TAILOUT (R150). -/
theorem endResult_outgoingFailed (rec : Record) : rec.endResult .outgoingFailed =
    if rec.state = .tailout then rec.result.getD .outgoingFailed else .outgoingFailed :=
  ite_congr (propext ⟨fun h => h.1, fun h => ⟨h, by decide, by decide⟩⟩) (fun _ => rfl) (fun _ => rfl)

/-! ### STOP at one projector (R29, R45) -/

/-- A tracker when its channel is given STOP: told that the motor is off when it ran. -/
def haltedTracker (t : Tracker) (c : Channel) : Tracker := if c.state = .runup ∨ c.state = .run then stopped t else t

/-- The channel and the tracker of a projector that is given STOP. -/
def State.halted (s : State) (p : Proj) : State :=
  { s with ch := s.ch.set p (stopTable s.ch[p]), tr := s.tr.set p (haltedTracker s.tr[p] s.ch[p]) }

theorem running_iff (c : Channel) : c.running = true ↔ c.state = .runup ∨ c.state = .run := by
  simp only [Channel.running, Bool.or_eq_true, decide_eq_true_eq]

theorem stopTable_of_moving {c : Channel} (h : (c.state = .runup ∨ c.state = .run) ∨ c.state = .inch) : stopTable c = coasting c := by
  unfold stopTable
  rcases h with (h | h) | h <;> rw [h]

theorem stopTable_of_rest {c : Channel} (h : ¬((c.state = .runup ∨ c.state = .run) ∨ c.state = .inch)) : stopTable c = c := by
  unfold stopTable
  split
  · exact absurd (.inl (.inl ‹_›)) h
  · exact absurd (.inl (.inr ‹_›)) h
  · exact absurd (.inr ‹_›) h
  · rfl

theorem haltedTracker_of_not {t : Tracker} {c : Channel} (h : ¬(c.state = .runup ∨ c.state = .run)) : haltedTracker t c = t := if_neg h

theorem doStop_eq (s : State) (p : Proj) : s.doStop p = (s.halted p).engineStop p := by
  unfold State.doStop State.halted
  by_cases hrun : s.ch[p].state = .runup ∨ s.ch[p].state = .run
  · rw [if_pos ((running_iff _).2 hrun), stopTable_of_moving (.inl hrun), show haltedTracker s.tr[p] s.ch[p] = _ from if_pos hrun]
    rfl
  · rw [if_neg (mt (running_iff _).1 hrun), haltedTracker_of_not hrun, set_getElem_self]
    by_cases hinch : s.ch[p].state = .inch
    · rw [if_pos hinch, stopTable_of_moving (.inr hinch)]
      rfl
    · rw [if_neg hinch, stopTable_of_rest (not_or.2 ⟨hrun, hinch⟩), set_getElem_self]

theorem requestStop_estop {s : State} (he : s.estop = true) (p : Proj) : s.requestStop p = (s, .estop) := if_pos he

theorem requestStop_taken {s : State} (he : s.estop = false) (p : Proj) :
    s.requestStop p = ((s.halted p).engineStop p, .accepted) :=
  (if_neg (ne_true_of_eq_false he)).trans (congrArg (·, Status.accepted) (doStop_eq s p))

/-- What the engine touches is no channel and no tracker, whatever these hold. -/
theorem EngineOnly.withFilm {s t : State} (h : EngineOnly s t) (c : Vector Channel 8) (x : Vector Tracker 8) :
    EngineOnly { s with ch := c, tr := x } { t with ch := c, tr := x } :=
  ⟨by rw [h.eq], h.isl, h.enabled, h.latched, h.due, h.lines⟩

/-! ### STOP at each of the eight projectors (R19) -/

/-- A state part of the way through a STOP to all projectors, those of `l` still to be reached. -/
structure Halting (w : State) (l : List Proj) (s : State) : Prop where
  nodup : l.Nodup
  kept : EngineOnly { w with ch := s.ch, tr := s.tr } s
  reached : ∀ p : Proj, s.ch[p] = (if p ∈ l then w.ch[p] else stopTable w.ch[p])
    ∧ s.tr[p] = (if p ∈ l then w.tr[p] else haltedTracker w.tr[p] w.ch[p])

namespace Halting

variable {w s : State} {p : Proj} {l : List Proj}

theorem start (w : State) : Halting w allProj w :=
  ⟨allProj_nodup, EngineOnly.refl w, fun p => by simp only [mem_allProj, if_true, and_self]⟩

theorem next (h : Halting w (p :: l) s) : Halting w l ((s.halted p).engineStop p) := by
  have heng := engineStop_engineOnly (s.halted p) p
  obtain ⟨hp, hl⟩ := List.nodup_cons.1 h.nodup
  obtain ⟨hch, htr⟩ := h.reached p
  rw [if_pos List.mem_cons_self] at hch htr
  refine ⟨hl, ?_, fun q => ?_⟩
  · rw [heng.ch, heng.tr]
    exact (h.kept.withFilm _ _).trans heng
  · rw [heng.ch, heng.tr]
    by_cases hq : q = p
    · subst hq
      rw [if_neg hp, if_neg hp, ← hch, ← htr]
      exact ⟨getElem_set_same _ _ _, getElem_set_same _ _ _⟩
    · obtain ⟨hch, htr⟩ := h.reached q
      simp only [List.mem_cons, hq, false_or] at hch htr
      exact ⟨(getElem_set_other _ _ hq).trans hch, (getElem_set_other _ _ hq).trans htr⟩

end Halting

theorem requestEach_stop {w : State} (he : w.estop = false) :
    ∃ v, w.requestEach State.requestStop allProj = (v, allProj.map fun _ => Status.accepted) ∧ Halting w [] v := by
  have hstep (p l s) (h : Halting w (p :: l) s) : (s.requestStop p).2 = .accepted ∧ Halting w l (s.requestStop p).1 := by
    have hes : s.estop = false := h.kept.estop.trans he
    rw [requestStop_taken hes]
    exact ⟨rfl, h.next⟩
  obtain ⟨hsts, hend⟩ := requestEach_spec (g := fun _ => .accepted) hstep (Halting.start w)
  exact ⟨_, Prod.ext rfl hsts, hend⟩

theorem requestEach_stop_estop {w : State} (he : w.estop = true) :
    w.requestEach State.requestStop allProj = (w, allProj.map fun _ => Status.estop) := by
  obtain ⟨hsts, hend⟩ := requestEach_spec (req := State.requestStop) (g := fun _ => .estop) (Inv := fun _ s => s = w) (s := w)
    (l := allProj) (fun p l s hs => by subst hs; rw [requestStop_estop he]; exact ⟨rfl, rfl⟩) rfl
  exact Prod.ext hend hsts

end Sys2Proof.Machine

section
open Sys2Proof Sys2Proof.Machine Sys2Proof.Claims

/-- Settles O43: the channel and the tracker by their table, then the engine's ending of the record. -/
theorem stopRows : Obligations.StopRows := by
  intro s m via hears
  obtain ⟨r, h⟩ := heard hears
  generalize s.arrive m = u at h
  intro u' haltedOf
  have hrow (p : Proj) {w : State} {st : Status} (hreq : (u.asFound r).requestStop p = (w, st)) {b : Byte}
      (hline : ({ w.line with queue := (u.asFound r).line.queue, discarded := (u.asFound r).line.discarded } : Line) = (u.asFound r).line)
      (hnow : w.now = u.now) (hb : st.code = b) : exec (.stop m via (projByte p)) s = .next (Answered via u 0x22 b [] w) :=
    h.left (cmd := cmdStop (projByte p)) rfl (forProjectors_eq (req := State.requestStop) hreq) hline hnow hb
  refine ⟨fun a ha => ?_, fun p => ?_, fun he => ?_, fun he => ?_⟩
  · exact h.unchanged (cmd := cmdStop a) rfl (forProjectors_of_none _ ha _) rfl
  · intro one w
    have htaken (he : u.estop = false) : (u.asFound r).requestStop p = (((u.asFound r).halted p).engineStop p, .accepted) :=
      requestStop_taken (s := u.asFound r) he p
    have hquiet (he : u.estop = false) (hsame : ((u.asFound r).halted p).engineStop p = (u.asFound r).halted p) : one 0x00 w :=
      h.changed (cmd := cmdStop (projByte p)) (v := w) rfl
        (forProjectors_eq (req := State.requestStop) ((htaken he).trans (by rw [hsame]; rfl))) rfl rfl rfl
    have hended (he : u.estop = false) (x : Rec) (rec : Record) (hrec : u.eng.records[x] = some rec) (res : Result)
        (hroom : u.line.queue.length < 16)
        (hengine : ((u.asFound r).halted p).engineStop p = ((u.asFound r).halted p).endRecord x res) :
        ∃ v, one 0x00 v ∧ v.ch = w.ch ∧ v.tr = w.tr ∧ Ended u v x rec (rec.endResult res) := by
      have heng := endRecord_engineOnly ((u.asFound r).halted p) x res
      have hend : Ended ((u.asFound r).halted p) _ x rec (rec.endResult res) := ended_endRecord res hrec hroom
      refine ⟨_, hrow p (htaken he) ?_ ?_ rfl, ?_, ?_, ?_⟩
      · rw [hengine, heng.eq]; rfl
      · rw [hengine, heng.eq]; rfl
      · rw [hengine, heng.eq]; rfl
      · rw [hengine, heng.eq]; rfl
      · rw [hengine]
        exact ⟨hend.records, hend.request, hend.claims, hend.notice, hend.rest⟩
    refine ⟨fun he => ?_, fun he hno => ?_, fun x rec he hdis hrec hroom => ⟨fun hp => ?_, fun hp hne => ?_, fun hp ht => ?_⟩⟩
    · exact h.unchanged (cmd := cmdStop (projByte p)) rfl
        (forProjectors_eq (req := State.requestStop) (requestStop_estop (s := u.asFound r) he p)) rfl
    · exact hquiet he (engineStop_of_free hno)
    all_goals subst hp
    · rw [← endResult_outgoingFailed]
      exact hended he x rec hrec .outgoingFailed hroom (engineStop_outgoing (s := (u.asFound r).halted rec.a) hdis hrec)
    · have hinc := engineStop_incoming (s := (u.asFound r).halted rec.b) hdis hrec
      rw [if_neg hne] at hinc
      have := hended he x rec hrec .incomingFailed hroom hinc
      rwa [endResult_of_ne_tailout hne] at this
    · have hinc := engineStop_incoming (s := (u.asFound r).halted rec.b) hdis hrec
      exact hquiet he (hinc.trans (if_pos ht))
  · obtain ⟨st, hcmd, hst⟩ := forProjectors_zero_of_each (requestEach_stop_estop (w := u.asFound r) he) fun p => nofun
    exact h.unchanged (cmd := cmdStop 0) rfl hcmd hst
  · obtain ⟨v, heach, hv⟩ := requestEach_stop (w := u.asFound r) he
    obtain ⟨st, hcmd, hst⟩ := forProjectors_zero_of_each heach fun p => nofun
    have hk := hv.kept
    refine ⟨v, h.left (cmd := cmdStop 0) rfl hcmd (by rw [hk.eq]) (by rw [hk.eq]; rfl) hst, by rw [hk.eq]; rfl, by rw [hk.eq]; rfl,
      by rw [hk.eq]; rfl, by rw [hk.eq]; rfl, fun p => ?_⟩
    have hp := hv.reached p
    simp only [List.not_mem_nil, if_false] at hp
    exact hp

end
end

section
/-! The row START (R18, R19, R25, R120). -/

namespace Sys2Proof.Machine
open Sys2Proof.Claims

/-! ### What consumptions and notices of one projector touch (R116, R124) -/

/-- A state after consumptions of entries of `p` and notices: the lists, the mode of `p` in an underrun, the notices. -/
structure Restocked (p : Proj) (s t : State) : Prop where
  eq : t = { s with
    ch := t.ch, cues := t.cues, alarm := t.alarm, line := { s.line with queue := t.line.queue, discarded := t.line.discarded } }
  steady : Steady (.of p) s t
  own : t.ch[p] = { s.ch[p] with mode := t.ch[p].mode }

namespace Restocked

variable {p : Proj} {s t u : State}

theorem refl (p : Proj) (s : State) : Restocked p s s := ⟨rfl, Steady.refl s, rfl⟩

theorem trans (h : Restocked p s t) (k : Restocked p t u) : Restocked p s u where
  eq := by
    rw [k.eq]
    have := h.eq
    rw [this]
  steady := h.steady.trans k.steady
  own := by
    rw [k.own]
    have := h.own
    rw [this]

theorem passIf (s : State) (c : Bool) (k : ProjAlarm) : Restocked p s (s.passIf c (.proj p k)) where
  eq := by
    have := (passIf_notified s c (.proj p k)).eq
    rw [this]
  steady := passIf_steady _ _ (notTally_proj p _)
  own := by rw [(passIf_notified s c (.proj p k)).ch]

theorem consume (s : State) (e : CueEntry) (o : CueOutcome) (v : Int) (b : Bool) : Restocked p s (s.consume p e o v b) where
  eq := (consume_consumed s p e o v b).1.eq
  steady := consume_steady s (of_has p).film e o v b
  own := (consume_consumed s p e o v b).1.ch

/-- No other channel is touched. -/
theorem channels (h : Restocked p s t) : t.ch = s.ch.set p { s.ch[p] with mode := t.ch[p].mode } := by
  refine vector_ext fun q => ?_
  by_cases hq : q = p
  · subst hq
    rw [getElem_set_same]
    exact h.own
  · rw [getElem_set_other _ _ hq]
    exact (h.steady.others q hq).1

end Restocked

/-! ### START taken (R25, R45, R120) -/

/-- A channel and its tracker at a START, before its events are passed. -/
def State.begun (s : State) (p : Proj) : State :=
  { s with ch := s.ch.set p (started s.ch[p] s.tb.field s.tr[p].frame), tr := s.tr.set p (searching s.tr[p]) }

theorem begun_frame (s : State) (p : Proj) : (s.begun p).tr[p].frame = s.tr[p].frame :=
  (congrArg Tracker.frame (getElem_set_same s.tr p _)).trans rfl

theorem skipAtStart_restocked (s : State) (p : Proj) : Restocked p s (s.skipAtStart p) := by
  unfold State.skipAtStart
  generalize s.cues.lists[p].filter (fun e => decide ((e.pos : Int) < s.tr[p].frame)) = l
  induction l generalizing s with
  | nil => exact Restocked.refl p s
  | cons e l ih => exact (Restocked.consume s e .skipped 0 true).trans (ih _)

/-- In a whole store the entries behind the frame count leave the list, and no other (R120). -/
theorem skipAtStart_list {s : State} {p : Proj} (h : Numbered s.cues.lists[p]) :
    (s.skipAtStart p).cues.lists[p] = s.cues.lists[p].filter (fun e => s.tr[p].frame ≤ e.pos) := by
  have hpass := Passing.begin s p h (fun e => decide ((e.pos : Int) < s.tr[p].frame))
  have hend := foldl_rest (f := fun s e => s.consume p e .skipped 0 true) (fun e rest w hw => Passing.consume hw h .skipped 0 true) hpass
  exact hend.done.trans (List.filter_congr fun e _ => decide_not.symm.trans (decide_eq_decide.2 Int.not_lt))

/-- A START taken: what it leaves of the projector's blocks, and its events. -/
theorem doStart_restocked (s : State) (p : Proj) :
    Restocked p (s.begun p) (s.doStart p)
      ∧ (Numbered s.cues.lists[p] → (s.doStart p).cues.lists[p] = s.cues.lists[p].filter (fun e => s.tr[p].frame ≤ e.pos))
      ∧ (s.tr[p].phase ≠ 0 → Latched (s.doStart p) (.proj p .framing)) := by
  have hframing := Restocked.passIf (s.begun p) (decide (s.tr[p].phase ≠ 0)) .framing (p := p)
  have hlatch : s.tr[p].phase ≠ 0 → Latched ((s.begun p).passIf (decide (s.tr[p].phase ≠ 0)) (.proj p .framing)) (.proj p .framing) := by
    intro hphase
    rw [decide_eq_true hphase]
    exact pass_latches _ _
  have hcues : ((s.begun p).passIf (decide (s.tr[p].phase ≠ 0)) (.proj p .framing)).cues = s.cues := (passIf_notified _ _ _).cues
  have hframe : ((s.begun p).passIf (decide (s.tr[p].phase ≠ 0)) (.proj p .framing)).tr[p].frame = s.tr[p].frame := by
    rw [(passIf_notified _ _ _).tr]
    exact begun_frame s p
  have hstart : s.doStart p = (((s.begun p).passIf (decide (s.tr[p].phase ≠ 0)) (.proj p .framing)).skipAtStart p).lowTest p (s.ahead p) := rfl
  generalize (s.begun p).passIf (decide (s.tr[p].phase ≠ 0)) (.proj p .framing) = w at hframing hlatch hcues hframe hstart
  have hskip := skipAtStart_restocked w p
  have hlow : Restocked p (w.skipAtStart p) ((w.skipAtStart p).lowTest p (s.ahead p)) := Restocked.passIf _ _ .cueLow
  have hlowCues : ((w.skipAtStart p).lowTest p (s.ahead p)).cues = (w.skipAtStart p).cues := (passIf_notified _ _ _).cues
  rw [hstart]
  refine ⟨(hframing.trans hskip).trans hlow, fun hnum => ?_, fun hphase => ?_⟩
  · rw [hlowCues, skipAtStart_list (by rw [hcues]; exact hnum), hcues, hframe]
  · exact hlow.steady.latched _ (hskip.steady.latched _ (hlatch hphase))

/-! ### The request of the host (R18) -/

/-- The status of a START from the host, by its checks in order. -/
def startStatus (s : State) (p : Proj) : Status :=
  if s.estop then .estop else if (s.asIncoming p).isSome then .inChangeover else if s.ch[p].state ≠ .ready then .busy else .accepted

theorem requestStart_eq (s : State) (p : Proj) :
    s.requestStart p true = (if startStatus s p = .accepted then s.doStart p else s, startStatus s p) := by
  unfold State.requestStart startStatus
  simp only [Bool.true_and]
  split_ifs <;> first | rfl | contradiction

/-- What each check says of the status (R18). -/
theorem startStatus_cases (s : State) (p : Proj) :
    (s.estop = true → startStatus s p = .estop)
    ∧ (s.estop = false → ¬NotIncoming s p → startStatus s p = .inChangeover)
    ∧ (s.estop = false → NotIncoming s p → s.ch[p].state ≠ .ready → startStatus s p = .busy)
    ∧ (s.estop = false → NotIncoming s p → s.ch[p].state = .ready → startStatus s p = .accepted) := by
  have hin (h : NotIncoming s p) : ¬(s.asIncoming p).isSome = true := by
    rw [asIncoming_eq_none h]
    decide
  refine ⟨fun he => if_pos he, fun he hi => ?_, fun he hi hs => ?_, fun he hi hs => ?_⟩
  all_goals refine (if_neg (ne_true_of_eq_false he)).trans ?_
  · exact if_pos (asIncoming_isSome hi)
  · exact (if_neg (hin hi)).trans (if_pos hs)
  · exact (if_neg (hin hi)).trans (if_neg (not_not.2 hs))

theorem startStatus_ne_clamped (s : State) (p : Proj) : startStatus s p ≠ .acceptedClamped := by
  unfold startStatus
  split_ifs <;> exact nofun

/-! ### START at each of the eight projectors (R19) -/

/-- A state part of the way through a START of all projectors, those of `l` still to be reached. -/
structure Starting (w : State) (l : List Proj) (s : State) : Prop where
  nodup : l.Nodup
  eq : s = { w with
    ch := s.ch, tr := s.tr, cues := s.cues, alarm := s.alarm
    line := { w.line with queue := s.line.queue, discarded := s.line.discarded } }
  waiting : ∀ p ∈ l, s.ch[p] = w.ch[p] ∧ s.tr[p] = w.tr[p]
  refused : ∀ p : Proj, startStatus w p ≠ .accepted → s.ch[p] = w.ch[p] ∧ s.tr[p] = w.tr[p]
  taken : ∀ p : Proj, p ∉ l → startStatus w p = .accepted →
    s.ch[p].state = .runup ∧ s.ch[p].motor = true ∧ s.tr[p] = searching w.tr[p]

namespace Starting

variable {w s : State} {p : Proj} {l : List Proj}

theorem start (w : State) : Starting w allProj w :=
  ⟨allProj_nodup, rfl, fun _ _ => ⟨rfl, rfl⟩, fun _ _ => ⟨rfl, rfl⟩, fun p hp => absurd (mem_allProj p) hp⟩

/-- The status of a projector still to be reached is that of the beginning. -/
theorem status (h : Starting w l s) (hp : p ∈ l) : startStatus s p = startStatus w p := by
  have heq := h.eq
  have hch := (h.waiting p hp).1
  unfold startStatus
  rw [hch, heq]
  rfl

theorem refuse (h : Starting w (p :: l) s) (hst : startStatus w p ≠ .accepted) : Starting w l s := by
  obtain ⟨hp, hl⟩ := List.nodup_cons.1 h.nodup
  refine ⟨hl, h.eq, fun q hq => h.waiting q (List.mem_cons_of_mem p hq), h.refused, fun q hq hok => h.taken q ?_ hok⟩
  exact mt List.mem_cons.1 (not_or.2 ⟨fun hqp => hst (hqp ▸ hok), hq⟩)

theorem take (h : Starting w (p :: l) s) (hst : startStatus w p = .accepted) : Starting w l (s.doStart p) := by
  obtain ⟨hp, hl⟩ := List.nodup_cons.1 h.nodup
  have hk := (doStart_restocked s p).1
  have hsame (q : Proj) (hq : q ≠ p) : (s.doStart p).ch[q] = s.ch[q] ∧ (s.doStart p).tr[q] = s.tr[q] := by
    obtain ⟨hch, htr, -⟩ := hk.steady.others q hq
    exact ⟨hch.trans (getElem_set_other _ _ hq), htr.trans (getElem_set_other _ _ hq)⟩
  refine ⟨hl, ?_, fun q hq => ?_, fun q hq => ?_, fun q hq hok => ?_⟩
  · rw [hk.eq]
    have heq := h.eq
    rw [heq]
    rfl
  · have hqp : q ≠ p := fun hqp => hp (hqp ▸ hq)
    obtain ⟨hch, htr⟩ := h.waiting q (List.mem_cons_of_mem p hq)
    exact ⟨(hsame q hqp).1.trans hch, (hsame q hqp).2.trans htr⟩
  · have hqp : q ≠ p := fun hqp => hq (hqp ▸ hst)
    obtain ⟨hch, htr⟩ := h.refused q hq
    exact ⟨(hsame q hqp).1.trans hch, (hsame q hqp).2.trans htr⟩
  · by_cases hqp : q = p
    · subst hqp
      have hown := hk.own
      rw [show (s.begun q).ch[q] = started s.ch[q] s.tb.field s.tr[q].frame from getElem_set_same _ _ _] at hown
      refine ⟨?_, ?_, ?_⟩
      · rw [hown]; rfl
      · rw [hown]; rfl
      · rw [hk.eq]
        exact (getElem_set_same _ _ _).trans (congrArg searching (h.waiting q List.mem_cons_self).2)
    · obtain ⟨hstate, hmotor, htr⟩ := h.taken q (mt List.mem_cons.1 (not_or.2 ⟨hqp, hq⟩)) hok
      rw [(hsame q hqp).1, (hsame q hqp).2]
      exact ⟨hstate, hmotor, htr⟩

end Starting

theorem requestEach_start (w : State) : ∃ v,
    w.requestEach (fun s p => s.requestStart p true) allProj = (v, allProj.map (startStatus w)) ∧ Starting w [] v := by
  have hstep (p l s) (h : Starting w (p :: l) s) :
      (s.requestStart p true).2 = startStatus w p ∧ Starting w l (s.requestStart p true).1 := by
    rw [requestStart_eq, h.status List.mem_cons_self]
    refine ⟨rfl, ?_⟩
    by_cases hst : startStatus w p = .accepted
    · simp only [hst, if_true]
      exact h.take hst
    · simp only [if_neg hst]
      exact h.refuse hst
  obtain ⟨hsts, hend⟩ := requestEach_spec (req := fun s p => s.requestStart p true) hstep (Starting.start w)
  exact ⟨_, Prod.ext rfl hsts, hend⟩

end Sys2Proof.Machine

section
open Sys2Proof Sys2Proof.Machine Sys2Proof.Claims

/-- Settles O42: the checks in their order, and the blocks of the projector that a START taken leaves. -/
theorem startRows : Obligations.StartRows := by
  intro s m via hears
  obtain ⟨r, h⟩ := heard hears
  generalize s.arrive m = u at h
  intro u' n
  refine ⟨fun a ha => ?_, fun p => ?_, ?_⟩
  · exact h.unchanged (cmd := cmdStart a) rfl (forProjectors_of_none _ ha _) rfl
  · intro one
    obtain ⟨hestop, hincoming, hbusy, hready⟩ := startStatus_cases (u.asFound r) p
    have hreq := requestStart_eq (u.asFound r) p
    have hrefuse {st : Status} (hst : startStatus (u.asFound r) p = st) (hne : st ≠ .accepted) : one st.code u := by
      rw [hst, if_neg hne] at hreq
      exact h.unchanged (cmd := cmdStart (projByte p)) rfl (forProjectors_eq (req := fun s p => s.requestStart p true) hreq) rfl
    have htake (hst : startStatus (u.asFound r) p = .accepted) :
        cmdStart (projByte p) (u.asFound r) = ⟨(u.asFound r).doStart p, .accepted, []⟩ := by
      rw [hst, if_pos rfl] at hreq
      exact forProjectors_eq (req := fun s p => s.requestStart p true) hreq
    refine ⟨fun he => ?_, fun he hi => ?_, fun he hi hs => ?_, fun he hi hs hphase hcues => ?_, fun he hi hs hwhole => ?_⟩
    · exact hrefuse (hestop he) (by decide)
    · exact hrefuse (hincoming he hi) (by decide)
    · exact hrefuse (hbusy he hi hs) (by decide)
    · refine h.changed (cmd := cmdStart (projByte p)) (v := u.begun p) (st := .accepted) (body := []) rfl ((htake (hready he hi hs)).trans ?_) rfl rfl rfl
      rw [doStart_eq (u.asFound r) p hcues hphase]
      rfl
    · obtain ⟨hk, hlist, hframing⟩ := doStart_restocked (u.asFound r) p
      have hrow := htake (hready he hi hs)
      generalize (u.asFound r).doStart p = v at hk hlist hframing hrow
      refine ⟨v, h.left (cmd := cmdStart (projByte p)) rfl hrow (by rw [hk.eq]; rfl) (by rw [hk.eq]; rfl) rfl, ?_, ?_, ?_, hframing,
        ?_, ?_, ?_, ?_, ?_, ?_⟩
      · rw [hk.eq]; rfl
      · refine hk.channels.trans (vector_ext fun q => ?_)
        by_cases hq : q = p
        · subst hq
          rw [getElem_set_same, getElem_set_same, show ((u.asFound r).begun q).ch[q] = started u.ch[q] n u.tr[q].frame from
            getElem_set_same _ _ _]
        · rw [getElem_set_other _ _ hq, getElem_set_other _ _ hq]
          exact getElem_set_other _ _ hq
      · refine vector_ext fun q => ?_
        by_cases hq : q = p
        · subst hq
          rw [getElem_set_same]
          exact hlist (numbered_of_whole hwhole q)
        · rw [getElem_set_other _ _ hq]
          exact (hk.steady.others q hq).2.2.2
      all_goals rw [hk.eq]; rfl
  · obtain ⟨v, heach, hv⟩ := requestEach_start (u.asFound r)
    obtain ⟨st, hcmd, hst⟩ := forProjectors_zero_of_each heach (startStatus_ne_clamped _)
    have heq := hv.eq
    refine ⟨fun p => (startStatus (u.asFound r) p).code, v, ?_, ?_, ?_, ?_, ?_, ?_, ?_, fun p => ?_⟩
    · exact h.left (cmd := cmdStart 0) rfl hcmd (by rw [heq]) (by rw [heq]; rfl) hst
    iterate 6 rw [heq]; rfl
    obtain ⟨hestop, hincoming, hbusy, hready⟩ := startStatus_cases (u.asFound r) p
    refine ⟨fun he => ?_, fun he hi => ?_, fun he hi hs => ?_, fun he hi hs => ?_, fun hne => ?_⟩
    · exact congrArg Status.code (hestop he)
    · exact congrArg Status.code (hincoming he hi)
    · exact congrArg Status.code (hbusy he hi hs)
    · exact ⟨congrArg Status.code (hready he hi hs), hv.taken p List.not_mem_nil (hready he hi hs)⟩
    · exact hv.refused p fun hst => hne (congrArg Status.code hst)

end
end

section
/-! The queries and POLL: the bytes of their replies (R43, R62, R89, R145, R174, R183, R185 to R188). -/

namespace Sys2Proof.Machine
open Sys2Proof.Claims

/-! ### The spellings of numbers and flags (R183) -/

theorem bytesOf_two (n : Nat) : bytesOf 2 n = b2 n := by
  simp [bytesOf, b2, List.range_succ]

theorem bytesOf_three (n : Nat) : bytesOf 3 n = b3 n := by
  simp [bytesOf, b3, b2, List.range_succ]

theorem bytesOf_four (n : Nat) : bytesOf 4 n = b4 n := by
  simp [bytesOf, b4, b2, List.range_succ, Nat.div_div_eq_div_mul]

theorem sum_zipIdx_flags (bs : List Bool) (k : Nat) : ((bs.zipIdx k).map fun x => if x.1 then 2 ^ x.2 else 0).sum =
    2 ^ k * bs.foldr (fun b acc => (if b then 1 else 0) + 2 * acc) 0 := by
  induction bs generalizing k with
  | nil => rfl
  | cons b bs ih =>
    rw [List.zipIdx_cons, List.map_cons, List.sum_cons, ih, List.foldr_cons, pow_succ]
    cases b
    · simp only [Bool.false_eq_true, if_false]
      ring
    · simp only [if_true]
      ring

theorem bFlags_eq (bs : List Bool) : bFlags bs = [flagByte bs] := by
  unfold bFlags flagByte
  rw [sum_zipIdx_flags, pow_zero, one_mul]

theorem field4_eq (x : Option Field) : field4 x = bFieldOpt x := by
  unfold field4
  rw [bytesOf_four]
  cases x <;> rfl

theorem signed4_eq (x : Option Int) : signed4 x = s4 (x.getD 0) := bytesOf_four _

/-! ### The layouts of records, islands and notices (R186, R187) -/

theorem recordBytes_eq (rec : Record) : recordBytes rec = b1 rec.state.code ++ rec.bytes := by
  unfold recordBytes recordFlags Record.bytes Record.presence RecFlags.byte tailOutWord
  simp only [bytesOf_two, bytesOf_three, bFlags_eq, field4_eq, signed4_eq, b1, projNo, projByte, List.cons_append, List.nil_append,
    List.append_assoc]

theorem length_recordBytes (rec : Record) : (recordBytes rec).length = 44 := by
  rw [recordBytes_eq]
  unfold Record.bytes Record.presence RecFlags.byte
  simp only [List.length_append, length_b1, length_b2, length_b3, length_s4, length_bFieldOpt, length_bFlags]

theorem number_eq (p : Option Proj) : p.elim 0 projByte = BitVec.ofNat 8 (projNoOpt p) := by cases p <;> rfl

theorem tally_flag (x : Option Bool) : decide (x = some true) = x.getD false := by
  rcases x with _ | _ | _ <;> rfl

theorem islandBytes_eq (u : State) (i : Isl) : islandBytes u i = u.islandStatus i := by
  have hroute : allProj.map (fun p => BitVec.ofNat 8 (u.route[p].elim 0 fun y => (y.1.val + 1) * 16 + y.2.val))
      = allProj.flatMap fun p => placeByte u.route[p] := List.map_eq_flatMap
  unfold islandBytes State.islandStatus
  simp only [bFlags_eq, field4_eq, hroute, tally_flag, number_eq, b1, List.cons_append, List.nil_append, List.append_assoc]

theorem cueNoticeBytes_eq (y : CueNotice) : cueNoticeBytes y = (Notice.cue y).bytes := by
  unfold cueNoticeBytes Notice.bytes bField s3
  simp only [bytesOf_two, bytesOf_three, bytesOf_four, b1, projNo, projByte, List.cons_append, List.nil_append, List.append_assoc]
  rfl

theorem changeNoticeBytes_eq (y : ChangeNotice) : changeNoticeBytes y = (Notice.change y).bytes := by
  unfold changeNoticeBytes recordFlags Notice.bytes ChangeNotice.presence RecFlags.byte bField
  simp only [bytesOf_two, bytesOf_three, bytesOf_four, bFlags_eq, field4_eq, signed4_eq, b1, projNo, projByte, List.cons_append,
    List.nil_append, List.append_assoc]
  rfl

theorem length_cueBytes (y : CueNotice) : (Notice.cue y).bytes.length = 17 := by
  unfold Notice.bytes
  simp only [List.length_append, length_b1, length_b2, length_b3, length_s3, length_bField, List.length_singleton]

theorem length_changeBytes (y : ChangeNotice) : (Notice.change y).bytes.length = 37 := by
  unfold Notice.bytes ChangeNotice.presence RecFlags.byte
  simp only [List.length_append, length_b1, length_b2, length_b3, length_s4, length_bField, length_bFieldOpt, length_bFlags]

theorem alarmBytes_eq (id : AlarmId) (field : Field) (frame : Option Int) : (Notice.alarm id field frame).bytes =
    [1, BitVec.ofNat 8 id.unitCode, BitVec.ofNat 8 id.kindCode, if id.isMajor then 1 else 0] ++ bytesOf 4 field.toNat
      ++ frame.elim [0x80, 0, 0] fun f => bytesOf 3 (BitVec.ofInt 24 f).toNat := by
  have hclass : BitVec.ofNat 8 (if id.isMajor then 1 else 0) = if id.isMajor then 1 else 0 := by cases id.isMajor <;> rfl
  have hframe : bFrameOpt frame = frame.elim [0x80, 0, 0] fun f => bytesOf 3 (BitVec.ofInt 24 f).toNat := by
    cases frame with
    | none => rfl
    | some f => exact (bytesOf_three _).symm
  rw [bytesOf_four, ← hframe]
  simp only [Notice.bytes, b1, bField, hclass, List.cons_append, List.nil_append]
  rfl

/-! ### Parts of a reply -/

/-- A part that begins behind another one. -/
theorem slice_behind {α : Type} {l r : List α} {k : Nat} (h : l.length = k) (j n : Nat) :
    ((l ++ r).drop (k + j)).take n = (r.drop j).take n := by
  rw [← h, List.drop_append, List.drop_eq_nil_of_le (by omega), List.nil_append, Nat.add_sub_cancel_left]

/-- Lists of one length joined. -/
theorem length_flatMap_of_const {α β : Type} {f : α → List β} {n : Nat} (h : ∀ x, (f x).length = n) (l : List α) :
    (l.flatMap f).length = n * l.length := by
  induction l with
  | nil => rfl
  | cons x l ih =>
    rw [List.flatMap_cons, List.length_append, h, ih, List.length_cons]
    ring

/-- The part of a table of two bytes each that belongs to one place. -/
theorem slice_pairs {α β : Type} {f : α → List β} (h : ∀ x, (f x).length = 2) {l : List α} {k : Nat} {x : α} (hk : l[k]? = some x)
    (r : List β) : ((l.flatMap f ++ r).drop (2 * k)).take 2 = f x := by
  obtain ⟨hlt, hx⟩ := List.getElem?_eq_some_iff.1 hk
  have hpre := length_flatMap_of_const h (l.take k)
  rw [List.length_take_of_le (Nat.le_of_lt hlt)] at hpre
  have hsplit : l.flatMap f = (l.take k).flatMap f ++ (f x ++ (l.drop (k + 1)).flatMap f) := by
    conv_lhs => rw [← List.take_append_drop k l, List.drop_eq_getElem_cons hlt, List.flatMap_append, List.flatMap_cons, hx]
  rw [hsplit, List.append_assoc, ← Nat.add_zero (2 * k), slice_behind hpre, List.append_assoc]
  exact List.take_left' (h x)

/-! ### The projector status (R187) -/

theorem length_historyBytes {h : List (Nat × Nat)} (hlen : h.length ≤ 8) : (historyBytes h).length = 25 := by
  unfold historyBytes
  rw [List.length_append, length_flatMap_of_const (n := 3) fun x => rfl, List.length_append, List.length_replicate, length_b1]
  omega

theorem length_channelStatus {s : State} {p : Proj} (h : s.ch[p].history.length ≤ 8) : (s.channelStatus p).length = 59 := by
  unfold State.channelStatus timerWord
  simp only [List.length_append, length_b1, length_b2, length_s3, length_bFieldOpt, length_bFlags, length_historyBytes h]

theorem length_trackerStatus (s : State) (p : Proj) : (s.trackerStatus p).length = 40 := by
  unfold State.trackerStatus
  simp only [List.length_append, length_b1, length_b2, length_s3, length_bFieldOpt]

theorem length_cueStatus (s : State) (p : Proj) : (s.cueStatus p).length = 9 := rfl

theorem length_projectorStatus {s : State} {p : Proj} (h : s.ch[p].history.length ≤ 8) : (s.projectorStatus p).length = 108 := by
  unfold State.projectorStatus
  rw [List.length_append, List.length_append, length_channelStatus h, length_trackerStatus, length_cueStatus]

/-- A part of the tracker's and the cue store's bytes, in the whole. -/
theorem projectorStatus_slice {s : State} {p : Proj} (h : s.ch[p].history.length ≤ 8) (j n : Nat) :
    ((s.projectorStatus p).drop (59 + j)).take n = ((s.trackerStatus p ++ s.cueStatus p).drop j).take n := by
  unfold State.projectorStatus
  rw [List.append_assoc]
  exact slice_behind (length_channelStatus h) j n

theorem channelStatus_head (s : State) (p : Proj) : ((s.projectorStatus p).drop 0).take 3 =
    [BitVec.ofNat 8 s.ch[p].state.code, BitVec.ofNat 8 s.ch[p].cause.code, BitVec.ofNat 8 s.ch[p].mode.code] := by
  unfold State.projectorStatus State.channelStatus
  simp only [List.append_assoc, List.drop_zero]
  rfl

theorem trackerStatus_frame (s : State) (p : Proj) : ((s.trackerStatus p ++ s.cueStatus p).drop 0).take 3 = s3 s.tr[p].frame := by
  simp only [State.trackerStatus, List.append_assoc, List.drop_zero]
  exact List.take_left' rfl

/-- The bytes from the perf phase on, behind the frame count and the feet and frames. -/
theorem trackerStatus_phase (s : State) (p : Proj) : ((s.trackerStatus p ++ s.cueStatus p).drop 7).take 2 =
    [BitVec.ofNat 8 s.tr[p].phase, BitVec.ofNat 8 s.tr[p].lock.code] := by
  simp only [State.trackerStatus, s3, b3, b2, b1, List.append_assoc, List.cons_append, List.nil_append, List.drop_succ_cons, List.drop_zero,
    List.take_succ_cons, List.take_zero]

theorem trackerStatus_counters (s : State) (p : Proj) : ((s.trackerStatus p ++ s.cueStatus p).drop 24).take 8 =
    b2 s.tr[p].slips ++ b2 s.tr[p].perfDefects ++ b2 s.tr[p].strayMarks ++ b2 s.tr[p].corrections := by
  simp only [State.trackerStatus, s3, bFieldOpt, bField, b4, b3, b2, b1, List.cons_append, List.nil_append,
    List.drop_succ_cons, List.drop_zero, List.take_succ_cons, List.take_zero]

theorem cueStatus_counts (s : State) (p : Proj) : ((s.trackerStatus p ++ s.cueStatus p).drop (40 + 4)).take 4 =
    b2 s.cues.lists[p].length ++ b2 (s.ahead p) := by
  rw [slice_behind (length_trackerStatus s p)]
  rfl

/-! ### The island status (R89, R187) -/

theorem length_islandStatus (s : State) (i : Isl) : (s.islandStatus i).length = 26 := by
  unfold State.islandStatus
  rw [List.length_append, length_flatMap_of_const (n := 1) fun x => rfl]
  simp only [List.length_append, length_b1, length_bFlags, length_bFieldOpt]
  rfl

/-! ### The device status (R188) -/

theorem length_slotBytes (x : Option ChangeReq) : (slotBytes x).length = 11 := by cases x <;> rfl

theorem length_takeStatus (t : TakePort) : t.status.length = 79 := by
  have hslots := length_flatMap_of_const (fun r : Rec => length_slotBytes t.slots[r]) allRec
  unfold TakePort.status
  simp only [List.length_append, hslots, length_b1, length_bFlags, length_bField, length_bFieldOpt]
  cases t.protective <;> cases t.host <;> rfl

/-- The device status up to the take port's part, which has 22 bytes. -/
def State.devicePart (s : State) : List Byte :=
  b1 s.tb.standard.code ++ b1 s.tb.state.code ++ b1 s.tb.runCount ++ bField s.tb.field
    ++ bFlags [s.syncFlag, s.estop, s.take.strobe]
    ++ b1 s.line.own.toNat ++ b1 s.line.rate.toNat ++ b1 s.line.mask.toNat
    ++ b2 s.line.taken ++ b2 s.line.faults ++ b2 s.line.overruns ++ b2 s.line.discarded
    ++ b1 s.line.queue.length ++ b2 s.cues.free

theorem deviceStatus_eq (s : State) : s.deviceStatus = s.devicePart ++ s.take.status := rfl

/-! ### The alarm status (R174, R187) -/

/-- A pair's latch, enable and count. -/
def pairBytes (l : Latch) : List Byte := bFlags [l.set, l.enabled] ++ b1 l.count

theorem alarmStatus_eq (s : State) (u : AlarmUnitId) : s.alarmStatus u =
    (bFlags [s.alarm.major, s.alarm.minor] ++ allUnits.flatMap s.unitSummary)
      ++ (u.ids.flatMap (fun a => pairBytes (s.alarm.get a)) ++ s.unitFlags u) := List.append_assoc ..

theorem length_alarmHead (s : State) : (bFlags [s.alarm.major, s.alarm.minor] ++ allUnits.flatMap s.unitSummary).length = 14 := by
  rw [List.length_append, length_flatMap_of_const (n := 1) fun x => rfl]
  rfl

theorem length_unitFlags (s : State) (u : AlarmUnitId) : (s.unitFlags u).length = 1 := by cases u <;> rfl

theorem length_alarmStatus (s : State) (u : AlarmUnitId) : (s.alarmStatus u).length = 15 + 2 * u.ids.length := by
  have hpairs := length_flatMap_of_const (n := 2) (fun a => rfl : ∀ a, (pairBytes (s.alarm.get a)).length = 2) u.ids
  rw [alarmStatus_eq, List.length_append, length_alarmHead, List.length_append, hpairs, length_unitFlags]
  omega

theorem pairBytes_eq (l : Latch) :
    pairBytes l = [(if l.set then 1 else 0) + (if l.enabled then 2 else 0), BitVec.ofNat 8 l.count] := by
  obtain ⟨set, count, enabled⟩ := l
  cases set <;> cases enabled <;> rfl

theorem lineFlags_bits (a b : Bool) : (BitVec.ofNat 8 ([a, b].foldr (fun b acc => (if b then 1 else 0) + 2 * acc) 0)).getLsbD 0 = a
    ∧ (BitVec.ofNat 8 ([a, b].foldr (fun b acc => (if b then 1 else 0) + 2 * acc) 0)).getLsbD 1 = b := by
  revert a b
  decide

/-- The unit of a byte, the first kind code of it, and its pairs. -/
theorem unitOf_of_range {a : Byte} (h1 : 1 ≤ a.toNat) (h13 : a.toNat ≤ 13) : ∃ u, unitOf a = some u
    ∧ 15 + 2 * u.ids.length = (if a.toNat ≤ 8 then 49 else if a.toNat ≤ 12 then 21 else 29)
    ∧ ∀ d : AlarmId, d.unitCode = a.toNat →
        u.ids[d.kindCode - (if a.toNat ≤ 8 then 1 else if a.toNat ≤ 12 then 18 else 21)]? = some d := by
  unfold unitOf
  by_cases h8 : a.toNat ≤ 8
  · refine ⟨_, dif_pos ⟨h1, h8⟩, by rw [if_pos h8]; rfl, fun d hd => ?_⟩
    rw [if_pos h8]
    match d with
    | .proj p k =>
      have hp : (⟨a.toNat - 1, by omega⟩ : Proj) = p := Fin.ext (by simp only [AlarmId.unitCode, projNo] at hd; simp only; omega)
      rw [hp]
      cases k <;> rfl
    | .isl i k => simp only [AlarmId.unitCode, islNo] at hd; omega
    | .dev k => simp only [AlarmId.unitCode] at hd; omega
  by_cases h12 : a.toNat ≤ 12
  · refine ⟨_, (dif_neg fun h => h8 h.2).trans (dif_pos ⟨by omega, h12⟩), by rw [if_neg h8, if_pos h12]; rfl, fun d hd => ?_⟩
    rw [if_neg h8, if_pos h12]
    match d with
    | .proj p k => simp only [AlarmId.unitCode, projNo] at hd; omega
    | .isl i k =>
      have hi : (⟨a.toNat - 9, by omega⟩ : Isl) = i := Fin.ext (by simp only [AlarmId.unitCode, islNo] at hd; simp only; omega)
      rw [hi]
      cases k <;> rfl
    | .dev k => simp only [AlarmId.unitCode] at hd; omega
  · refine ⟨.device, (dif_neg fun h => h8 h.2).trans ((dif_neg fun h => h12 h.2).trans (if_pos (by omega))),
      by rw [if_neg h8, if_neg h12]; rfl, fun d hd => ?_⟩
    rw [if_neg h8, if_neg h12]
    match d with
    | .proj p k => simp only [AlarmId.unitCode, projNo] at hd; omega
    | .isl i k => simp only [AlarmId.unitCode, islNo] at hd; omega
    | .dev k => cases k <;> rfl

theorem unitOf_eq_none {a : Byte} (h : a.toNat = 0 ∨ 13 < a.toNat) : unitOf a = none := by
  unfold unitOf
  rw [dif_neg (by omega), dif_neg (by omega), if_neg (by omega)]

/-! ### The commands -/

theorem clearFlagOf_of_gt {x : Byte} (h : 1 < x.toNat) : clearFlagOf x = none := by
  obtain ⟨h0, h1⟩ := ne_zero_one_of_gt h
  exact (if_neg h0).trans (if_neg h1)

theorem clearFlagOf_of_le {x : Byte} (h : x.toNat ≤ 1) : clearFlagOf x = some (decide (x = 1)) := by
  rcases byte_le_one h with rfl | rfl <;> rfl

theorem cmdQueryProjector_of_bad {a x : Byte} (h : a.toNat = 0 ∨ 8 < a.toNat ∨ 1 < x.toNat) (s : State) :
    cmdQueryProjector a x s = s.answer .badField := by
  unfold cmdQueryProjector
  by_cases hx : 1 < x.toNat
  · rw [clearFlagOf_of_gt hx]
    cases projOf a <;> rfl
  · rw [projOf_eq_none a (by omega)]

theorem cmdQueryProjector_of_ok (p : Proj) {x : Byte} (hx : x.toNat ≤ 1) (s : State) : cmdQueryProjector (projByte p) x s =
    ⟨if x = 1 then s.updTr p Tracker.clearCounters else s, .accepted, s.projectorStatus p⟩ := by
  unfold cmdQueryProjector
  rw [projOf_projByte, clearFlagOf_of_le hx]
  simp only [decide_eq_true_eq]

theorem cmdQueryIsland_islByte (i : Isl) (s : State) : cmdQueryIsland (islByte i) s = ⟨s, .accepted, s.islandStatus i⟩ := by
  unfold cmdQueryIsland islByte
  rw [islOf_ofNat]

theorem cmdQueryDevice_of_ok {x : Byte} (hx : x.toNat ≤ 1) (s : State) : cmdQueryDevice x s =
    ⟨if x = 1 then s.updLine Line.clearCounters else s, .accepted, s.deviceStatus⟩ := by
  unfold cmdQueryDevice
  rw [clearFlagOf_of_le hx]
  simp only [decide_eq_true_eq]

theorem cmdQueryDevice_of_bad {x : Byte} (hx : 1 < x.toNat) (s : State) : cmdQueryDevice x s = s.answer .badField := by
  unfold cmdQueryDevice
  rw [clearFlagOf_of_gt hx]

theorem cmdQueryChanges_eq (s : State) : cmdQueryChanges s =
    ⟨s, .accepted, bytesOf 2 s.eng.horizon ++ allRec.flatMap fun r => (s.eng.records[r]).elim [0] recordBytes⟩ := by
  unfold cmdQueryChanges
  rw [bytesOf_two]
  congr 3
  funext r
  cases s.eng.records[r] with
  | none => rfl
  | some rec => exact (recordBytes_eq rec).symm

theorem length_changes (s : State) : (bytesOf 2 s.eng.horizon ++ allRec.flatMap fun r => (s.eng.records[r]).elim [0] recordBytes).length
    = 2 + (allRec.map fun r => if (s.eng.records[r]).isSome then 44 else 1).sum := by
  rw [List.length_append, List.length_flatMap, bytesOf_two, length_b2]
  congr 3
  funext r
  cases s.eng.records[r] with
  | none => rfl
  | some rec => exact length_recordBytes rec

theorem cmdPoll_nil {s : State} (h : s.line.queue = []) : cmdPoll s = s.answer .accepted := by
  unfold cmdPoll
  rw [h]

theorem cmdPoll_cons {s : State} {x : Notice} {xs : List Notice} (h : s.line.queue = x :: xs) :
    cmdPoll s = ⟨s.updLine (fun l => { l with queue := xs }), .accepted, x.bytes⟩ := by
  unfold cmdPoll
  rw [h]

end Sys2Proof.Machine

section
open Sys2Proof Sys2Proof.Machine Sys2Proof.Claims

/-- Settles O51: each query's checks, and the parts of its reply by the lengths of what stands before them. -/
theorem queryAndPollRows : Obligations.QueryAndPollRows := by
  intro s m hears
  obtain ⟨r, h⟩ := heard hears
  obtain ⟨r', hframe⟩ := message_individual_asFound s m hears.1 (hears.2 rfl)
  generalize s.arrive m = u at h hframe
  intro u' slice
  refine ⟨fun a x hbad => ?_, fun p x hx hhist => ?_, fun a ha => ?_, fun i => ?_, fun x hx => ?_, fun x hx => ?_, ?_, fun a ha => ?_,
    fun a h1 h13 => ?_, fun hq => ?_, fun x xs hq => ?_⟩
  · exact h.unchanged (cmd := cmdQueryProjector a x) rfl (cmdQueryProjector_of_bad hbad _) rfl
  · intro t
    refine ⟨(u.asFound r).projectorStatus p, ?_, length_projectorStatus hhist, channelStatus_head _ p, ?_, ?_, ?_, ?_⟩
    · refine h.changed (cmd := cmdQueryProjector (projByte p) x) (row := .queryProjector m (projByte p) x)
        (v := if x = 1 then u.updTr p Tracker.clearCounters else u) (st := .accepted) rfl
        ((cmdQueryProjector_of_ok p hx _).trans ?_) ?_ ?_ rfl
      all_goals split_ifs <;> rfl
    · rw [bytesOf_three]
      exact (projectorStatus_slice hhist 0 3).trans (trackerStatus_frame _ p)
    · exact (projectorStatus_slice hhist 7 2).trans (trackerStatus_phase _ p)
    · simp only [bytesOf_two]
      exact (projectorStatus_slice hhist 24 8).trans (trackerStatus_counters _ p)
    · simp only [bytesOf_two]
      exact (projectorStatus_slice hhist 44 4).trans (cueStatus_counts _ p)
  · refine h.unchanged (cmd := cmdQueryIsland a) (st := .badField) (body := []) rfl ?_ rfl
    unfold cmdQueryIsland
    rw [islOf_eq_none a ha]
    rfl
  · exact ⟨_, h.unchanged (cmd := cmdQueryIsland (islByte i)) rfl (cmdQueryIsland_islByte i _) rfl, length_islandStatus _ i,
      (islandBytes_eq (u.asFound r) i).symm⟩
  · exact h.unchanged (cmd := cmdQueryDevice x) rfl (cmdQueryDevice_of_bad hx _) rfl
  · have hrow : exec (.queryDevice m x) s = _ := hframe 0x62 (cmdQueryDevice x)
    rw [cmdQueryDevice_of_ok hx] at hrow
    refine ⟨(u.asFound r').deviceStatus, _, hrow, ?_, fun h0 => ?_, fun h1 => ?_, ?_, ?_, ?_⟩
    · rw [deviceStatus_eq, List.length_append, length_takeStatus]
      rfl
    · subst h0
      rfl
    · subst h1
      rfl
    · rw [bytesOf_four]
      rfl
    · simp only [bytesOf_two]
      rfl
    · rw [bytesOf_two]
      rfl
  · exact ⟨_, h.unchanged (cmd := cmdQueryChanges) rfl (cmdQueryChanges_eq _) rfl, length_changes u, rfl⟩
  · refine h.unchanged (cmd := cmdQueryAlarms a) (st := .badField) (body := []) rfl ?_ rfl
    unfold cmdQueryAlarms
    rw [unitOf_eq_none ha]
    rfl
  · obtain ⟨unit, hunit, hlen, hids⟩ := unitOf_of_range h1 h13
    have hcmd : cmdQueryAlarms a (u.asFound r) = ⟨u.asFound r, .accepted, (u.asFound r).alarmStatus unit⟩ := by
      unfold cmdQueryAlarms
      rw [hunit]
    refine ⟨_, h.unchanged (cmd := cmdQueryAlarms a) rfl hcmd rfl, ?_, fun y hy => ?_, fun d hd => ?_⟩
    · rw [length_alarmStatus, hlen]
    · obtain rfl : BitVec.ofNat 8 _ = y := Option.some.inj hy
      exact lineFlags_bits u.alarm.major u.alarm.minor
    · intro k
      rw [alarmStatus_eq]
      refine (slice_behind (length_alarmHead _) (2 * k) 2).trans ((slice_pairs (fun _ => rfl) (hids d hd) _).trans (pairBytes_eq _))
  · exact h.unchanged (cmd := cmdPoll) rfl (cmdPoll_nil hq) rfl
  · refine ⟨x.bytes, ?_, fun id field frame hx => ?_, fun y hx => ?_, fun y hx => ?_, fun y hx => ?_⟩
    · exact h.left (cmd := cmdPoll) (w := (u.asFound r).updLine fun l => { l with queue := xs }) rfl (cmdPoll_cons hq) rfl rfl rfl
    all_goals subst hx
    · cases frame with
      | none => exact alarmBytes_eq id field none
      | some f => exact alarmBytes_eq id field (some f)
    · exact ⟨length_cueBytes y, (cueNoticeBytes_eq y).symm⟩
    · exact ⟨length_changeBytes y, (changeNoticeBytes_eq y).symm⟩
    · rw [bytesOf_three, bytesOf_four]
      rfl

end
end

section
/-! A shutter edge: the perforation check (R48 to R50), its class in LOCKED (R56 to R59) and its measurement in SEARCH (R51, R53). -/

namespace Sys2Proof.Machine
open Sys2Proof.Claims

/-! ### What an event finds when no step of the boundary waits -/

theorem arrive_due {s : State} (h : s.due = []) (m : Moment) : (s.arrive m).due = [] := by
  have hpass (t : Nat) : (s.passTo t).due = [] := by
    unfold State.passTo
    split
    · exact settle_due s
    · exact h
  refine List.eq_nil_iff_forall_not_mem.2 fun d hd => ?_
  unfold State.arrive State.arriveAt at hd
  have hmem : d ∈ ((s.passTo (s.now + m.elapsed)).readPins m.pins).due := (takeFound_moved _).due d hd
  rw [readPins_eq] at hmem
  have hnone : d ∈ (s.passTo (s.now + m.elapsed)).due := hmem
  rw [hpass] at hnone
  exact absurd hnone List.not_mem_nil

theorem exec_shutterEdge {s : State} (h : s.resetHeld = false) (hd : s.due = []) (m : Moment) (p : Proj) :
    exec (.shutterEdge m p) s = .next ((s.arrive m).edge p) := by
  show s.event (fun s => ((s.arrive m).takeDues (trackerSteps p)).edge p) = _
  rw [event_of_running s _ h, takeDues_of_no_due _ _ (arrive_due hd m)]

/-! ### Notices and latches -/

/-- What passing events changes, as the statements write it. -/
theorem Notified.asWritten {s t : State} (h : Notified s t) : t = { s with alarm := t.alarm, line := t.line } := by
  conv_lhs => rw [h.eq]
  congr 1
  exact (congrArg State.line h.eq).symm

theorem passIf_of_false {c : Bool} (hc : c = false) (s : State) (a : AlarmId) : s.passIf c a = s := by
  rw [hc]
  rfl

theorem passIf_latches {c : Bool} (hc : c = true) (s : State) (a : AlarmId) : Latched (s.passIf c a) a := by
  rw [hc]
  exact pass_latches s a

/-! ### The perforation check (R48 to R50) -/

/-- The check touches the phase and the counts of an edge alone. -/
theorem checkedEdge_eq (g : Nat) (t : Tracker) : checkedEdge g t = { t with
    phase := (checkedEdge g t).phase, interval := (checkedEdge g t).interval, empty := (checkedEdge g t).empty,
    perfDefects := (checkedEdge g t).perfDefects } := by
  unfold checkedEdge
  split
  · rfl
  · simp only
    split <;> rfl

theorem checkedEdge_perfDefects {g : Nat} {t : Tracker} (h : ¬(t.interval = none ∨ t.interval = some g)) :
    (checkedEdge g t).perfDefects = min 65535 (t.perfDefects + 1) := by
  unfold checkedEdge
  cases hi : t.interval with
  | none => exact absurd (.inl hi) h
  | some k =>
    have hk : k ≠ g := fun hk => h (.inr (hk ▸ hi))
    simp only [if_neg hk]

theorem checkedEdge_empty {g : Nat} {t : Tracker} (hi : t.interval = some 0) (he : t.empty = 2) : (checkedEdge g t).empty = 3 := by
  unfold checkedEdge
  simp only [hi, he, if_true]
  split <;> rfl

/-- An empty interval fails with either gauge (R49). -/
theorem not_passes_of_empty {g : Gauge} {t : Tracker} (hi : t.interval = some 0) :
    ¬(t.interval = none ∨ t.interval = some g.perfs) := by
  rw [hi]
  cases g <;> decide

/-- The tracker after the check, its event not passed yet. -/
def State.checked (s : State) (p : Proj) : State :=
  { s with tr := s.tr.set p (checkedEdge s.ch[p].config.gauge.perfs s.tr[p]) }

theorem checked_tr (s : State) (p : Proj) : (s.checked p).tr[p] = checkedEdge s.ch[p].config.gauge.perfs s.tr[p] :=
  getElem_set_same _ _ _

/-- Whether an edge passes PERF_DEFECT: its interval fails, outside the quiet window (R49, R61). -/
def defects (g : Nat) (t : Tracker) : Bool :=
  !decide (t.interval = none ∨ t.interval = some g) && !inQuiet t.quiet t.frame

theorem defects_of_quiet {g : Nat} {t : Tracker} (h : inQuiet t.quiet t.frame = true) : defects g t = false := by
  unfold defects
  rw [h]
  exact Bool.and_false _

theorem defects_of_passes {g : Nat} {t : Tracker} (h : t.interval = none ∨ t.interval = some g) : defects g t = false := by
  unfold defects
  rw [decide_eq_true h]
  rfl

theorem defects_of_fails {g : Nat} {t : Tracker} (h : ¬(t.interval = none ∨ t.interval = some g)) (hq : inQuiet t.quiet t.frame = false) :
    defects g t = true := by
  unfold defects
  rw [decide_eq_false h, hq]
  rfl

theorem checkPerfs_eq (s : State) (p : Proj) : s.checkPerfs p =
    (s.checked p).passIf (defects s.ch[p].config.gauge.perfs s.tr[p]) (.proj p .perfDefect) := by
  unfold State.checkPerfs State.checked State.perfs defects checkedEdge
  generalize s.ch[p].config.gauge.perfs = g
  cases hi : s.tr[p].interval with
  | none => rfl
  | some n =>
    by_cases hn : n = g
    · subst hn
      simp only [if_true, or_true, decide_true, Bool.not_true, Bool.false_and, passIf_false]
      rfl
    · simp only [reduceCtorEq, Option.some.injEq, hn, or_false, decide_false, Bool.not_false, Bool.true_and]
      unfold State.passUnlessQuiet State.updTr
      simp only [Vector.set_set, getElem_set_same]
      rfl

theorem checkPerfs_notified (s : State) (p : Proj) : Notified (s.checked p) (s.checkPerfs p) := by
  rw [checkPerfs_eq]
  exact passIf_notified _ _ _

theorem checkPerfs_tr (s : State) (p : Proj) : (s.checkPerfs p).tr = s.tr.set p (checkedEdge s.ch[p].config.gauge.perfs s.tr[p]) :=
  (checkPerfs_notified s p).tr

/-! ### A loss of lock, whole (R27, R59) -/

theorem loseLock_frame (s : State) (p : Proj) :
    let v := s.loseLock p
    v.tr = s.tr.set p (lostLock s.tr[p]) ∧ v.det = s.det ∧ v.cues = s.cues ∧ v.tb = s.tb ∧ v.route = s.route
      ∧ (∀ a, Latched s a → Latched v a)
      ∧ (s.ch[p].state ≠ .run → v.ch = s.ch ∧ v.eng = s.eng ∧ v.take = s.take ∧ v.isl = s.isl)
      ∧ (s.ch[p].state = .run →
          v.ch = s.ch.set p { s.ch[p] with
            state := .runup, douseHeld := true, runup := some ⟨s.tb.field, 0, s.ch[p].config.runupLimit⟩, lampFails := 0,
            record := s.ch[p].record.map (fun x => { x with fromReady := false }) }
          ∧ Latched v (.proj p .lockLost)) := by
  intro v
  by_cases hrun : s.ch[p].state = .run
  · obtain ⟨hon, hlatched⟩ := loseLock_of_run s p hrun
    exact ⟨hon.tr, hon.det, hon.cues, hon.tb, hon.route, hon.latched, fun h => absurd hrun h, fun _ => ⟨hon.ch, hlatched⟩⟩
  · have hv : v = s.updTr p Tracker.toSearch := loseLock_of_not_run s p hrun
    rw [hv]
    exact ⟨rfl, rfl, rfl, rfl, rfl, fun _ h => h, fun _ => ⟨rfl, rfl, rfl, rfl⟩, fun h => absurd h hrun⟩

/-! ### The class of an edge (R56, R57) -/

theorem fieldDiff_eq_zero {a b : Field} : fieldDiff a b = 0 ↔ a = b := by
  unfold fieldDiff
  rw [show (0 : Int) = (0 : BitVec 32).toInt from rfl, BitVec.toInt_inj]
  bv_omega

theorem fieldDiff_eq_neg_one {a b : Field} : fieldDiff a b = -1 ↔ a = b - 1 := by
  unfold fieldDiff
  rw [show (-1 : Int) = (-1 : BitVec 32).toInt from rfl, BitVec.toInt_inj]
  bv_omega

theorem fieldDiff_eq_one {a b : Field} : fieldDiff a b = 1 ↔ a = b + 1 := by
  unfold fieldDiff
  rw [show (1 : Int) = (1 : BitVec 32).toInt from rfl, BitVec.toInt_inj]
  bv_omega

section
variable {t : Tracker} {due b : Field} {e : Int}

theorem classify_inWindow (hw : t.slipWait = none) (hb : b = due) (he : |e| ≤ t.w) : t.classify due b e = .inWindow := by
  simp [Tracker.classify, hw, fieldDiff_eq_zero.2 hb, he]

theorem classify_outWindow (hw : t.slipWait = none) (hb : b = due) (he : (t.w : Int) < |e|) : t.classify due b e = .outWindow := by
  simp [Tracker.classify, hw, fieldDiff_eq_zero.2 hb, not_le.2 he]

theorem classify_slip (hw : t.slipWait = none) (hb : b = due - 1 ∨ b = due + 1) : t.classify due b e = .slip := by
  have h1 : fieldDiff b due = -1 ∨ fieldDiff b due = 1 := hb.imp fieldDiff_eq_neg_one.2 fieldDiff_eq_one.2
  have h0 : fieldDiff b due ≠ 0 := by omega
  simp [Tracker.classify, hw, h0, h1]

theorem classify_furtherOff (h : t.slipWait.isSome ∨ (b ≠ due ∧ b ≠ due - 1 ∧ b ≠ due + 1)) : t.classify due b e = .furtherOff := by
  unfold Tracker.classify
  by_cases hw : t.slipWait.isSome = true
  · exact if_pos hw
  · obtain ⟨h0, hm, h1⟩ := h.resolve_left hw
    simp only [if_neg hw]
    rw [if_neg (mt fieldDiff_eq_zero.1 h0), if_neg (not_or.2 ⟨mt fieldDiff_eq_neg_one.1 hm, mt fieldDiff_eq_one.1 h1⟩)]

end

/-! ### An edge in LOCKED (R56 to R59) -/

section
variable {s : State} {p : Proj} {a : Nat} {q : Pos} {due : Field}

theorem lockedEdge_inWindow (hpos : s.tr[p].pos = some q) (hdue : s.tr[p].edgeDue = some due)
    (hc : s.tr[p].classify due (nearestBoundary s.tb.field a) (phaseError a) = .inWindow) : s.lockedEdge p a =
      s.updTr p (fun t => { t with out := 0, edgeDue := some (due + BitVec.ofNat 32 (q.owed s.tb.field due).2.len) }) := by
  unfold State.lockedEdge
  simp only [hpos, hdue, State.field, hc]

/-- The tracker after an edge outside the window (R56). -/
def Tracker.outEdge (t : Tracker) (due : Field) (c : Step) : Tracker :=
  { t with out := min 7 (t.out + 1), edgeDue := some (due + BitVec.ofNat 32 c.len) }

theorem lockedEdge_outWindow (hpos : s.tr[p].pos = some q) (hdue : s.tr[p].edgeDue = some due)
    (hc : s.tr[p].classify due (nearestBoundary s.tb.field a) (phaseError a) = .outWindow) : s.lockedEdge p a =
      if s.tr[p].m ≤ s.tr[p].out + 1 then (s.updTr p fun t => t.outEdge due (q.owed s.tb.field due).2).loseLock p
      else s.updTr p fun t => t.outEdge due (q.owed s.tb.field due).2 := by
  unfold State.lockedEdge
  simp only [hpos, hdue, State.field, hc]
  rfl

/-- The tracker after a slip with its nearest boundary and the item of the correction that waits (R57). -/
def Tracker.slipEdge (t : Tracker) (n b : Field) (g : Int × Step) (e : Int) : Tracker :=
  { t with
    out := min 7 (t.out + 1)
    slips := min 65535 (t.slips + 1)
    edgeDue := some (b + BitVec.ofNat 32 g.2.len)
    slipWait := some ⟨n + 1, g.1, if e < 0 then 0 else 1, g.2⟩ }

/-- A slip that leaves the tracker `y`, with its event passed, before the test of the out counter. -/
def State.slipped (s : State) (p : Proj) (y : Tracker) : State := (s.updTr p fun _ => y).passUnlessQuiet p .slip

theorem slipped_eq (s : State) (p : Proj) (y : Tracker) :
    s.slipped p y = (s.updTr p fun _ => y).passIf (!inQuiet y.quiet y.frame) (.proj p .slip) := by
  have hset : (s.updTr p fun _ => y).tr[p] = y := getElem_set_same _ _ _
  unfold State.slipped State.passUnlessQuiet
  rw [hset]

theorem slipped_notified (s : State) (p : Proj) (y : Tracker) : Notified (s.updTr p fun _ => y) (s.slipped p y) :=
  passUnlessQuiet_notified _ _ _

theorem lockedEdge_slip (hpos : s.tr[p].pos = some q) (hdue : s.tr[p].edgeDue = some due) {y : Tracker}
    (hc : s.tr[p].classify due (nearestBoundary s.tb.field a) (phaseError a) = .slip)
    (hy : s.tr[p].slipEdge s.tb.field (nearestBoundary s.tb.field a) (q.owed s.tb.field due) (phaseError a) = y) : s.lockedEdge p a =
      if s.tr[p].m ≤ s.tr[p].out + 1 then (s.slipped p y).loseLock p else s.slipped p y := by
  subst hy
  unfold State.lockedEdge
  simp only [hpos, hdue, State.field, hc]
  rfl

theorem lockedEdge_furtherOff (hpos : s.tr[p].pos = some q) (hdue : s.tr[p].edgeDue = some due)
    (hc : s.tr[p].classify due (nearestBoundary s.tb.field a) (phaseError a) = .furtherOff) : s.lockedEdge p a = s.loseLock p := by
  unfold State.lockedEdge
  simp only [hpos, hdue, State.field, hc]

end

/-- What an edge that loses lock leaves, before the loss: the tracker, which the loss makes one of two (R56, R57, R59). -/
theorem lockedEdge_loses {s : State} {p : Proj} {a : Nat} {q : Pos} {due : Field} (hpos : s.tr[p].pos = some q)
    (hdue : s.tr[p].edgeDue = some due) {b : Field} (hb : nearestBoundary s.tb.field a = b) {e : Int} (he : phaseError a = e)
    (hloses : s.tr[p].slipWait.isSome ∨ (b ≠ due ∧ b ≠ due - 1 ∧ b ≠ due + 1)
      ∨ (b = due ∧ s.tr[p].w < |e| ∧ s.tr[p].m ≤ s.tr[p].out + 1) ∨ ((b = due - 1 ∨ b = due + 1) ∧ s.tr[p].m ≤ s.tr[p].out + 1)) :
    ∃ (y : Tracker) (x : State), s.lockedEdge p a = x.loseLock p ∧ Notified (s.updTr p fun _ => y) x
      ∧ (s.tr[p].slipWait.isSome ∨ (b ≠ due ∧ b ≠ due - 1 ∧ b ≠ due + 1) → lostLock y = lostLock s.tr[p])
      ∧ (s.tr[p].slipWait = none → b = due ∨ b = due - 1 ∨ b = due + 1 → lostLock y = lostLock { s.tr[p] with
          slips := if b = due - 1 ∨ b = due + 1 then min 65535 (s.tr[p].slips + 1) else s.tr[p].slips }) := by
  subst hb he
  by_cases hfar : s.tr[p].slipWait.isSome ∨ (nearestBoundary s.tb.field a ≠ due ∧ nearestBoundary s.tb.field a ≠ due - 1
      ∧ nearestBoundary s.tb.field a ≠ due + 1)
  · refine ⟨s.tr[p], s, lockedEdge_furtherOff hpos hdue (classify_furtherOff hfar), ?_, fun _ => rfl, fun hw hnear => ?_⟩
    · have hself : (s.updTr p fun _ => s.tr[p]) = s := by rw [State.updTr, set_getElem_self]
      rw [hself]
      exact Notified.refl s
    · rcases hfar with hfar | ⟨h0, hm, h1⟩
      · rw [hw] at hfar
        exact absurd hfar (by decide)
      · rcases hnear with h | h | h
        · exact absurd h h0
        · exact absurd h hm
        · exact absurd h h1
  · have hwait : s.tr[p].slipWait = none := by
      have := (not_or.1 hfar).1
      simpa using this
    by_cases hslip : nearestBoundary s.tb.field a = due - 1 ∨ nearestBoundary s.tb.field a = due + 1
    · have hm : s.tr[p].m ≤ s.tr[p].out + 1 := by
        rcases hloses with h | h | ⟨h, -⟩ | ⟨-, hm⟩
        · exact absurd (.inl h) hfar
        · exact absurd (.inr h) hfar
        · rw [h] at hslip
          rcases hslip with h | h <;> bv_omega
        · exact hm
      refine ⟨_, _, (lockedEdge_slip hpos hdue (classify_slip hwait hslip) rfl).trans (if_pos hm), slipped_notified s p _,
        fun h => absurd h hfar, fun _ _ => ?_⟩
      rw [if_pos hslip]
      rfl
    · have hb : nearestBoundary s.tb.field a = due := by
        by_contra hne
        exact hfar (.inr ⟨hne, fun h => hslip (.inl h), fun h => hslip (.inr h)⟩)
      obtain ⟨he, hm⟩ : (s.tr[p].w : Int) < |phaseError a| ∧ s.tr[p].m ≤ s.tr[p].out + 1 := by
        rcases hloses with h | h | ⟨-, h⟩ | ⟨h, -⟩
        · exact absurd (.inl h) hfar
        · exact absurd (.inr h) hfar
        · exact h
        · exact absurd h hslip
      refine ⟨_, _, (lockedEdge_outWindow hpos hdue (classify_outWindow hwait hb he)).trans (if_pos hm), Notified.refl _,
        fun h => absurd h hfar, fun _ _ => ?_⟩
      rw [if_neg hslip]
      rfl

/-! ### A shutter edge with the motor on (R48, R50) -/

theorem checkedEdge_motor (g : Nat) (t : Tracker) : (checkedEdge g t).motor = t.motor := by rw [checkedEdge_eq]
theorem checkedEdge_lock (g : Nat) (t : Tracker) : (checkedEdge g t).lock = t.lock := by rw [checkedEdge_eq]

/-- An edge of a LOCKED tracker that is no film break. -/
theorem edge_locked {s : State} {p : Proj} (hm : s.tr[p].motor = true) (hl : s.tr[p].lock = .locked)
    (hno : ¬((checkedEdge s.ch[p].config.gauge.perfs s.tr[p]).empty = 3 ∧ s.ch[p].running = true)) :
    s.edge p = (s.checkPerfs p).lockedEdge p s.edgeOffset := by
  have htr : (s.checkPerfs p).tr[p] = checkedEdge s.ch[p].config.gauge.perfs s.tr[p] := by
    rw [checkPerfs_tr]
    exact getElem_set_same _ _ _
  have hch : (s.checkPerfs p).ch = s.ch := (checkPerfs_notified s p).ch
  have hbreak : ((s.checkPerfs p).tr[p].motor && (s.checkPerfs p).tr[p].empty = 3 && (s.checkPerfs p).ch[p].running) = false := by
    rw [htr, hch, checkedEdge_motor, hm, Bool.true_and, Bool.and_eq_false_iff, decide_eq_false_iff_not, ← Bool.not_eq_true]
    exact not_and_or.1 hno
  have hlock : (s.checkPerfs p).tr[p].lock = .locked := by rw [htr, checkedEdge_lock, hl]
  unfold State.edge
  simp only [hm, hl, Bool.not_true, Bool.false_eq_true, if_false, reduceCtorEq, decide_false, Bool.false_and, passIf_false, hbreak]
  rw [hlock]

/-- An edge that breaks the film (R50). -/
theorem edge_break {s : State} {p : Proj} (hm : s.tr[p].motor = true) (hl : s.tr[p].lock = .locked)
    (hempty : (checkedEdge s.ch[p].config.gauge.perfs s.tr[p]).empty = 3) (hrun : s.ch[p].running = true) :
    s.edge p = (s.checkPerfs p).enterFault p [.filmBreak] := by
  have htr : (s.checkPerfs p).tr[p] = checkedEdge s.ch[p].config.gauge.perfs s.tr[p] := by
    rw [checkPerfs_tr]
    exact getElem_set_same _ _ _
  have hch : (s.checkPerfs p).ch = s.ch := (checkPerfs_notified s p).ch
  have hbreak : ((s.checkPerfs p).tr[p].motor && (s.checkPerfs p).tr[p].empty = 3 && (s.checkPerfs p).ch[p].running) = true := by
    rw [htr, hch, checkedEdge_motor, hm, hempty, hrun]
    rfl
  have hlock : ((s.checkPerfs p).enterFault p [.filmBreak]).tr[p].lock = .unlocked := by
    rw [(enterFault_frame (s.checkPerfs p) p .filmBreak []).2.1]
    exact (congrArg Tracker.lock (getElem_set_same _ _ _)).trans rfl
  unfold State.edge
  simp only [hm, hl, Bool.not_true, Bool.false_eq_true, if_false, reduceCtorEq, decide_false, Bool.false_and, passIf_false, hbreak,
    if_true]
  rw [hlock]

theorem checkPerfs_of_passes {s : State} {p : Proj} (h : defects s.ch[p].config.gauge.perfs s.tr[p] = false) :
    s.checkPerfs p = s.checked p := (checkPerfs_eq s p).trans (passIf_of_false h _ _)

theorem checkPerfs_latches {s : State} {p : Proj} (h : defects s.ch[p].config.gauge.perfs s.tr[p] = true) :
    Latched (s.checkPerfs p) (.proj p .perfDefect) := by
  rw [checkPerfs_eq]
  exact passIf_latches h _ _

/-- A change of the tracker behind the check and events, as the statements write it. -/
theorem checked_updTr {s w : State} {p : Proj} (h : Notified (s.checked p) w) (f : Tracker → Tracker) : w.updTr p f =
    { s with
      alarm := w.alarm, line := w.line
      tr := s.tr.set p (f (checkedEdge s.ch[p].config.gauge.perfs s.tr[p])) } := by
  have heq := h.asWritten
  have hset : w.tr.set p (f w.tr[p]) = s.tr.set p (f (checkedEdge s.ch[p].config.gauge.perfs s.tr[p])) := by
    rw [h.tr, checked_tr]
    exact Vector.set_set ..
  unfold State.updTr
  rw [hset]
  rw [heq]
  rfl

theorem checkPerfs_updTr (s : State) (p : Proj) (f : Tracker → Tracker) : (s.checkPerfs p).updTr p f =
    { s with
      alarm := (s.checkPerfs p).alarm, line := (s.checkPerfs p).line
      tr := s.tr.set p (f (checkedEdge s.ch[p].config.gauge.perfs s.tr[p])) } := checked_updTr (checkPerfs_notified s p) f

/-- What a loss of lock leaves at an edge whose tracker `y` is to be lost (R27, R59). -/
theorem lostEdge_frame {u x : State} {p : Proj} {y : Tracker} (hx : Notified ((u.checkPerfs p).updTr p fun _ => y) x) :
    let v := x.loseLock p
    v.tr = u.tr.set p (lostLock y) ∧ v.det = u.det ∧ v.cues = u.cues ∧ v.tb = u.tb ∧ v.route = u.route
      ∧ (∀ a, Latched (u.checkPerfs p) a → Latched v a)
      ∧ (u.ch[p].state ≠ .run → v.ch = u.ch ∧ v.eng = u.eng ∧ v.take = u.take ∧ v.isl = u.isl)
      ∧ (u.ch[p].state = .run →
          v.ch = u.ch.set p { u.ch[p] with
            state := .runup, douseHeld := true, runup := some ⟨u.tb.field, 0, u.ch[p].config.runupLimit⟩, lampFails := 0,
            record := u.ch[p].record.map (fun x => { x with fromReady := false }) }
          ∧ Latched v (.proj p .lockLost)) := by
  intro v
  obtain ⟨htr, hdet, hcues, htb, hroute, hlatched, hrest, hrun⟩ := loseLock_frame x p
  have hlat (a : AlarmId) (ha : Latched (u.checkPerfs p) a) : Latched v a := hlatched a (hx.latched a ha)
  rw [checkPerfs_updTr] at hx
  rw [hx.tr, getElem_set_same, Vector.set_set] at htr
  rw [hx.ch, hx.eng, hx.take, hx.isl] at hrest
  rw [hx.ch, hx.tb] at hrun
  exact ⟨htr, hdet.trans hx.det, hcues.trans hx.cues, htb.trans hx.tb, hroute.trans hx.route, hlat, hrest, hrun⟩

/-- What an entry to FAULT keeps latched (R31). -/
theorem enterFault_keeps_latched (s : State) (p : Proj) (f : ChanFault) (fs : List ChanFault) {a : AlarmId} (h : Latched s a) :
    Latched (s.enterFault p (f :: fs)) a := (beforeFault_handedOn s p (f :: fs)).latched a h

end Sys2Proof.Machine

section
open Sys2Proof Sys2Proof.Machine Sys2Proof.Claims

/-- Settles O14: the check of the perforations, then the class of the edge by its nearest boundary. -/
theorem lockedEdgeIsClassed : Obligations.LockedEdgeIsClassed := by
  intro s m p hreset hdue
  have hexec := exec_shutterEdge hreset hdue m p
  generalize s.arrive m = u at hexec
  intro u' t a e b gauge checked passes runs q due hmotor hlock hpos hedge g slips out slipped lost lostFar loses loss
  have hmoves : runs ↔ u.ch[p].running = true := (running_iff _).symm
  have hquiet (hq : inQuiet t.quiet t.frame = true) : defects gauge t = false := defects_of_quiet hq
  have hpass (hp : passes) : defects gauge t = false := defects_of_passes hp
  have hfail (hp : ¬passes) (hq : inQuiet t.quiet t.frame = false) : defects gauge t = true := defects_of_fails hp hq
  have hclass (hno : checked.empty < 3 ∨ ¬runs) : exec (.shutterEdge m p) s = .next ((u.checkPerfs p).lockedEdge p a) := by
    rw [hexec, edge_locked hmotor hlock fun h => hno.elim (fun h' => absurd h.1 (Nat.ne_of_lt h')) fun h' => h' (hmoves.2 h.2)]
    rfl
  have htr : (u.checkPerfs p).tr[p] = checked := by
    rw [checkPerfs_tr]
    exact getElem_set_same _ _ _
  have htb : (u.checkPerfs p).tb = u.tb := (checkPerfs_notified u p).tb
  have hsame : checked = { t with
      phase := checked.phase, interval := checked.interval, empty := checked.empty, perfDefects := checked.perfDefects } :=
    checkedEdge_eq gauge t
  have hw : checked.slipWait = t.slipWait := by rw [hsame]
  have hcpos : (u.checkPerfs p).tr[p].pos = some q := by rw [htr, hsame]; exact hpos
  have hcdue : (u.checkPerfs p).tr[p].edgeDue = some due := by rw [htr, hsame]; exact hedge
  have hnear : nearestBoundary (u.checkPerfs p).tb.field a = b := by rw [htb]; rfl
  have herr : phaseError a = e := rfl
  have hwin (hno : checked.empty < 3 ∨ ¬runs) (hwait : t.slipWait = none) (hb : b = due) (he : |e| ≤ t.w) :
      exec (.shutterEdge m p) s = .next
        { u with
          alarm := (u.checkPerfs p).alarm, line := (u.checkPerfs p).line
          tr := u.tr.set p { checked with out := 0, edgeDue := some (due + BitVec.ofNat 32 g.2.len) } } := by
    rw [hclass hno, lockedEdge_inWindow hcpos hcdue (classify_inWindow (by rw [htr, hw]; exact hwait) (hnear.trans hb)
      (by rw [htr, hsame]; exact he)), checkPerfs_updTr, htb]
    rfl
  have hout (hno : checked.empty < 3 ∨ ¬runs) (hwait : t.slipWait = none) (hb : b = due) (he : t.w < |e|) (hm : t.out + 1 < t.m)
      (hm7 : t.m ≤ 7) : exec (.shutterEdge m p) s = .next
        { u with alarm := (u.checkPerfs p).alarm, line := (u.checkPerfs p).line, tr := u.tr.set p out } := by
    have hsat : checked.outEdge due g.2 = out := by
      unfold Tracker.outEdge
      rw [show checked.out = t.out by rw [hsame], Nat.min_eq_right (by omega)]
    rw [hclass hno, lockedEdge_outWindow hcpos hcdue (classify_outWindow (by rw [htr, hw]; exact hwait) (hnear.trans hb)
      (by rw [htr, hsame]; exact he)), if_neg (by rw [htr, hsame]; exact not_le.2 hm), checkPerfs_updTr, htb, ← hsat]
    rfl
  have hslip (hno : checked.empty < 3 ∨ ¬runs) (hs : slips) (hm : t.out + 1 < t.m) (hm7 : t.m ≤ 7) :
      ∃ alarm line, exec (.shutterEdge m p) s = .next { u with alarm := alarm, line := line, tr := u.tr.set p slipped }
        ∧ (inQuiet t.quiet t.frame = true → alarm = u.alarm ∧ line = u.line)
        ∧ (inQuiet t.quiet t.frame = false →
            (defects gauge t = true → (alarm.get (.proj p .perfDefect)).set = true) ∧ (alarm.get (.proj p .slip)).set = true) := by
    obtain ⟨hwait, hb⟩ := hs
    have hsat : checked.slipEdge u.tb.field b g e = slipped := by
      unfold Tracker.slipEdge
      rw [show checked.out = t.out by rw [hsame], show checked.slips = t.slips by rw [hsame], Nat.min_eq_right (by omega)]
    have hrow := hclass hno
    rw [lockedEdge_slip (y := slipped) hcpos hcdue (classify_slip (by rw [htr, hw]; exact hwait) (hb.imp hnear.trans hnear.trans))
      (by rw [htr, htb, ← hsat]; rfl), if_neg (by rw [htr, hsame]; exact not_le.2 hm)] at hrow
    have hnote := slipped_notified (u.checkPerfs p) p slipped
    have hheld : inQuiet slipped.quiet slipped.frame = inQuiet t.quiet t.frame := by
      show inQuiet checked.quiet checked.frame = _
      rw [hsame]
    rw [slipped_eq, hheld] at hrow hnote
    generalize hz : ((u.checkPerfs p).updTr p fun _ => slipped).passIf (!inQuiet t.quiet t.frame) (.proj p .slip) = z at hrow hnote
    refine ⟨z.alarm, z.line, hrow.trans (congrArg Host.Outcome.next (hnote.asWritten.trans ?_)), fun hq => ?_,
      fun hq => ⟨fun hd => ?_, ?_⟩⟩
    · rw [checkPerfs_updTr]
    · rw [← hz, hq, passIf_of_false (c := !true) rfl, checkPerfs_of_passes (hquiet hq)]
      exact ⟨rfl, rfl⟩
    · exact hnote.latched _ (checkPerfs_latches hd)
    · rw [← hz]
      exact passIf_latches (by rw [hq]; rfl) _ _
  have hlose (hno : checked.empty < 3 ∨ ¬runs) (hl : loses) : ∃ v, exec (.shutterEdge m p) s = .next v ∧ loss v
      ∧ (defects gauge t = true → Latched v (.proj p .perfDefect)) := by
    obtain ⟨y, x, hx, hnote, hfar, hnear'⟩ := lockedEdge_loses hcpos hcdue hnear herr (by rw [htr, hsame]; exact hl)
    rw [htr] at hfar hnear'
    obtain ⟨htr', hdet, hcues, htb', hroute, hlatched, hrest, hrun⟩ := lostEdge_frame hnote
    refine ⟨x.loseLock p, (hclass hno).trans (congrArg _ hx), ⟨fun h => ?_, fun h0 h1 => ?_, hdet, hcues, htb', hroute, hrest, hrun⟩,
      fun hd => hlatched _ (checkPerfs_latches hd)⟩
    · rw [htr', hfar (by rw [hw]; exact h)]
    · rw [htr', hnear' (by rw [hw]; exact h0) h1, show checked.slips = t.slips by rw [hsame]]
  have hnone (hd : defects gauge t = false) : (u.checkPerfs p).alarm = u.alarm ∧ (u.checkPerfs p).line = u.line := by
    rw [checkPerfs_of_passes hd]
    exact ⟨rfl, rfl⟩
  have hlatch (hp : ¬passes) (hq : inQuiet t.quiet t.frame = false) : ((u.checkPerfs p).alarm.get (.proj p .perfDefect)).set = true :=
    checkPerfs_latches (hfail hp hq)
  refine ⟨fun hp he => ⟨fun hwait hb herr => ?_, fun hwait hb herr hm hm7 => ?_, fun hs hm hm7 => ?_, fun hl => ?_⟩,
    fun hp hno hwait hb herr => ?_, fun hp hno => ⟨fun hwait hb herr hm hm7 => ?_, fun hs hm hm7 => ?_, fun hl => ?_⟩,
    fun hi he hr => ?_⟩
  · rw [hwin (.inl he) hwait hb herr, (hnone (hpass hp)).1, (hnone (hpass hp)).2]
  · rw [hout (.inl he) hwait hb herr hm hm7, (hnone (hpass hp)).1, (hnone (hpass hp)).2]
  · obtain ⟨alarm, line, hrow, hq, hn⟩ := hslip (.inl he) hs hm hm7
    exact ⟨alarm, line, hrow, hq, fun h => (hn h).2⟩
  · obtain ⟨v, hrow, hloss, -⟩ := hlose (.inl he) hl
    exact ⟨v, hrow, hloss⟩
  · refine ⟨_, _, hwin hno hwait hb herr, ?_, fun hq => hnone (hquiet hq), hlatch hp⟩
    exact checkedEdge_perfDefects hp
  · exact ⟨_, _, hout hno hwait hb herr hm hm7, fun hq => hnone (hquiet hq), hlatch hp⟩
  · obtain ⟨alarm, line, hrow, hq, hn⟩ := hslip hno hs hm hm7
    exact ⟨alarm, line, hrow, hq, fun h => ⟨(hn h).1 (hfail hp h), (hn h).2⟩⟩
  · obtain ⟨v, hrow, hloss, hd⟩ := hlose hno hl
    exact ⟨v, hrow, hloss, fun hq => hd (hfail hp hq)⟩
  · have hp : ¬passes := not_passes_of_empty hi
    have hempty : checked.empty = 3 := checkedEdge_empty hi he
    have hbreak := hexec.trans (congrArg _ (edge_break hmotor hlock hempty (hmoves.1 hr)))
    obtain ⟨hch, htr', -, hcues, hdet, hroute, htb', hl⟩ := enterFault_frame (u.checkPerfs p) p .filmBreak []
    have hn := checkPerfs_notified u p
    rw [hn.ch] at hch
    rw [htr, checkPerfs_tr, Vector.set_set] at htr'
    refine ⟨_, hbreak, hch.trans ?_, htr', hl _ (List.mem_singleton_self _), fun hq => ?_, hdet.trans hn.det, hcues.trans hn.cues,
      htb'.trans hn.tb, hroute.trans hn.route⟩
    · exact congrArg (fun l => u.ch.set p (faulted u.ch[p] .filmBreak l)) (Bool.and_true _)
    · exact enterFault_keeps_latched _ p _ _ (checkPerfs_latches (hfail hp hq))

end
end

section
/-! A frame advance with nothing ahead of it, and a shutter edge in SEARCH (R46 to R54, R63, R68). -/

namespace Sys2Proof.Machine
open Sys2Proof.Claims

/-! ### A frame advance that reaches no entry, makes no report and completes no signature (R63) -/

/-- The detector of a projector after its sample, if its channel samples (R68). -/
def State.sampledIf (s : State) (p : Proj) : State :=
  if s.ch[p].sampling then s.updDet p (fun d => d.sample s.pins.proj[p].cue) else s

theorem sampledIf_eq (s : State) (p : Proj) : s.sampledIf p = { s with det := (s.sampledIf p).det } := by
  unfold State.sampledIf
  split <;> rfl

theorem pushSample_of_lt {h : List Bool} (hl : h.length < 8) (x : Bool) : pushSample h x = h ++ [x] := if_pos hl

/-- Fewer samples than the signature has are no match (R69). -/
theorem matched_of_short {d : Detector} {cue : Bool} (h : d.history.length + 1 < d.sigLen) : (d.sample cue).matched = false := by
  have hlen : (d.sample cue).history.length < d.sigLen := by
    show (pushSample d.history d.latch).length < d.sigLen
    unfold pushSample
    split <;> simp only [List.length_append, List.length_drop, List.length_singleton] <;> omega
  unfold Detector.matched
  rw [show decide ((d.sample cue).sigLen ≤ (d.sample cue).history.length) = false from decide_eq_false (not_le.2 hlen)]
  rfl

theorem reportPosition_of_off {s : State} {p : Proj} (h : s.tr[p].period = 0) : s.reportPosition p = s :=
  if_neg fun hr => hr.1 h

theorem frameAdvanced_of_bare {s : State} {p : Proj} (hl : s.cues.lists[p] = []) (hperiod : s.tr[p].period = 0)
    (hfound : s.det[p].found = none) (hshort : s.det[p].history.length + 1 < s.det[p].sigLen) :
    s.frameAdvanced p 0 = (s.sampledIf p).tailoutOf p := by
  have hdet : s.ch[p].sampling = true → (s.sampledIf p).det[p] = s.det[p].sample s.pins.proj[p].cue := by
    intro hs
    unfold State.sampledIf
    rw [if_pos hs]
    exact getElem_set_same _ _ _
  have hmatch : (s.ch[p].sampling && (s.sampledIf p).det[p].matched) = false := by
    cases hs : s.ch[p].sampling with
    | false => rfl
    | true => rw [hdet hs, matched_of_short hshort]; rfl
  have hfound' : (s.sampledIf p).det[p].found = none := by
    cases hs : s.ch[p].sampling with
    | false =>
      unfold State.sampledIf
      rw [hs]
      exact hfound
    | true => rw [hdet hs]; exact hfound
  have hlist : (s.sampledIf p).cues.lists[p] = [] := by rw [sampledIf_eq]; exact hl
  have hoff : (s.sampledIf p).tr[p].period = 0 := by rw [sampledIf_eq]; exact hperiod
  unfold State.frameAdvanced
  extract_lets detected s1 isMatch s2 s3 s4 s5
  have h1 : s1 = s.sampledIf p := rfl
  have hno : isMatch = false := by
    show (s.ch[p].sampling && s1.det[p].matched) = false
    rw [h1]
    exact hmatch
  have h2 : s2 = s1 := if_neg (ne_true_of_eq_false hno)
  have h3 : s3 = s1 := by
    show (((s2.reportPosition p).missMarks p).reachPass p).lowTest p 0 = s1
    rw [h2, h1, reportPosition_of_off hoff, missMarks_of_empty _ p hlist, reachPass_of_empty _ p hlist, lowTest_zero]
  have h4 : s4 = s1 := by
    show s3.takeWaiting p = s1
    rw [h3, h1, takeWaiting_of_none _ _ hfound']
  have h5 : s5 = s4 := if_neg (ne_true_of_eq_false hno)
  rw [h5, h4, h1]

/-! ### The perforation check of an edge that raises the frame count (R48, R49) -/

theorem checkedEdge_frame (g : Nat) (t : Tracker) (f : Int) : checkedEdge g { t with frame := f } = { checkedEdge g t with frame := f } := by
  unfold checkedEdge
  cases t.interval with
  | none => rfl
  | some k => simp only; split <;> rfl

/-- A tracker with its frame count one higher (R46). -/
def State.risen (s : State) (p : Proj) : State := s.updTr p fun t => { t with frame := t.frame + 1 }

theorem risen_tr (s : State) (p : Proj) : (s.risen p).tr[p] = { s.tr[p] with frame := s.tr[p].frame + 1 } := getElem_set_same _ _ _

theorem risenCheck_updTr (s : State) (p : Proj) (f : Tracker → Tracker) : ((s.risen p).checkPerfs p).updTr p f = { s with
    alarm := ((s.risen p).checkPerfs p).alarm, line := ((s.risen p).checkPerfs p).line
    tr := s.tr.set p (f { checkedEdge s.ch[p].config.gauge.perfs s.tr[p] with frame := s.tr[p].frame + 1 }) } := by
  rw [checkPerfs_updTr, risen_tr, ← checkedEdge_frame]
  show ({ s with alarm := _, line := _, tr := (s.tr.set p _).set p _ } : State) = _
  rw [Vector.set_set]
  rfl

theorem risenCheck_tr (s : State) (p : Proj) : ((s.risen p).checkPerfs p).tr[p] =
    { checkedEdge s.ch[p].config.gauge.perfs s.tr[p] with frame := s.tr[p].frame + 1 } := by
  rw [checkPerfs_tr, getElem_set_same, risen_tr]
  exact checkedEdge_frame _ _ _

/-- The events of the check of the risen tracker are those of the check at the frame count that the edge leaves (R61). -/
theorem risenCheck_quiet {s : State} {p : Proj} (h : defects s.ch[p].config.gauge.perfs { s.tr[p] with frame := s.tr[p].frame + 1 } = false) :
    ((s.risen p).checkPerfs p).alarm = s.alarm ∧ ((s.risen p).checkPerfs p).line = s.line := by
  rw [checkPerfs_of_passes (by rw [risen_tr]; exact h)]
  exact ⟨rfl, rfl⟩

theorem risenCheck_latches {s : State} {p : Proj} (h : defects s.ch[p].config.gauge.perfs { s.tr[p] with frame := s.tr[p].frame + 1 } = true) :
    Latched ((s.risen p).checkPerfs p) (.proj p .perfDefect) :=
  checkPerfs_latches (by rw [risen_tr]; exact h)

/-- The sample of an edge of a running channel (R68). -/
theorem sampledIf_risenCheck {s : State} {p : Proj} {pins : Pins} (h8 : s.det[p].history.length < 8) (hr : s.ch[p].running = true)
    (hp : s.pins = pins) : ((s.risen p).checkPerfs p).sampledIf p = { (s.risen p).checkPerfs p with
      det := s.det.set p { s.det[p] with history := s.det[p].history ++ [s.det[p].latch], latch := pins.proj[p].cue } } := by
  have hn := checkPerfs_notified (s.risen p) p
  have hs : ((s.risen p).checkPerfs p).ch[p].sampling = true := by
    rw [hn.ch]
    have hrun := (running_iff _).1 hr
    show s.ch[p].sampling = true
    unfold Channel.sampling
    rcases hrun with h | h <;> rw [h] <;> rfl
  unfold State.sampledIf
  rw [if_pos hs]
  refine congrArg (fun d => { (s.risen p).checkPerfs p with det := d }) ?_
  rw [hn.det, hn.pins, ← hp, ← pushSample_of_lt h8]
  rfl

/-! ### An edge in SEARCH (R48, R50, R53) -/

/-- What an edge in SEARCH comes to behind its frame advance: a film break, or the measurement (R50, R53). -/
def State.measured (s : State) (p : Proj) (a : Nat) : State :=
  if s.tr[p].empty = 3 ∧ s.ch[p].running = true then s.enterFault p [.filmBreak]
  else s.updTr p fun t => t.searchEdge s.tb.standard s.tb.field a

theorem measured_of_film {s : State} {p : Proj} {a : Nat} (h : s.tr[p].empty ≠ 3 ∨ s.ch[p].running ≠ true) :
    s.measured p a = s.updTr p fun t => t.searchEdge s.tb.standard s.tb.field a := if_neg (not_and_or.2 h)

/-- What an edge in SEARCH comes to before its measurement: the check, and the advance or the limit (R47, R48). -/
def State.searched (s : State) (p : Proj) : State :=
  if s.tr[p].frame < 999999 then ((s.risen p).checkPerfs p).frameAdvanced p (s.ahead p) else (s.checkPerfs p).pass (.proj p .counterLimit)

/-- What an edge comes to behind its frame advance: a film break, or the measurement that the lock state asks for (R50, R53, R56). -/
def State.classed (s : State) (p : Proj) (a : Nat) : State :=
  let broken := if s.tr[p].motor && s.tr[p].empty = 3 && s.ch[p].running then s.enterFault p [.filmBreak] else s
  match broken.tr[p].lock with
  | .unlocked => broken
  | .search => broken.updTr p (fun t => t.searchEdge broken.tb.standard broken.field a)
  | .locked => broken.lockedEdge p a

theorem edge_of_search {s : State} {p : Proj} (hm : s.tr[p].motor = true) (hl : s.tr[p].lock = .search) :
    s.edge p = (s.searched p).classed p s.edgeOffset := by
  unfold State.edge
  rw [if_neg (by rw [hm]; decide)]
  extract_lets a before rises held s1 s2 s3 s4
  have h3 : s3 = s.searched p := by
    by_cases hf : s.tr[p].frame < 999999
    · have hr : rises = true := by
        show (decide (s.tr[p].lock = .search) && decide (s.tr[p].frame < 999999)) = true
        rw [hl, decide_eq_true hf]
        rfl
      have hh : held = false := by
        show (decide (s.tr[p].lock = .search) && !rises) = false
        rw [hr]
        exact Bool.and_false _
      have h1 : s1 = s.risen p := if_pos hr
      have h2 : s2 = (s.risen p).checkPerfs p := by
        show (s1.checkPerfs p).passIf held _ = _
        rw [hh, h1]
        rfl
      show (if rises then s2.frameAdvanced p before else s2) = _
      rw [if_pos hr, h2]
      exact (if_pos hf).symm
    · have hr : rises = false := by
        show (decide (s.tr[p].lock = .search) && decide (s.tr[p].frame < 999999)) = false
        rw [decide_eq_false hf]
        exact Bool.and_false _
      have hh : held = true := by
        show (decide (s.tr[p].lock = .search) && !rises) = true
        rw [hr, hl]
        rfl
      have h1 : s1 = s := if_neg (ne_true_of_eq_false hr)
      have h2 : s2 = (s.checkPerfs p).pass (.proj p .counterLimit) := by
        show (s1.checkPerfs p).passIf held _ = _
        rw [hh, h1]
        rfl
      show (if rises then s2.frameAdvanced p before else s2) = _
      rw [if_neg (ne_true_of_eq_false hr), h2]
      exact (if_neg hf).symm
  have h4 : s4 = if (s.searched p).tr[p].motor && (s.searched p).tr[p].empty = 3 && (s.searched p).ch[p].running
      then (s.searched p).enterFault p [.filmBreak] else s.searched p := by
    rw [← h3]
  clear_value s4
  subst h4
  rfl

theorem edge_search {s : State} {p : Proj} (hm : s.tr[p].motor = true) (hl : s.tr[p].lock = .search)
    (hm' : (s.searched p).tr[p].motor = true) (hl' : (s.searched p).tr[p].lock = .search) :
    s.edge p = (s.searched p).measured p s.edgeOffset := by
  rw [edge_of_search hm hl]
  generalize s.searched p = w at hm' hl'
  unfold State.classed State.measured
  rw [hm', Bool.true_and]
  simp only [Bool.and_eq_true, decide_eq_true_iff]
  by_cases hbreak : w.tr[p].empty = 3 ∧ w.ch[p].running = true
  · have hlock : (w.enterFault p [.filmBreak]).tr[p].lock = .unlocked := by
      rw [(enterFault_frame w p .filmBreak []).2.1]
      exact (congrArg Tracker.lock (getElem_set_same _ _ _)).trans rfl
    simp only [if_pos hbreak, hlock]
  · simp only [if_neg hbreak, hl']
    rfl

/-- An edge whose frame advance stops the film is not measured. -/
theorem edge_stopped {s : State} {p : Proj} (hm : s.tr[p].motor = true) (hl : s.tr[p].lock = .search)
    (hm' : (s.searched p).tr[p].motor = false) (hl' : (s.searched p).tr[p].lock = .unlocked) : s.edge p = s.searched p := by
  rw [edge_of_search hm hl]
  generalize s.searched p = w at hm' hl'
  unfold State.classed
  simp only [hm', Bool.false_and, Bool.false_eq_true, if_false, hl']

/-- An edge below the limit in a channel of no record, its list empty and no report due, is a sample behind the check. -/
theorem searched_of_bare {s : State} {p : Proj} (hf : s.tr[p].frame < 999999) (hl : s.cues.lists[p] = []) (hno : InNoRecord s p)
    (hperiod : s.tr[p].period = 0) (hfound : s.det[p].found = none) (hshort : s.det[p].history.length + 1 < s.det[p].sigLen) :
    s.searched p = ((s.risen p).checkPerfs p).sampledIf p := by
  have hn := checkPerfs_notified (s.risen p) p
  have htr : ((s.risen p).checkPerfs p).tr[p].period = 0 := by
    rw [checkPerfs_tr, getElem_set_same, checkedEdge_eq, risen_tr]
    exact hperiod
  have hrecs : ∀ (r : Rec) (rec : Record), (((s.risen p).checkPerfs p).sampledIf p).eng.records[r] = some rec → rec.a = p →
      rec.state ≠ .tailout := by
    intro r rec hrec ha
    rw [sampledIf_eq] at hrec
    simp only [hn.eng] at hrec
    exact absurd ha (hno r rec hrec).1
  unfold State.searched
  rw [if_pos hf, ahead_of_empty s p hl, frameAdvanced_of_bare (by rw [hn.cues]; exact hl) htr (by rw [hn.det]; exact hfound)
    (by rw [hn.det]; exact hshort), tailoutOf_of_no_tailout _ _ hrecs]

/-! ### The table of an edge in SEARCH (R53, R54) -/

theorem stepLength_iff (std : Standard) (d : Int) : std.stepLength d = true ↔ d = 2 ∨ (std = .s60 ∧ d = 3) := by
  cases std <;> simp [Standard.stepLength]

section
variable {t : Tracker} {std : Standard} {n : Field} {a : Nat}

theorem searchEdge_far (h : (t.w : Int) < |phaseError a|) :
    t.searchEdge std n a = { t with pendingLock := none, run := 0, lastIn := none } := if_pos h

theorem searchEdge_first (h : |phaseError a| ≤ (t.w : Int)) (hl : t.lastIn = none) :
    t.searchEdge std n a = { t with pendingLock := none, run := 1, lastIn := some (nearestBoundary n a) } := by
  unfold Tracker.searchEdge
  simp only [if_neg (not_lt.2 h), hl]

theorem searchEdge_misfit (h : |phaseError a| ≤ (t.w : Int)) {l : Field} (hl : t.lastIn = some l)
    (hfit : std.stepLength (fieldDiff (nearestBoundary n a) l) = false) :
    t.searchEdge std n a = { t with pendingLock := none, run := 1, lastIn := some (nearestBoundary n a) } := by
  unfold Tracker.searchEdge
  simp only [if_neg (not_lt.2 h), hl, hfit]
  rfl

theorem searchEdge_below (h : |phaseError a| ≤ (t.w : Int)) {l : Field} (hl : t.lastIn = some l)
    (hfit : std.stepLength (fieldDiff (nearestBoundary n a) l) = true) (hk : t.run + 1 < t.k) (hk15 : t.k ≤ 15) :
    t.searchEdge std n a = { t with pendingLock := none, run := t.run + 1, lastIn := some (nearestBoundary n a) } := by
  have hsat : satInc 15 t.run = t.run + 1 := Nat.min_eq_right (by omega)
  unfold Tracker.searchEdge
  simp only [if_neg (not_lt.2 h), hl, hfit, hsat, if_true]
  rw [if_neg (by omega)]

/-- The step of a pending lock, by the standard and the spacing measured (R54). -/
def lockStep (std : Standard) (d : Int) : Step := if std = .s50 then .even else if d = 3 then .short else .long

theorem searchEdge_reaches (h : |phaseError a| ≤ (t.w : Int)) {l : Field} (hl : t.lastIn = some l)
    (hfit : std.stepLength (fieldDiff (nearestBoundary n a) l) = true) (hk : t.run + 1 = t.k) (hk15 : t.k ≤ 15) :
    t.searchEdge std n a = { t with
      run := t.k
      lastIn := some (nearestBoundary n a)
      pendingLock := some (if phaseError a < 0 then ⟨nearestBoundary n a, t.frame, 0, lockStep std (fieldDiff (nearestBoundary n a) l)⟩
        else ⟨nearestBoundary n a + 1, t.frame, 1, lockStep std (fieldDiff (nearestBoundary n a) l)⟩) } := by
  have hsat : satInc 15 t.run = t.k := (Nat.min_eq_right (by omega)).trans hk
  unfold Tracker.searchEdge lockStep
  simp only [if_neg (not_lt.2 h), hl, hfit, hsat, if_true, le_refl]
  cases std <;> (simp only [reduceCtorEq, if_true, if_false]; split <;> rfl)

end

end Sys2Proof.Machine

section
open Sys2Proof Sys2Proof.Machine Sys2Proof.Claims

/-- Settles O15: the check and the sample of the edge, then its measurement, and the table of the measurement. -/
theorem searchEdgeFollowsTable : Obligations.SearchEdgeFollowsTable := by
  refine ⟨fun s m p hreset hdue => ?_, fun t std n a _ => ?_⟩
  · have hexec := exec_shutterEdge hreset hdue m p
    have hpins := arrive_pins s m
    generalize s.arrive m = u at hexec hpins
    intro u' x d a gauge checked passes runs det bare hmotor hlock
    have hmoves : runs ↔ u.ch[p].running = true := (running_iff _).symm
    have hempty (f : Int) : ({ checked with frame := f } : Tracker).empty = checked.empty := rfl
    have hmotor' : checked.motor = true := (checkedEdge_motor _ _).trans hmotor
    have hlock' : checked.lock = .search := (checkedEdge_lock _ _).trans hlock
    have hfail {f : Int} (hp : ¬passes) (hq : inQuiet x.quiet f = false) : defects gauge { x with frame := f } = true :=
      defects_of_fails (t := { x with frame := f }) hp hq
    -- below the limit, behind the check and the sample
    have hbelow (hf : x.frame < 999999) (hr : runs) (hb : bare) :
        exec (.shutterEdge m p) s = .next ({ (u.risen p).checkPerfs p with det := det }.measured p a) := by
      obtain ⟨hlist, hno, hperiod, hfound, hshort, h8⟩ := hb
      have hsearched := searched_of_bare hf hlist hno hperiod hfound hshort
      have hsample : ((u.risen p).checkPerfs p).sampledIf p = { (u.risen p).checkPerfs p with det := det } :=
        sampledIf_risenCheck h8 (hmoves.1 hr) hpins
      rw [hsample] at hsearched
      have htr : (u.searched p).tr[p] = { checked with frame := x.frame + 1 } := by
        rw [hsearched]
        exact risenCheck_tr u p
      rw [hexec, edge_search hmotor hlock (by rw [htr]; exact hmotor') (by rw [htr]; exact hlock'), hsearched]
      rfl
    have hbelow' (hf : x.frame < 999999) (hr : runs) (hb : bare) (he : checked.empty < 3) : exec (.shutterEdge m p) s = .next { u with
        alarm := ((u.risen p).checkPerfs p).alarm, line := ((u.risen p).checkPerfs p).line
        tr := u.tr.set p ({ checked with frame := x.frame + 1 }.searchEdge u.tb.standard u.tb.field a), det := det } := by
      rw [hbelow hf hr hb, measured_of_film (.inl (by
        show ((u.risen p).checkPerfs p).tr[p].empty ≠ 3
        rw [risenCheck_tr]
        exact Nat.ne_of_lt he))]
      have hupd := risenCheck_updTr u p fun t => t.searchEdge ((u.risen p).checkPerfs p).tb.standard ((u.risen p).checkPerfs p).tb.field a
      have htb : ((u.risen p).checkPerfs p).tb = u.tb := (checkPerfs_notified (u.risen p) p).tb
      refine (congrArg (fun z : State => Host.Outcome.next { z with det := det }) hupd).trans ?_
      rw [htb]
    -- at the limit
    have hlimit (hf : x.frame = 999999) (hno : checked.empty < 3 ∨ ¬runs) : exec (.shutterEdge m p) s = .next { u with
        alarm := ((u.checkPerfs p).pass (.proj p .counterLimit)).alarm, line := ((u.checkPerfs p).pass (.proj p .counterLimit)).line
        tr := u.tr.set p (checked.searchEdge u.tb.standard u.tb.field a) } := by
      have hsearched : u.searched p = (u.checkPerfs p).pass (.proj p .counterLimit) := if_neg (not_lt.2 (le_of_eq hf.symm))
      have hnote : Notified (u.checked p) ((u.checkPerfs p).pass (.proj p .counterLimit)) :=
        (checkPerfs_notified u p).trans (pass_notified _ _)
      generalize (u.checkPerfs p).pass (.proj p .counterLimit) = z at hsearched hnote
      have htr : z.tr[p] = checked := by
        rw [hnote.tr]
        exact checked_tr u p
      have hupd := checked_updTr hnote fun t => t.searchEdge z.tb.standard z.tb.field a
      rw [hexec, edge_search hmotor hlock (by rw [hsearched, htr]; exact hmotor') (by rw [hsearched, htr]; exact hlock'), hsearched,
        measured_of_film (by rw [htr, hnote.ch]; exact hno.imp Nat.ne_of_lt (mt hmoves.2))]
      refine (congrArg Host.Outcome.next hupd).trans ?_
      rw [show z.tb = u.tb from hnote.tb]
    have hkept {k : ProjAlarm} (h : Latched (u.checkPerfs p) (.proj p k)) :
        Latched ((u.checkPerfs p).pass (.proj p .counterLimit)) (.proj p k) := (pass_notified _ _).latched _ h
    refine ⟨fun hp he => ⟨fun hf hr hb => ?_, fun hf => ⟨_, _, hlimit hf (.inl he), pass_latches _ _⟩⟩,
      fun hp => ⟨checkedEdge_perfDefects hp, fun hf hr he hb => ?_, fun hf hno => ?_⟩, fun hi he hr hf hb => ?_⟩
    · obtain ⟨halarm, hline⟩ := risenCheck_quiet (s := u) (p := p) (defects_of_passes hp)
      rw [hbelow' hf hr hb he, halarm, hline]
    · refine ⟨_, _, hbelow' hf hr hb he, fun hq => risenCheck_quiet (defects_of_quiet hq), fun hq => risenCheck_latches (hfail hp hq)⟩
    · exact ⟨_, _, hlimit hf hno, pass_latches _ _, fun hq => hkept (checkPerfs_latches (defects_of_fails hp hq))⟩
    · have hp : ¬passes := not_passes_of_empty hi
      have hn := checkPerfs_notified (u.risen p) p
      have htr := risenCheck_tr u p
      have hvec : ((u.risen p).checkPerfs p).tr = u.tr.set p { checked with frame := x.frame + 1 } := by
        rw [checkPerfs_tr, risen_tr, ← checkedEdge_frame]
        exact Vector.set_set ..
      have hlatch (hq : inQuiet x.quiet (x.frame + 1) = false) : Latched ((u.risen p).checkPerfs p) (.proj p .perfDefect) :=
        risenCheck_latches (hfail hp hq)
      have hrow := hbelow hf hr hb
      generalize (u.risen p).checkPerfs p = w at hn htr hvec hlatch hrow
      have hbreak : ({ w with det := det } : State).measured p a = ({ w with det := det } : State).enterFault p [.filmBreak] :=
        if_pos ⟨by show w.tr[p].empty = 3; rw [htr]; exact checkedEdge_empty hi he, by show w.ch[p].running = true; rw [hn.ch]; exact hmoves.1 hr⟩
      obtain ⟨hch, htr', -, hcues, hdet, hroute, htb, hl⟩ := enterFault_frame { w with det := det } p .filmBreak []
      refine ⟨_, hrow.trans (congrArg _ hbreak), ?_, ?_, hl _ (List.mem_singleton_self _), fun hq => ?_, hdet, hcues.trans hn.cues,
        htb.trans hn.tb, hroute.trans hn.route⟩
      · rw [hch]
        show w.ch.set p (faulted w.ch[p] .filmBreak (w.ch[p].lamp && true)) = _
        rw [hn.ch, Bool.and_true]
        rfl
      · rw [htr']
        show w.tr.set p (stopped w.tr[p]) = _
        rw [htr, hvec]
        exact Vector.set_set ..
      · exact enterFault_keeps_latched _ p _ _ (hlatch hq)
  · intro e b t' fits
    have hfits (l : Field) : fits l ↔ std.stepLength (fieldDiff b l) = true := (stepLength_iff std _).symm
    refine ⟨searchEdge_far, searchEdge_first, fun he l hl hn => ?_, fun he l hl hfit hk hk15 => ?_, fun he l hl hfit hk hk15 => ?_⟩
    · exact searchEdge_misfit he hl (Bool.eq_false_iff.2 (mt (hfits l).2 hn))
    · exact searchEdge_below he hl ((hfits l).1 hfit) hk hk15
    · exact searchEdge_reaches he hl ((hfits l).1 hfit) hk hk15

end
end

section
/-! What film does to the notice queue, and what a frame advance makes of a projector that neither runs up nor runs
(R46, R63, R65, R68 to R73, R116). -/

namespace Sys2Proof.Machine
open Sys2Proof.Claims

/-! ### Notices that wait stay in front (R185) -/

/-- What the queue of the first state holds stands in front in that of the second. -/
def Front (s t : State) : Prop := s.line.queue <+: t.line.queue

namespace Front
variable {s t u : State}

theorem refl (s : State) : Front s s := List.prefix_rfl
theorem trans (h : Front s t) (k : Front t u) : Front s u := List.IsPrefix.trans h k
theorem of_line (h : t.line = s.line) : Front s t := by unfold Front; rw [h]
theorem mem (h : Front s t) {n : Notice} (hn : n ∈ s.line.queue) : n ∈ t.line.queue := h.subset hn

theorem ite {c : Prop} [Decidable c] {x y : State} (hx : Front s x) (hy : Front s y) : Front s (if c then x else y) := by
  split
  · exact hx
  · exact hy

theorem foldl {α : Type} {f : State → α → State} (hf : ∀ s x, Front s (f s x)) (l : List α) (s : State) : Front s (l.foldl f s) :=
  foldl_inv (I := fun w => Front s w) (fun w x _ hw => hw.trans (hf w x)) (refl s)

end Front

theorem Notified.front {s t : State} (h : Notified s t) : Front s t := by
  obtain ⟨ns, hq, -⟩ := h.grows
  exact ⟨ns, hq.symm⟩

theorem endRecord_front (s : State) (r : Rec) (res : Result) : Front s (s.endRecord r res) := by
  unfold State.endRecord
  split
  · exact .refl s
  · extract_lets s1 s2
    exact ((Front.of_line rfl).trans (post_notified s1 _ fun _ => rfl).front).trans (.of_line rfl)

theorem engineStop_front (s : State) (p : Proj) : Front s (s.engineStop p) := by
  unfold State.engineStop
  split
  · exact endRecord_front _ _ _
  · split
    · exact .refl s
    · exact .ite (.refl s) (endRecord_front _ _ _)

theorem giveStop_front (s : State) (p : Proj) : Front s (s.giveStop p) := by
  cases he : s.estop with
  | true => rw [giveStop_of_estop s p he]; exact .refl s
  | false =>
    unfold State.giveStop
    rw [requestStop_taken he]
    show Front s ((s.halted p).engineStop p)
    exact (Front.of_line (t := s.halted p) rfl).trans (engineStop_front _ p)

theorem removeCue_eq (s : State) (p : Proj) (n : Nat) : s.removeCue p n = { s with cues := (s.removeCue p n).cues } := by
  unfold State.removeCue
  simp only
  split <;> rfl

theorem consume_front (s : State) (p : Proj) (e : CueEntry) (o : CueOutcome) (v : Int) (b : Bool) : Front s (s.consume p e o v b) := by
  obtain ⟨w, hw, -, h⟩ := consume_cases s p e o v b
  have hfront : Front s w := (Front.of_line (congrArg State.line (removeCue_eq s p e.number))).trans hw.front
  rw [h]
  exact .ite (hfront.trans (.of_line rfl)) hfront

theorem reachEntry_front (s : State) (p : Proj) (e : CueEntry) : Front s (s.reachEntry p e) := by
  unfold State.reachEntry
  split
  · split
    · exact (giveStop_front s p).trans (consume_front _ _ _ _ _ _)
    · exact consume_front _ _ _ _ _ _
    · exact (Front.of_line rfl).trans (consume_front (s.updTr p _) _ _ _ _ _)
    · exact (consume_front s p e _ _ _).trans (pass_notified _ _).front
    · exact .refl s
  · exact consume_front _ _ _ _ _ _

theorem reachPass_front (s : State) (p : Proj) : Front s (s.reachPass p) :=
  .ite (.foldl (fun _ _ => reachEntry_front _ _ _) _ _) (.refl s)

theorem missMarks_front (s : State) (p : Proj) : Front s (s.missMarks p) :=
  .ite (.foldl (fun w e => (consume_front w p e _ _ _).trans (pass_notified _ _).front) _ _) (.refl s)

theorem lowTest_front (s : State) (p : Proj) (before : Nat) : Front s (s.lowTest p before) := (passIf_notified _ _ _).front

/-- The report of a correction touches the records alone (R75). -/
theorem engineCorrected_eq (s : State) (p : Proj) : s.engineCorrected p = { s with eng := (s.engineCorrected p).eng } := by
  unfold State.engineCorrected
  extract_lets mark
  split
  · rfl
  · split <;> rfl

theorem tailoutOf_front (s : State) (p : Proj) : Front s (s.tailoutOf p) := by
  rcases tailoutOf_cases s p with h | ⟨r, res, h⟩
  · rw [h]; exact .refl s
  · rw [h]; exact (endRecord_front s r res).trans (giveStop_front _ p)

theorem applyCorrection_front (s : State) (p : Proj) (c : Int) : Front s (s.applyCorrection p c) := by
  unfold State.applyCorrection
  extract_lets before limited s1 s2 s3
  have h1 : Front s s1 := (Front.of_line rfl).trans (passIf_notified (s.updTr p fun t => t.corrected c) _ _).front
  have h2 : Front s1 s2 := .ite (.refl s1) (.of_line (by rw [engineCorrected_eq s1 p]))
  have h3 : Front s2 s3 := .ite (reachPass_front s2 p) (.refl s2)
  exact (((h1.trans h2).trans h3).trans (lowTest_front s3 p _)).trans (tailoutOf_front _ p)

theorem takeMatch_front (s : State) (p : Proj) (d : Int) : Front s (s.takeMatch p d) := by
  unfold State.takeMatch
  split
  · exact ((consume_front s p _ _ _ _).trans (lowTest_front _ p _)).trans (applyCorrection_front _ p _)
  · exact (Front.of_line rfl).trans (passUnlessQuiet_notified (s.updTr p _) p _).front

theorem takeWaiting_front (s : State) (p : Proj) : Front s (s.takeWaiting p) := by
  unfold State.takeWaiting
  split
  · exact .refl s
  · exact (Front.of_line rfl).trans (takeMatch_front (s.updDet p _) p _)

theorem handMatch_front (s : State) (p : Proj) (d : Int) : Front s (s.handMatch p d) :=
  .ite (.of_line rfl) (takeMatch_front s p d)

/-! ### Entries taken from the list of a projector that does not run (R71, R107, R116) -/

/-- What taking entries from the list of a projector without motion from RUNUP or RUN touches: that list, the pool that the entries return
to, and the notices. -/
structure Culled (p : Proj) (s t : State) : Prop where
  eq : t = { s with
    cues := t.cues, alarm := t.alarm, line := { s.line with queue := t.line.queue, discarded := t.line.discarded } }
  steady : Steady (.of p) s t
  front : Front s t
  pool : t.cues.free + t.cues.lists[p].length = s.cues.free + s.cues.lists[p].length

namespace Culled
variable {p : Proj} {s t u : State}

theorem refl (s : State) : Culled p s s := ⟨rfl, Steady.refl s, .refl s, rfl⟩

theorem trans (h : Culled p s t) (k : Culled p t u) : Culled p s u :=
  ⟨by rw [k.eq, h.eq], h.steady.trans k.steady, h.front.trans k.front, k.pool.trans h.pool⟩

theorem ch (h : Culled p s t) : t.ch = s.ch := by rw [h.eq]
theorem tr (h : Culled p s t) : t.tr = s.tr := by rw [h.eq]
theorem det (h : Culled p s t) : t.det = s.det := by rw [h.eq]
theorem pins (h : Culled p s t) : t.pins = s.pins := by rw [h.eq]
theorem field (h : Culled p s t) : t.field = s.field := by rw [h.eq]; rfl
theorem eng (h : Culled p s t) : t.eng = s.eng := by rw [h.eq]

/-- The lists of the others stay. -/
theorem lists (h : Culled p s t) : t.cues.lists = s.cues.lists.set p t.cues.lists[p] := by
  refine vector_ext fun q => ?_
  by_cases hq : q = p
  · rw [hq, getElem_set_same]
  · rw [getElem_set_other _ _ hq]
    exact (h.steady.others q hq).2.2.2

end Culled

theorem pass_culled (s : State) (p : Proj) (k : ProjAlarm) : Culled p s (s.pass (.proj p k)) := by
  have h := pass_notified s (.proj p k)
  exact ⟨by rw [h.eq], pass_steady s (notTally_proj p k), h.front, by rw [h.cues]⟩

theorem passIf_culled (s : State) (c : Bool) (p : Proj) (k : ProjAlarm) : Culled p s (s.passIf c (.proj p k)) := by
  unfold State.passIf
  split
  · exact pass_culled s p k
  · exact .refl s

theorem lowTest_culled (s : State) (p : Proj) (before : Nat) : Culled p s (s.lowTest p before) := passIf_culled _ _ _ _

/-- An entry removed is one more that is free. -/
theorem removeCue_pool (s : State) (p : Proj) (n : Nat) :
    (s.removeCue p n).cues.free + (s.removeCue p n).cues.lists[p].length = s.cues.free + s.cues.lists[p].length := by
  unfold State.removeCue
  extract_lets list
  split
  · rename_i hany
    obtain ⟨e, he, hn⟩ := List.any_eq_true.1 hany
    have hlen : (list.eraseP fun e => e.number = n).length = list.length - 1 := List.length_eraseP_of_mem he hn
    have hpos : 0 < list.length := List.length_pos_of_mem he
    show s.cues.free + 1 + (s.cues.lists.set p (list.eraseP fun e => e.number = n))[p].length = s.cues.free + list.length
    rw [getElem_set_same, hlen]
    omega
  · rfl

theorem consume_culled (s : State) (p : Proj) (e : CueEntry) (o : CueOutcome) (v : Int) :
    Culled p s (s.consume p e o v false) ∧ (s.consume p e o v false).cues = (s.removeCue p e.number).cues := by
  have hcues := (consume_consumed s p e o v false).2
  refine ⟨⟨?_, consume_steady s (of_has p).film e o v false, consume_front s p e o v false, ?_⟩, hcues⟩
  · conv_lhs => rw [(consume_consumed s p e o v false).1.eq]
    rw [consume_ch s p e o v]
  · rw [hcues, removeCue_pool]

theorem missMarks_culled (s : State) (p : Proj) (h : s.ch[p].running = false) : Culled p s (s.missMarks p) := by
  unfold State.missMarks
  split
  · refine foldl_inv (I := fun w => Culled p s w) (fun w e _ hw => ?_) (.refl s)
    have hrun : w.ch[p].running = false := by rw [hw.ch]; exact h
    rw [hrun]
    exact (hw.trans (consume_culled w p e _ _).1).trans (pass_culled _ p _)
  · exact .refl s

theorem missMarks_of_none (s : State) (p : Proj) (h : ∀ e ∈ s.cues.lists[p], e.markPassed s.tr[p].frame = false) : s.missMarks p = s := by
  have hnil : s.cues.lists[p].filter (fun e => e.markPassed s.tr[p].frame) = [] :=
    List.filter_eq_nil_iff.2 fun e he => ne_true_of_eq_false (h e he)
  unfold State.missMarks
  rw [hnil]
  split <;> rfl

/-! ### The tail-out test of a projector that does not run (R157) -/

/-- What a record's end leaves beside the film of a projector without motion from RUNUP or RUN. -/
structure Rested (p : Proj) (s t : State) : Prop where
  tr : t.tr = s.tr
  det : t.det = s.det
  cues : t.cues = s.cues
  running : t.ch[p].running = false
  front : Front s t
  latched : ∀ a, Latched s a → Latched t a

namespace Rested
variable {p : Proj} {s t u : State}

theorem refl (h : s.ch[p].running = false) : Rested p s s := ⟨rfl, rfl, rfl, h, .refl s, fun _ h => h⟩

theorem trans (h : Rested p s t) (k : Rested p t u) : Rested p s u :=
  ⟨k.tr.trans h.tr, k.det.trans h.det, k.cues.trans h.cues, k.running, h.front.trans k.front, fun a ha => k.latched a (h.latched a ha)⟩

end Rested

theorem stopTable_rests {c : Channel} (h : c.running = false) : (stopTable c).running = false := by
  by_cases hi : c.state = .inch
  · rw [stopTable_of_moving (.inr hi)]
    rfl
  · rw [stopTable_of_rest (not_or.2 ⟨mt (running_iff c).2 (ne_true_of_eq_false h), hi⟩)]
    exact h

theorem giveStop_rested (s : State) (p : Proj) (h : s.ch[p].running = false) : Rested p s (s.giveStop p) := by
  have hlatched := (giveStop_steady s (of_has p)).latched
  have hfront := giveStop_front s p
  cases he : s.estop with
  | true => rw [giveStop_of_estop s p he]; exact .refl h
  | false =>
    have heq : s.giveStop p = (s.halted p).engineStop p := congrArg Prod.fst (requestStop_taken he p)
    have hk := engineStop_engineOnly (s.halted p) p
    have htr : (s.halted p).tr = s.tr := by
      show s.tr.set p (haltedTracker s.tr[p] s.ch[p]) = s.tr
      rw [haltedTracker_of_not (mt (running_iff _).2 (ne_true_of_eq_false h)), set_getElem_self]
    have hch : (s.halted p).ch[p] = stopTable s.ch[p] := getElem_set_same _ _ _
    rw [heq] at hlatched hfront ⊢
    exact ⟨hk.tr.trans htr, hk.det, hk.cues, by rw [hk.ch, hch]; exact stopTable_rests h, hfront, hlatched⟩

theorem tailoutOf_rested (s : State) (p : Proj) (h : s.ch[p].running = false) : Rested p s (s.tailoutOf p) := by
  rcases tailoutOf_cases s p with heq | ⟨r, res, heq⟩
  · rw [heq]; exact .refl h
  · rw [heq]
    have hk := endRecord_engineOnly s r res
    have hrun : (s.endRecord r res).ch[p].running = false := by rw [hk.ch]; exact h
    exact Rested.trans ⟨hk.tr, hk.det, hk.cues, hrun, endRecord_front s r res, hk.latched⟩ (giveStop_rested _ p hrun)

theorem reachPass_of_not_running {s : State} {p : Proj} (h : s.ch[p].running = false) : s.reachPass p = s := by
  unfold State.reachPass
  rw [h]
  rfl

/-! ### Corrections and matches of a projector that does not run (R70, R72, R73) -/

/-- A correction moves the tracker, and may end the record of its projector. -/
theorem applyCorrection_rested (s : State) (p : Proj) (c : Int) (h : s.ch[p].running = false) :
    Rested p (s.updTr p fun t => t.corrected c) (s.applyCorrection p c) := by
  unfold State.applyCorrection
  extract_lets before limited s1 s2 s3
  have hn1 : Notified (s.updTr p fun t => t.corrected c) s1 := passIf_notified _ _ _
  have hcorrected := engineCorrected_eq s1 p
  have h2 : s2 = { s1 with eng := s2.eng } := by
    show (if c = 0 then s1 else s1.engineCorrected p) = { s1 with eng := (if c = 0 then s1 else s1.engineCorrected p).eng }
    split
    · rfl
    · exact hcorrected
  have hrun2 : s2.ch[p].running = false := by
    rw [h2]
    show s1.ch[p].running = false
    rw [hn1.ch]
    exact h
  have h3 : s3 = s2 := by
    show (if 0 < c then s2.reachPass p else s2) = s2
    rw [reachPass_of_not_running hrun2, ite_self]
  have hn4 : Notified s2 (s3.lowTest p before) := by rw [h3]; exact passIf_notified _ _ _
  have hrun4 : (s3.lowTest p before).ch[p].running = false := by rw [hn4.ch]; exact hrun2
  refine Rested.trans ⟨?_, ?_, ?_, hrun4, ?_, fun a ha => hn4.latched a ?_⟩ (tailoutOf_rested _ p hrun4)
  · rw [hn4.tr, h2]; exact hn1.tr
  · rw [hn4.det, h2]; exact hn1.det
  · rw [hn4.cues, h2]; exact hn1.cues
  · exact (hn1.front.trans (.of_line (by rw [h2]))).trans hn4.front
  · rw [h2]; exact hn1.latched a ha

theorem markOpen_iff (e : CueEntry) (f : Int) : e.markOpen f = true ↔ OpenAt e f := by
  unfold CueEntry.markOpen OpenAt
  cases hk : e.kind <;> simp

/-- A match with no open entry is a stray mark (R72). -/
theorem takeMatch_of_stray (s : State) (p : Proj) (d : Int) (h : ∀ e ∈ s.cues.lists[p], ¬OpenAt e d) : s.takeMatch p d =
    (s.updTr p (fun t => { t with strayMarks := satInc Config.countMax t.strayMarks })).passUnlessQuiet p .strayMark := by
  have hnone : s.cues.lists[p].find? (fun e => e.markOpen d) = none :=
    List.find?_eq_none.2 fun e he => mt (markOpen_iff e d).1 (h e he)
  unfold State.takeMatch
  rw [hnone]

/-- A match with an open entry consumes it and corrects the tracker (R70). -/
theorem takeMatch_of_open (s : State) (p : Proj) (d : Int) (e : CueEntry) (hl : s.cues.lists[p] = [e]) (h : OpenAt e d) :
    s.takeMatch p d = ((s.consume p e .matched ((e.pos : Int) - d) s.ch[p].running).lowTest p (s.ahead p)).applyCorrection p (e.pos - d) := by
  have hsome : s.cues.lists[p].find? (fun e => e.markOpen d) = some e := by
    rw [hl]
    exact List.find?_cons_of_pos ((markOpen_iff e d).2 h)
  unfold State.takeMatch
  rw [hsome]

/-! ### A frame advance of a projector that does not run (R63) -/

/-- The passes over the list that a frame advance makes after its report: MARK entries missed, then the watermark test. -/
def State.swept (s : State) (p : Proj) (before : Nat) : State := ((s.reportPosition p).missMarks p).lowTest p before

theorem reportPosition_film (s : State) (p : Proj) :
    let t := s.reportPosition p
    t.ch = s.ch ∧ t.tr = s.tr ∧ t.det = s.det ∧ t.cues = s.cues ∧ t.pins = s.pins ∧ t.eng = s.eng ∧ t.estop = s.estop ∧ t.tb = s.tb
      ∧ t.alarm = s.alarm := by
  obtain ⟨q, d, h⟩ := reportPosition_eq s p
  intro t
  rw [show t = _ from h]
  exact ⟨rfl, rfl, rfl, rfl, rfl, rfl, rfl, rfl, rfl⟩

theorem swept_culled (s : State) (p : Proj) (before : Nat) (h : s.ch[p].running = false) :
    Culled p (s.reportPosition p) (s.swept p before) :=
  (missMarks_culled _ p (by rw [(reportPosition_film s p).1]; exact h)).trans (lowTest_culled _ p _)

/-- The reach pass is not made. -/
theorem swept_eq (s : State) (p : Proj) (before : Nat) (h : s.ch[p].running = false) :
    (((s.reportPosition p).missMarks p).reachPass p).lowTest p before = s.swept p before := by
  have hc := missMarks_culled (s.reportPosition p) p (by rw [(reportPosition_film s p).1]; exact h)
  rw [reachPass_of_not_running (by rw [hc.ch, (reportPosition_film s p).1]; exact h)]
  rfl

/-- At rest no sample is taken and no MARK entry missed. -/
theorem frameAdvanced_of_rest (s : State) (p : Proj) (before : Nat) (h : s.ch[p].sampling = false) (hr : s.ch[p].running = false) :
    s.frameAdvanced p before = ((s.swept p before).takeWaiting p).tailoutOf p := by
  unfold State.frameAdvanced
  simp only [h, Bool.false_and, Bool.false_eq_true, if_false, swept_eq s p before hr]

/-- With no signature completed the sample joins the history. -/
theorem frameAdvanced_of_unmatched (s : State) (p : Proj) (before : Nat) (h : s.ch[p].sampling = true) (hr : s.ch[p].running = false)
    (hm : (s.det[p].sample s.pins.proj[p].cue).matched = false) : s.frameAdvanced p before =
      (((s.updDet p fun d => d.sample s.pins.proj[p].cue).swept p before).takeWaiting p).tailoutOf p := by
  have hdet : (s.updDet p fun d => d.sample s.pins.proj[p].cue).det[p] = s.det[p].sample s.pins.proj[p].cue := getElem_set_same _ _ _
  have hswept := swept_eq (s.updDet p fun d => d.sample s.pins.proj[p].cue) p before hr
  unfold State.frameAdvanced
  simp only [h, if_true, hdet, hm, Bool.and_false, Bool.false_eq_true, if_false, hswept]

/-- A completed signature empties the history and hands on the match. -/
theorem frameAdvanced_of_matched (s : State) (p : Proj) (before : Nat) (h : s.ch[p].sampling = true) (hr : s.ch[p].running = false)
    (hm : (s.det[p].sample s.pins.proj[p].cue).matched = true) : s.frameAdvanced p before =
      ((((s.updDet p fun d => (d.sample s.pins.proj[p].cue).emptied).swept p before).takeWaiting p).handMatch p s.tr[p].frame).tailoutOf p := by
  have hdet : (s.updDet p fun d => d.sample s.pins.proj[p].cue).det[p] = s.det[p].sample s.pins.proj[p].cue := getElem_set_same _ _ _
  have htwice : (s.updDet p fun d => d.sample s.pins.proj[p].cue).updDet p Detector.emptied
      = s.updDet p fun d => (d.sample s.pins.proj[p].cue).emptied := by
    simp only [State.updDet, getElem_set_same, Vector.set_set]
  have hswept := swept_eq (s.updDet p fun d => (d.sample s.pins.proj[p].cue).emptied) p before hr
  unfold State.frameAdvanced
  simp only [h, if_true, hdet, hm, Bool.and_true, htwice, hswept]

end Sys2Proof.Machine
end

section
/-! A perforation (R20, R46, R47, R63, R65, R68 to R73). -/

namespace Sys2Proof.Machine
open Sys2Proof.Claims

/-! ### The perforation itself (R20, R46, R48) -/

theorem movePhase_eq (g x : Nat) (forward : Bool) : movePhase g x forward =
    if forward then (if x + 1 < g then x + 1 else 0) else (if x = 0 then g - 1 else x - 1) := by
  unfold movePhase
  cases forward with
  | false => rfl
  | true =>
    simp only [if_true]
    by_cases h : x + 1 < g
    · rw [if_pos h, if_neg (Nat.not_le.2 h)]
    · rw [if_neg h, if_pos (Nat.not_lt.1 h)]

theorem isCarry_iff (g x : Nat) (forward : Bool) : isCarry g x forward = true ↔ if forward then ¬(x + 1 < g) else x = 0 := by
  unfold isCarry
  cases forward with
  | false => exact decide_eq_true_iff
  | true => exact decide_eq_true_iff.trans Nat.not_lt.symm

/-- The state in which a carry finds the frame count: the still count at 0, the perf phase moved, a present interval count risen while the
motor is on. -/
def State.perforated (u : State) (p : Proj) (forward : Bool) : State :=
  { u with
    ch := u.ch.set p { u.ch[p] with still := 0 }
    tr := u.tr.set p { u.tr[p] with
      phase := movePhase u.ch[p].config.gauge.perfs u.tr[p].phase forward
      forward := forward
      interval := if u.tr[p].motor then u.tr[p].interval.map (fun n => min 15 (n + 1)) else u.tr[p].interval } }

theorem perforated_ch (u : State) (p : Proj) (forward : Bool) : (u.perforated p forward).ch[p] = { u.ch[p] with still := 0 } :=
  getElem_set_same _ _ _

theorem perforated_tr (u : State) (p : Proj) (forward : Bool) : (u.perforated p forward).tr[p] =
    { u.tr[p] with
      phase := movePhase u.ch[p].config.gauge.perfs u.tr[p].phase forward
      forward := forward
      interval := if u.tr[p].motor then u.tr[p].interval.map (fun n => min 15 (n + 1)) else u.tr[p].interval } :=
  getElem_set_same _ _ _

theorem perforated_others (u : State) (forward : Bool) {p q : Proj} (h : q ≠ p) :
    (u.perforated p forward).ch[q] = u.ch[q] ∧ (u.perforated p forward).tr[q] = u.tr[q] :=
  ⟨getElem_set_other _ _ h, getElem_set_other _ _ h⟩

theorem perforation_eq (u : State) (p : Proj) (forward : Bool) : u.perforation p forward =
    if (!u.tr[p].motor && isCarry u.ch[p].config.gauge.perfs u.tr[p].phase forward) = true then
      if (u.perforated p forward).tr[p].direction = true then (u.perforated p forward).frameUp p else (u.perforated p forward).frameDown p
    else u.perforated p forward := rfl

theorem perforation_of_no_carry {u : State} {p : Proj} {forward : Bool}
    (h : u.tr[p].motor = true ∨ ¬isCarry u.ch[p].config.gauge.perfs u.tr[p].phase forward = true) :
    u.perforation p forward = u.perforated p forward := by
  rw [perforation_eq, if_neg]
  rw [Bool.and_eq_true, Bool.not_eq_true']
  rintro ⟨hm, hc⟩
  rcases h with h | h
  · exact ne_true_of_eq_false hm h
  · exact h hc

/-- With the motor off a carry moves the frame count as DIR reads. -/
theorem perforation_of_carry {u : State} {p : Proj} {forward : Bool} (hm : u.tr[p].motor = false)
    (hc : isCarry u.ch[p].config.gauge.perfs u.tr[p].phase forward = true) :
    u.perforation p forward = if forward then (u.perforated p forward).frameUp p else (u.perforated p forward).frameDown p := by
  have hdir : (u.perforated p forward).tr[p].direction = forward := by
    unfold Tracker.direction
    rw [perforated_tr, hm]
    rfl
  rw [perforation_eq, hdir, hm, hc]
  rfl

/-- The frame count raised by one, before what the advance causes. -/
def State.raised (s : State) (p : Proj) : State := s.updTr p (fun t => { t with frame := t.frame + 1 })

theorem raised_tr (s : State) (p : Proj) : (s.raised p).tr[p] = { s.tr[p] with frame := s.tr[p].frame + 1 } := getElem_set_same _ _ _

/-- The frame count lowered by one, before what the retreat causes. -/
def State.lowered (s : State) (p : Proj) : State := s.updTr p (fun t => { t with frame := t.frame - 1 })

theorem lowered_tr (s : State) (p : Proj) : (s.lowered p).tr[p] = { s.tr[p] with frame := s.tr[p].frame - 1 } := getElem_set_same _ _ _

theorem frameUp_of_lt {s : State} {p : Proj} (h : s.tr[p].frame < 999999) :
    s.frameUp p = (s.raised p).frameAdvanced p (s.ahead p) := if_pos h

theorem frameUp_of_limit {s : State} {p : Proj} (h : ¬s.tr[p].frame < 999999) : s.frameUp p = s.pass (.proj p .counterLimit) := if_neg h

theorem frameDown_of_lt {s : State} {p : Proj} (h : -99999 < s.tr[p].frame) : s.frameDown p = (s.lowered p).frameRetreated p := if_pos h

theorem frameDown_of_limit {s : State} {p : Proj} (h : ¬-99999 < s.tr[p].frame) : s.frameDown p = s.pass (.proj p .counterLimit) :=
  if_neg h

/-! ### The POSITION notice (R65) -/

/-- A report due finds room, or its projector's own notice to replace. -/
theorem reportPosition_posts {s : State} {p : Proj} (hperiod : s.tr[p].period ≠ 0) (hmod : s.tr[p].frame % s.tr[p].period = 0)
    (h : s.line.queue.length < 16 ∨ ∃ n, Notice.position n ∈ s.line.queue ∧ n.projector = p) :
    .position ⟨p, s.tr[p].frame, s.tr[p].phase, s.tr[p].lock, s.field⟩ ∈ (s.reportPosition p).line.queue := by
  have hreport : s.reportPosition p = s.postPosition ⟨p, s.tr[p].frame, s.tr[p].phase, s.tr[p].lock, s.field⟩ := if_pos ⟨hperiod, hmod⟩
  rw [hreport]
  unfold State.postPosition
  split
  · rename_i hany
    obtain ⟨x, hx, hp⟩ := List.any_eq_true.1 hany
    exact List.mem_map.2 ⟨x, hx, if_pos hp⟩
  · rename_i hno
    have hroom : s.line.queue.length < 16 := h.resolve_right fun ⟨n, hn, hp⟩ =>
      hno (List.any_eq_true.2 ⟨_, hn, decide_eq_true hp⟩)
    rw [if_pos (show s.line.queue.length < Config.queueRoom from hroom)]
    exact List.mem_append_right _ List.mem_cons_self

theorem frameAdvanced_reports {s : State} {p : Proj} (before : Nat) (hperiod : s.tr[p].period ≠ 0)
    (hmod : s.tr[p].frame % s.tr[p].period = 0)
    (h : s.line.queue.length < 16 ∨ ∃ n, Notice.position n ∈ s.line.queue ∧ n.projector = p) :
    .position ⟨p, s.tr[p].frame, s.tr[p].phase, s.tr[p].lock, s.field⟩ ∈ (s.frameAdvanced p before).line.queue := by
  unfold State.frameAdvanced
  extract_lets detected s1 isMatch s2 s3 s4 s5
  have h1 : s1 = { s with det := s1.det } := by unfold s1; split <;> rfl
  have h2 : s2 = { s with det := s2.det } := by
    unfold s2
    split
    · rw [h1]; rfl
    · exact h1
  have hposted : .position ⟨p, s.tr[p].frame, s.tr[p].phase, s.tr[p].lock, s.field⟩ ∈ (s2.reportPosition p).line.queue := by
    rw [h2]
    exact reportPosition_posts (s := { s with det := s2.det }) hperiod hmod h
  have h3 : Front (s2.reportPosition p) s3 := ((missMarks_front _ p).trans (reachPass_front _ p)).trans (lowTest_front _ p _)
  have h4 : Front s3 s4 := takeWaiting_front s3 p
  have h5 : Front s4 s5 := .ite (handMatch_front s4 p _) (.refl s4)
  exact (((h3.trans h4).trans h5).trans (tailoutOf_front s5 p)).mem hposted

theorem frameRetreated_reports {s : State} {p : Proj} (hperiod : s.tr[p].period ≠ 0) (hmod : s.tr[p].frame % s.tr[p].period = 0)
    (h : s.line.queue.length < 16 ∨ ∃ n, Notice.position n ∈ s.line.queue ∧ n.projector = p) :
    .position ⟨p, s.tr[p].frame, s.tr[p].phase, s.tr[p].lock, s.field⟩ ∈ (s.frameRetreated p).line.queue :=
  reportPosition_posts (s := s.updDet p Detector.cleared) hperiod hmod h

/-- A retreat empties the detector and touches no list (R68). -/
theorem frameRetreated_film (s : State) (p : Proj) :
    let t := s.frameRetreated p
    t.ch = s.ch ∧ t.tr = s.tr ∧ t.det = s.det.set p { s.det[p] with history := [], latch := false } ∧ t.cues = s.cues := by
  obtain ⟨hch, htr, hdet, hcues, -⟩ := reportPosition_film (s.updDet p Detector.cleared) p
  exact ⟨hch, htr, hdet, hcues⟩

end Sys2Proof.Machine
end

section
/-! The detector and the list of a projector that does not run, over a frame advance (R68 to R73). -/

namespace Sys2Proof.Machine
open Sys2Proof.Claims

/-! ### The passes over the list (R65, R71, R123) -/

section Swept
variable {s : State} {p : Proj} (before : Nat)

theorem swept_film (h : s.ch[p].running = false) :
    let t := s.swept p before
    t.ch = s.ch ∧ t.tr = s.tr ∧ t.det = s.det ∧ t.pins = s.pins ∧ t.field = s.field
      ∧ t.cues.lists = s.cues.lists.set p t.cues.lists[p] := by
  intro t
  have hc : Culled p (s.reportPosition p) t := swept_culled s p before h
  obtain ⟨hch, htr, hdet, hcues, hpins, -, -, htb, -⟩ := reportPosition_film s p
  refine ⟨hc.ch.trans hch, hc.tr.trans htr, hc.det.trans hdet, hc.pins.trans hpins, hc.field.trans ?_, ?_⟩
  · unfold State.field
    rw [htb]
  · rw [← hcues]
    exact hc.lists

/-- With no entry to miss only the report and the watermark test are made. -/
theorem swept_of_none (h : ∀ e ∈ s.cues.lists[p], e.markPassed s.tr[p].frame = false) :
    s.swept p before = (s.reportPosition p).lowTest p before := by
  obtain ⟨-, htr, -, hcues, -⟩ := reportPosition_film s p
  unfold State.swept
  rw [missMarks_of_none _ p (by rw [hcues, htr]; exact h)]

theorem swept_of_rest (h : s.ch[p].sampling = false) : s.swept p before = (s.reportPosition p).lowTest p before := by
  have hs : (s.reportPosition p).missMarks p = s.reportPosition p :=
    if_neg (by rw [(reportPosition_film s p).1]; exact ne_true_of_eq_false h)
  unfold State.swept
  rw [hs]

theorem lowTest_cues (s : State) (p : Proj) (before : Nat) : (s.lowTest p before).cues = s.cues := (passIf_notified _ _ _).cues

theorem reportedLow_cues (s : State) (p : Proj) : ((s.reportPosition p).lowTest p before).cues = s.cues := by
  rw [lowTest_cues]
  exact (reportPosition_film s p).2.2.2.1

theorem reportPosition_length (s : State) (p : Proj) : (s.reportPosition p).line.queue.length ≤ s.line.queue.length + 1 := by
  have hpost (n : PosNotice) : (s.postPosition n).line.queue.length ≤ s.line.queue.length + 1 := by
    unfold State.postPosition
    split
    · exact Nat.le_trans (Nat.le_of_eq (List.length_map _)) (Nat.le_succ _)
    · split
      · exact Nat.le_of_eq List.length_append
      · exact Nat.le_succ _
  unfold State.reportPosition
  extract_lets t
  split
  · exact hpost _
  · exact Nat.le_succ _

theorem lowTest_length (s : State) (p : Proj) (before : Nat) : (s.lowTest p before).line.queue.length ≤ s.line.queue.length + 1 := by
  unfold State.lowTest State.passIf
  extract_lets w
  split
  · exact pass_queue_length s _
  · exact Nat.le_succ _

theorem reportedLow_length (s : State) (p : Proj) : ((s.reportPosition p).lowTest p before).line.queue.length ≤ s.line.queue.length + 2 :=
  Nat.le_trans (lowTest_length _ p before) (Nat.add_le_add_right (reportPosition_length s p) 1)

/-- The MARK entries passed leave the list for the pool, and latch MARK_MISSING (R71, R107). -/
theorem swept_missing (h : s.ch[p].running = false) (hs : s.ch[p].sampling = true) (hn : Numbered s.cues.lists[p]) :
    let t := s.swept p before
    t.cues.lists[p] = s.cues.lists[p].filter (fun e => !passedMark e s.tr[p].frame)
      ∧ t.cues.free = s.cues.free + s.cues.lists[p].countP (fun e => passedMark e s.tr[p].frame)
      ∧ ((∃ e ∈ s.cues.lists[p], passedMark e s.tr[p].frame = true) → Latched t (.proj p .markMissing)) := by
  obtain ⟨hch, htr, -, hcues, -⟩ := reportPosition_film s p
  obtain ⟨hpass, -, -, -, hlatch⟩ := missMarks_passing (s.reportPosition p) p (by rw [hcues]; exact hn) (by rw [hch]; exact hs)
  have hc : Culled p (s.reportPosition p) ((s.reportPosition p).missMarks p) := missMarks_culled _ p (by rw [hch]; exact h)
  have hlist := hpass.done
  have hpool := hc.pool
  rw [hcues, htr] at hlist hlatch
  rw [hcues] at hpool
  have hlow : (s.swept p before).cues = ((s.reportPosition p).missMarks p).cues := lowTest_cues _ p before
  simp only [passedMark_eq]
  rw [hlow]
  refine ⟨hlist, ?_, fun hm => (passIf_notified _ _ _).latched _ (hlatch hm)⟩
  rw [hlist, ← List.countP_eq_length_filter] at hpool
  have hsplit := List.length_eq_length_filter_add (l := s.cues.lists[p]) (fun e => e.markPassed s.tr[p].frame)
  rw [← List.countP_eq_length_filter, ← List.countP_eq_length_filter] at hsplit
  omega

end Swept

/-! ### One consumption (R116) -/

theorem consume_of_rest (s : State) (p : Proj) (e : CueEntry) (o : CueOutcome) (v : Int) : s.consume p e o v false =
    (s.removeCue p e.number).post (.cue ⟨p, e.number, e.kind.tag, e.pos, o, v, s.field, s.tr[p].frame⟩) := by
  unfold State.consume
  extract_lets isAuto s1 s2
  exact if_neg (by rw [Bool.and_false]; exact Bool.false_ne_true)

theorem consume_posts {s : State} (h : s.line.queue.length < 16) (p : Proj) (e : CueEntry) (o : CueOutcome) (v : Int) :
    .cue ⟨p, e.number, e.kind.tag, e.pos, o, v, s.field, s.tr[p].frame⟩ ∈ (s.consume p e o v false).line.queue := by
  have hroom : (s.removeCue p e.number).line.queue.length < 16 := by rw [removeCue_eq]; exact h
  rw [consume_of_rest, post_of_room _ _ hroom]
  exact List.mem_append_right _ List.mem_cons_self

/-- The only entry of a list leaves it empty. -/
theorem removeCue_only {s : State} {p : Proj} {e : CueEntry} (h : s.cues.lists[p] = [e]) :
    (s.removeCue p e.number).cues = { s.cues with lists := s.cues.lists.set p [], free := s.cues.free + 1 } := by
  have hany : [e].any (fun x => x.number = e.number) = true := by simp
  have hgone : [e].eraseP (fun x => x.number = e.number) = [] := by simp
  unfold State.removeCue
  rw [h, if_pos hany]
  unfold State.setCues
  rw [hgone]

/-! ### The sample (R68, R69) -/

theorem sample_eq (d : Detector) (cue : Bool) : d.sample cue = { d with history := sampled d.history d.latch, latch := cue } := by
  unfold Detector.sample pushSample sampled
  rw [List.drop_one]

theorem matched_sample_iff (d : Detector) (cue : Bool) : (d.sample cue).matched = true ↔ Completes d (sampled d.history d.latch) := by
  rw [sample_eq]
  unfold Detector.matched Completes
  rw [Bool.and_eq_true, decide_eq_true_eq, decide_eq_true_eq]

/-- The only entry of a list is missed. -/
theorem missMarks_only {s : State} {p : Proj} {e : CueEntry} (hr : s.ch[p].running = false) (hs : s.ch[p].sampling = true)
    (hl : s.cues.lists[p] = [e]) (hp : e.markPassed s.tr[p].frame = true) :
    s.missMarks p = (s.consume p e .missing 0 false).pass (.proj p .markMissing) := by
  have hfilter : s.cues.lists[p].filter (fun e => e.markPassed s.tr[p].frame) = [e] := by
    rw [hl]
    exact List.filter_cons_of_pos hp
  unfold State.missMarks
  rw [if_pos hs, hfilter, ← hr]
  rfl

/-- The passes over a list whose only entry is missed. -/
theorem swept_only {s : State} {p : Proj} {e : CueEntry} (before : Nat) (hr : s.ch[p].running = false) (hs : s.ch[p].sampling = true)
    (hl : s.cues.lists[p] = [e]) (hp : passedMark e s.tr[p].frame = true) (hk : e.kind.tag = .mark) :
    let t := s.swept p before
    t.cues = { s.cues with lists := s.cues.lists.set p [], free := s.cues.free + 1 } ∧ Latched t (.proj p .markMissing)
      ∧ (s.line.queue.length ≤ 13 → .cue ⟨p, e.number, .mark, e.pos, .missing, 0, s.field, s.tr[p].frame⟩ ∈ t.line.queue) := by
  obtain ⟨hch, htr, -, hcues, -, -, -, htb, -⟩ := reportPosition_film s p
  have hlen := reportPosition_length s p
  unfold State.swept
  generalize s.reportPosition p = x at hch htr hcues htb hlen ⊢
  have hxl : x.cues.lists[p] = [e] := by rw [hcues]; exact hl
  rw [missMarks_only (by rw [hch]; exact hr) (by rw [hch]; exact hs) hxl (by rw [htr, ← passedMark_eq]; exact hp)]
  have hcons := (consume_culled x p e .missing 0).2
  have hpass := pass_notified (x.consume p e .missing 0 false) (.proj p .markMissing)
  have hlatch := pass_latches (x.consume p e .missing 0 false) (.proj p .markMissing)
  generalize (x.consume p e .missing 0 false).pass (.proj p .markMissing) = y at hpass hlatch ⊢
  have hlow : Notified y (y.lowTest p before) := passIf_notified y _ _
  refine ⟨?_, hlow.latched _ hlatch, fun hq => hlow.front.mem (hpass.front.mem ?_)⟩
  · rw [lowTest_cues, hpass.cues, hcons, removeCue_only hxl, hcues]
  · have h := consume_posts (s := x) (by omega) p e .missing 0
    rw [hk, htr, State.field, htb] at h
    exact h

/-! ### A frame advance in INCH or COAST (R63) -/

section Sampling
variable {s : State} {p : Proj} (before : Nat) (hr : s.ch[p].running = false) (hs : s.ch[p].sampling = true)
include hr hs

/-- No signature is completed: the sample joins the history, and the MARK entries passed are missed. -/
theorem frameAdvanced_samples (hm : ¬Completes s.det[p] (sampled s.det[p].history s.det[p].latch)) (hf : s.det[p].found = none)
    (hn : Numbered s.cues.lists[p]) :
    let t := s.frameAdvanced p before
    t.tr = s.tr
      ∧ t.det = s.det.set p { s.det[p] with history := sampled s.det[p].history s.det[p].latch, latch := s.pins.proj[p].cue }
      ∧ t.cues.lists = s.cues.lists.set p (s.cues.lists[p].filter (fun e => !passedMark e s.tr[p].frame))
      ∧ t.cues.free = s.cues.free + s.cues.lists[p].countP (fun e => passedMark e s.tr[p].frame)
      ∧ ((∃ e ∈ s.cues.lists[p], passedMark e s.tr[p].frame = true) → Latched t (.proj p .markMissing)) := by
  let x := s.updDet p fun d => d.sample s.pins.proj[p].cue
  obtain ⟨hch, htr, hdet, -, -, hlists⟩ := swept_film (s := x) before hr
  obtain ⟨hlist, hfree, hlatch⟩ := swept_missing (s := x) before hr hs hn
  have hadv := frameAdvanced_of_unmatched s p before hs hr (Bool.eq_false_iff.2 (mt (matched_sample_iff _ _).1 hm))
  have hfound : (x.swept p before).det[p].found = none := by
    rw [hdet]
    exact (congrArg Detector.found (getElem_set_same s.det p _)).trans hf
  have ht := tailoutOf_rested (x.swept p before) p (by rw [hch]; exact hr)
  intro t
  have heq : t = (x.swept p before).tailoutOf p := by
    show s.frameAdvanced p before = _
    rw [hadv, takeWaiting_of_none _ p hfound]
  rw [hlist] at hlists
  rw [heq, ht.tr, ht.det, ht.cues, htr, hdet, ← sample_eq]
  exact ⟨rfl, rfl, hlists, hfree, fun hp => ht.latched _ (hlatch hp)⟩

section Completed
variable (hm : Completes s.det[p] (sampled s.det[p].history s.det[p].latch)) (hf : s.det[p].found = none)
include hm hf

/-- A signature is completed: what the frame advance hands the match to. -/
theorem frameAdvanced_completes :
    ∃ w : State, w.ch = s.ch ∧ w.tr = s.tr
      ∧ w.det = s.det.set p { s.det[p] with history := [], latch := s.pins.proj[p].cue } ∧ w.pins = s.pins ∧ w.field = s.field
      ∧ s.frameAdvanced p before = (w.handMatch p s.tr[p].frame).tailoutOf p
      ∧ ((∀ e ∈ s.cues.lists[p], passedMark e s.tr[p].frame = false) →
          w.cues = s.cues ∧ w.line.queue.length ≤ s.line.queue.length + 2) := by
  let x := s.updDet p fun d => (d.sample s.pins.proj[p].cue).emptied
  obtain ⟨hch, htr, hdet, hpins, hfield, -⟩ := swept_film (s := x) before hr
  have hadv := frameAdvanced_of_matched s p before hs hr ((matched_sample_iff _ _).2 hm)
  have hfound : (x.swept p before).det[p].found = none := by
    rw [hdet]
    exact (congrArg Detector.found (getElem_set_same s.det p _)).trans hf
  refine ⟨x.swept p before, hch, htr, hdet, hpins, hfield, ?_, fun hnone => ?_⟩
  · rw [hadv, takeWaiting_of_none _ p hfound]
  · rw [swept_of_none (s := x) before fun e he => (passedMark_eq e _).symm.trans (hnone e he)]
    exact ⟨reportedLow_cues before x p, reportedLow_length before x p⟩

/-- A late match waits (assumption 26). -/
theorem frameAdvanced_waits (hlate : p ∈ s.pins.late) :
    let t := s.frameAdvanced p before
    t.tr = s.tr
      ∧ t.det = s.det.set p { s.det[p] with history := [], latch := s.pins.proj[p].cue, found := some s.tr[p].frame } := by
  obtain ⟨w, hch, htr, hdet, hpins, -, hadv, -⟩ := frameAdvanced_completes before hr hs hm hf
  intro t
  have hhand : w.handMatch p s.tr[p].frame = w.updDet p fun d => { d with found := some s.tr[p].frame } :=
    if_pos (by rw [hpins]; exact hlate)
  have ht := tailoutOf_rested (w.handMatch p s.tr[p].frame) p (by rw [hhand]; show w.ch[p].running = false; rw [hch]; exact hr)
  rw [show t = _ from hadv, ht.tr, ht.det, hhand]
  refine ⟨htr, ?_⟩
  show w.det.set p { w.det[p] with found := some s.tr[p].frame } = _
  rw [hdet, getElem_set_same, Vector.set_set]

variable (hlate : p ∉ s.pins.late) (hnone : ∀ e ∈ s.cues.lists[p], passedMark e s.tr[p].frame = false)
include hlate hnone

/-- A match with no open entry is stray (R72). -/
theorem frameAdvanced_strays (hno : ∀ e ∈ s.cues.lists[p], ¬OpenAt e s.tr[p].frame) :
    let t := s.frameAdvanced p before
    t.tr[p] = { s.tr[p] with strayMarks := min 65535 (s.tr[p].strayMarks + 1) }
      ∧ t.det = s.det.set p { s.det[p] with history := [], latch := s.pins.proj[p].cue } ∧ t.cues = s.cues
      ∧ (inQuiet s.tr[p].quiet s.tr[p].frame = false → Latched t (.proj p .strayMark)) := by
  obtain ⟨w, hch, htr, hdet, hpins, -, hadv, hrest⟩ := frameAdvanced_completes before hr hs hm hf
  obtain ⟨hcues, -⟩ := hrest hnone
  intro t
  let y := w.updTr p fun t => { t with strayMarks := satInc Config.countMax t.strayMarks }
  have hy : y.tr[p] = { s.tr[p] with strayMarks := min 65535 (s.tr[p].strayMarks + 1) } := by
    show (w.tr.set p _)[p] = _
    rw [getElem_set_same, htr]
    rfl
  have hhand : w.handMatch p s.tr[p].frame = y.passUnlessQuiet p .strayMark := by
    unfold State.handMatch
    rw [if_neg (by rw [hpins]; exact hlate), takeMatch_of_stray w p _ (by rw [hcues]; exact hno)]
  have hn := passUnlessQuiet_notified y p .strayMark
  have ht := tailoutOf_rested (y.passUnlessQuiet p .strayMark) p (by rw [hn.ch]; show w.ch[p].running = false; rw [hch]; exact hr)
  rw [show t = _ from hadv, hhand, ht.tr, ht.det, ht.cues, hn.tr, hn.det, hn.cues]
  refine ⟨hy, hdet, hcues, fun hq => ht.latched _ (passIf_latches ?_ y _)⟩
  rw [hy]
  exact congrArg not hq

/-- A match with its open entry consumes it and brings the frame count to its position (R70, R73). -/
theorem frameAdvanced_matches {e : CueEntry} (hl : s.cues.lists[p] = [e]) (ho : OpenAt e s.tr[p].frame) (he : e.pos ≤ 999999) :
    let t := s.frameAdvanced p before
    t.tr[p].frame = e.pos ∧ t.tr[p].corrections = min 65535 (s.tr[p].corrections + 1)
      ∧ t.det = s.det.set p { s.det[p] with history := [], latch := s.pins.proj[p].cue }
      ∧ t.cues = { s.cues with lists := s.cues.lists.set p [], free := s.cues.free + 1 }
      ∧ (s.line.queue.length ≤ 13 →
          .cue ⟨p, e.number, .mark, e.pos, .matched, e.pos - s.tr[p].frame, s.field, s.tr[p].frame⟩ ∈ t.line.queue) := by
  obtain ⟨w, hch, htr, hdet, hpins, hfield, hadv, hrest⟩ := frameAdvanced_completes before hr hs hm hf
  obtain ⟨hcues, hlen⟩ := hrest hnone
  have ⟨_, hkind, _⟩ := ho
  intro t
  let c : Int := e.pos - s.tr[p].frame
  have hrun : w.ch[p].running = false := by rw [hch]; exact hr
  obtain ⟨hcull, hgone⟩ := consume_culled w p e .matched c
  have hxcues : ((w.consume p e .matched c false).lowTest p (w.ahead p)).cues
      = { s.cues with lists := s.cues.lists.set p [], free := s.cues.free + 1 } := by
    rw [lowTest_cues, hgone, removeCue_only (by rw [hcues]; exact hl), hcues]
  have hx : Culled p w ((w.consume p e .matched c false).lowTest p (w.ahead p)) := hcull.trans (lowTest_culled _ p _)
  have hfront := lowTest_front (w.consume p e .matched c false) p (w.ahead p)
  have hhand : w.handMatch p s.tr[p].frame = ((w.consume p e .matched c false).lowTest p (w.ahead p)).applyCorrection p c := by
    unfold State.handMatch
    rw [if_neg (by rw [hpins]; exact hlate), takeMatch_of_open w p _ e (by rw [hcues]; exact hl) ho, hrun]
  generalize (w.consume p e .matched c false).lowTest p (w.ahead p) = x at hxcues hx hfront hhand
  have happly := applyCorrection_rested x p c (by rw [hx.ch]; exact hrun)
  have ht := happly.trans (tailoutOf_rested _ p happly.running)
  have hteq : t = (x.applyCorrection p c).tailoutOf p := by rw [show t = _ from hadv, hhand]
  have htrp : t.tr[p] = s.tr[p].corrected c := by
    rw [hteq, ht.tr]
    show (x.tr.set p (x.tr[p].corrected c))[p] = _
    rw [getElem_set_same, hx.tr, htr]
  refine ⟨?_, by rw [htrp]; rfl, ?_, ?_, fun hq => ?_⟩
  · have hframe : t.tr[p].frame = clampFrame (s.tr[p].frame + c) := congrArg Tracker.frame htrp
    have hpos : s.tr[p].frame + c = e.pos := add_sub_cancel _ _
    rw [hframe, hpos]
    unfold clampFrame Config.frameMin Config.frameMax
    omega
  · rw [hteq, ht.det]
    exact hx.det.trans hdet
  · rw [hteq, ht.cues]
    exact hxcues
  · have hposted := consume_posts (s := w) (by omega) p e .matched c
    rw [hkind, hfield, htr] at hposted
    rw [hteq]
    exact ht.front.mem (hfront.mem hposted)

end Completed

/-- A match that waits until its entry's window is passed finds the entry missed and is stray (R71, R72). -/
theorem frameAdvanced_misses {e : CueEntry} {f : Int} (hm : ¬Completes s.det[p] (sampled s.det[p].history s.det[p].latch))
    (hf : s.det[p].found = some f) (hl : s.cues.lists[p] = [e]) (hp : passedMark e s.tr[p].frame = true) (hk : e.kind.tag = .mark) :
    let t := s.frameAdvanced p before
    t.tr[p] = { s.tr[p] with strayMarks := min 65535 (s.tr[p].strayMarks + 1) } ∧ t.cues.lists = s.cues.lists.set p []
      ∧ t.det = s.det.set p
          { s.det[p] with history := sampled s.det[p].history s.det[p].latch, latch := s.pins.proj[p].cue, found := none }
      ∧ Latched t (.proj p .markMissing)
      ∧ (s.line.queue.length ≤ 13 →
          .cue ⟨p, e.number, .mark, e.pos, .missing, 0, s.field, s.tr[p].frame⟩ ∈ t.line.queue) := by
  let x := s.updDet p fun d => d.sample s.pins.proj[p].cue
  have hadv := frameAdvanced_of_unmatched s p before hs hr (Bool.eq_false_iff.2 (mt (matched_sample_iff _ _).1 hm))
  obtain ⟨hch, htr, hdet, -, -, -⟩ := swept_film (s := x) before hr
  obtain ⟨hcues, hlatched, hposted⟩ := swept_only (s := x) before hr hs hl hp hk
  have hfound : (x.swept p before).det[p].found = some f := by
    rw [hdet]
    exact (congrArg Detector.found (getElem_set_same s.det p _)).trans hf
  have hdet' : (x.swept p before).det = s.det.set p
      { s.det[p] with history := sampled s.det[p].history s.det[p].latch, latch := s.pins.proj[p].cue } := by
    rw [hdet, ← sample_eq]
    rfl
  have hrun : (x.swept p before).ch[p].running = false := by rw [hch]; exact hr
  have htr' : (x.swept p before).tr = s.tr := htr
  have hcues' : (x.swept p before).cues = { s.cues with lists := s.cues.lists.set p [], free := s.cues.free + 1 } := hcues
  generalize x.swept p before = w at hadv hcues' hlatched hposted hfound hdet' hrun htr'
  let y := (w.updDet p fun d => { d with found := none }).updTr p fun t => { t with strayMarks := satInc Config.countMax t.strayMarks }
  have hnil : w.cues.lists[p] = [] := by rw [hcues']; exact getElem_set_same _ _ _
  have hy : y.tr[p] = { s.tr[p] with strayMarks := min 65535 (s.tr[p].strayMarks + 1) } := by
    show (w.tr.set p { w.tr[p] with strayMarks := satInc Config.countMax w.tr[p].strayMarks })[p] = _
    rw [getElem_set_same, htr']
    rfl
  have htake : w.takeWaiting p = y.passUnlessQuiet p .strayMark := by
    unfold State.takeWaiting
    rw [hfound]
    exact takeMatch_of_stray (w.updDet p fun d => { d with found := none }) p f
      fun e he => absurd (show e ∈ w.cues.lists[p] from he) (by rw [hnil]; exact List.not_mem_nil)
  have hn := passUnlessQuiet_notified y p .strayMark
  have ht := tailoutOf_rested (y.passUnlessQuiet p .strayMark) p (by rw [hn.ch]; exact hrun)
  intro t
  have hteq : t = (y.passUnlessQuiet p .strayMark).tailoutOf p := by rw [show t = _ from hadv, htake]
  rw [hteq, ht.tr, ht.det, ht.cues, hn.tr, hn.det, hn.cues]
  refine ⟨hy, ?_, ?_, ht.latched _ (hn.latched _ hlatched), fun hq => ht.front.mem (hn.front.mem (hposted hq))⟩
  · show w.cues.lists = _
    rw [hcues']
  · show w.det.set p _ = _
    rw [hdet', getElem_set_same, Vector.set_set]

end Sampling

end Sys2Proof.Machine
end

section
/-! The carry of a perforation at rest, in reverse and in INCH or COAST (R46, R47, R63, R65, R68 to R73). -/

namespace Sys2Proof.Machine
open Sys2Proof.Claims

/-! ### A frame advance at rest (R47, R63) -/

theorem rests_of_atRest {c : Channel} (h : AtRest c) : c.Rests := by
  unfold Channel.Rests Channel.running
  rcases h with h | h | h | h <;> rw [h] <;> decide

theorem sampling_of_atRest {c : Channel} (h : AtRest c) : c.sampling = false := by
  unfold Channel.sampling
  rcases h with h | h | h | h <;> rw [h] <;> decide

/-- A match moves no perf phase. -/
theorem takeMatch_phase {s : State} {p : Proj} (hr : s.ch[p].running = false) (d : Int) :
    (s.takeMatch p d).tr[p].phase = s.tr[p].phase := by
  unfold State.takeMatch
  split
  · rename_i e _
    rw [hr]
    have hx : Culled p s ((s.consume p e .matched (e.pos - d) false).lowTest p (s.ahead p)) :=
      (consume_culled s p e .matched _).1.trans (lowTest_culled _ p _)
    have h := applyCorrection_rested _ p (e.pos - d) (by rw [hx.ch]; exact hr)
    have htr : (((s.consume p e .matched (e.pos - d) false).lowTest p (s.ahead p)).applyCorrection p (e.pos - d)).tr[p]
        = s.tr[p].corrected (e.pos - d) := by
      rw [h.tr, ← hx.tr]
      exact getElem_set_same _ _ _
    exact (congrArg Tracker.phase htr).trans rfl
  · rw [(passUnlessQuiet_notified _ _ _).tr]
    exact (congrArg Tracker.phase (getElem_set_same s.tr p _)).trans rfl

theorem takeWaiting_phase {s : State} {p : Proj} (hr : s.ch[p].running = false) : (s.takeWaiting p).tr[p].phase = s.tr[p].phase := by
  unfold State.takeWaiting
  split
  · rfl
  · exact takeMatch_phase (s := s.updDet p fun d => { d with found := none }) hr _

theorem frameAdvanced_atRest {s : State} {p : Proj} (before : Nat) (h : AtRest s.ch[p]) :
    let t := s.frameAdvanced p before
    t.ch = s.ch ∧ t.tr[p].phase = s.tr[p].phase ∧ (s.det[p].found = none → t.tr = s.tr ∧ t.det = s.det ∧ t.cues = s.cues) := by
  have hr := rests_of_atRest h
  have hs := sampling_of_atRest h
  obtain ⟨hch, htr, hdet, -⟩ := swept_film (s := s) before hr.1
  have hcues : (s.swept p before).cues = s.cues := by
    rw [swept_of_rest before hs]
    exact reportedLow_cues before s p
  have hrun : (s.swept p before).ch[p].running = false := by rw [hch]; exact hr.1
  have hwch : ((s.swept p before).takeWaiting p).ch = s.ch := (takeWaiting_ch _ p (by rw [hch]; exact hr)).trans hch
  have ht := tailoutOf_rested ((s.swept p before).takeWaiting p) p (by rw [hwch]; exact hr.1)
  have heq := frameAdvanced_of_rest s p before hs hr.1
  refine ⟨frameAdvanced_ch s p hr before, ?_, fun hf => ?_⟩
  · rw [heq, ht.tr, takeWaiting_phase hrun, htr]
  · have hwait := takeWaiting_of_none (s.swept p before) p (by rw [hdet]; exact hf)
    rw [hwait] at ht heq
    rw [heq, ht.tr, ht.det, ht.cues]
    exact ⟨htr, hdet, hcues⟩

/-- What a carry leaves of the other projectors. -/
theorem perforation_others (u : State) (forward : Bool) {p q : Proj} (hq : q ≠ p) :
    let t := u.perforation p forward
    t.ch[q] = u.ch[q] ∧ t.det[q] = u.det[q] ∧ t.tr[q] = u.tr[q] ∧ t.cues.lists[q] = u.cues.lists[q] := by
  obtain ⟨hch, htr⟩ := perforated_others u forward hq
  have hs : Steady (.of p) (u.perforated p forward) (u.perforation p forward) := by
    rw [perforation_eq]
    exact ite_steady (fun _ => ite_steady (fun _ => frameUp_steady _ (of_has p)) (fun _ => frameDown_steady _ (of_has p)))
      (fun _ => Steady.refl _)
  obtain ⟨h1, h2, h3, h4⟩ := hs.others q hq
  exact ⟨h1.trans hch, h3, h2.trans htr, h4⟩

theorem perforation_lists (u : State) (p : Proj) (forward : Bool) :
    (u.perforation p forward).cues.lists = u.cues.lists.set p (u.perforation p forward).cues.lists[p] := by
  refine vector_ext fun q => ?_
  by_cases hq : q = p
  · rw [hq, getElem_set_same]
  · rw [getElem_set_other _ _ hq]
    exact (perforation_others u forward hq).2.2.2

/-! ### The carry itself (R46) -/

section Carry
variable {u : State} {p : Proj}

/-- A carry below the upper limit. -/
theorem perforation_up (hm : u.tr[p].motor = false) (hc : isCarry u.ch[p].config.gauge.perfs u.tr[p].phase true = true)
    (hf : u.tr[p].frame < 999999) : u.perforation p true =
      ((u.perforated p true).raised p).frameAdvanced p ((u.perforated p true).ahead p) := by
  rw [perforation_of_carry hm hc, if_pos rfl, frameUp_of_lt (by rw [perforated_tr]; exact hf)]

/-- A carry above the lower limit. -/
theorem perforation_down (hm : u.tr[p].motor = false) (hc : isCarry u.ch[p].config.gauge.perfs u.tr[p].phase false = true)
    (hf : -99999 < u.tr[p].frame) : u.perforation p false = ((u.perforated p false).lowered p).frameRetreated p := by
  rw [perforation_of_carry hm hc, if_neg Bool.false_ne_true, frameDown_of_lt (by rw [perforated_tr]; exact hf)]

/-- A carry at the limit is held. -/
theorem perforation_held {forward : Bool} (hm : u.tr[p].motor = false)
    (hc : isCarry u.ch[p].config.gauge.perfs u.tr[p].phase forward = true)
    (hf : ¬if forward then u.tr[p].frame < 999999 else -99999 < u.tr[p].frame) :
    u.perforation p forward = (u.perforated p forward).pass (.proj p .counterLimit) := by
  have hframe : (u.perforated p forward).tr[p].frame = u.tr[p].frame := by rw [perforated_tr]
  rw [perforation_of_carry hm hc]
  cases forward with
  | false => exact frameDown_of_limit (by rw [hframe]; exact hf)
  | true => exact frameUp_of_limit (by rw [hframe]; exact hf)

/-- The tracker with which a frame advance begins. -/
theorem raised_perforated_tr (u : State) (p : Proj) : ((u.perforated p true).raised p).tr[p] =
    { (u.perforated p true).tr[p] with frame := u.tr[p].frame + 1 } := by
  rw [raised_tr, perforated_tr]

theorem lowered_perforated_tr (u : State) (p : Proj) : ((u.perforated p false).lowered p).tr[p] =
    { (u.perforated p false).tr[p] with frame := u.tr[p].frame - 1 } := by
  rw [lowered_tr, perforated_tr]

end Carry

/-! ### The clauses -/

theorem sampling_of_inch_or_coast {c : Channel} (h : c.state = .inch ∨ c.state = .coast) : c.running = false ∧ c.sampling = true := by
  unfold Channel.running Channel.sampling
  rcases h with h | h <;> rw [h] <;> decide

section Clauses
variable {u : State} {p : Proj} {forward : Bool} (hm : u.tr[p].motor = false)
  (hc : isCarry u.ch[p].config.gauge.perfs u.tr[p].phase forward = true)
include hm hc

/-- A carry at rest moves no channel and no perf phase but its own, and without a waiting match only the frame count. -/
theorem perforation_atRest (h : AtRest u.ch[p]) :
    let v := u.perforated p forward
    let t := u.perforation p forward
    t.ch = v.ch ∧ t.tr[p].phase = v.tr[p].phase
      ∧ ((if forward then u.tr[p].frame < 999999 else -99999 < u.tr[p].frame) → u.det[p].found = none →
          t.tr[p].frame = (if forward then u.tr[p].frame + 1 else u.tr[p].frame - 1)
          ∧ (forward = true → t.det = u.det ∧ t.cues = u.cues)) := by
  intro v t
  by_cases hf : if forward then u.tr[p].frame < 999999 else -99999 < u.tr[p].frame
  swap
  · have hn := pass_notified v (.proj p .counterLimit)
    rw [show t = _ from perforation_held hm hc hf]
    exact ⟨hn.ch, by rw [hn.tr], fun hmove => absurd hmove hf⟩
  cases forward with
  | false =>
    obtain ⟨hch, htr, -⟩ := frameRetreated_film (v.lowered p) p
    have hlow : (v.lowered p).tr[p] = { v.tr[p] with frame := u.tr[p].frame - 1 } := lowered_perforated_tr u p
    rw [show t = _ from perforation_down hm hc hf, hch, htr, hlow]
    exact ⟨rfl, rfl, fun _ _ => ⟨rfl, fun hno => absurd hno Bool.false_ne_true⟩⟩
  | true =>
    have hrest : AtRest (v.raised p).ch[p] := by
      show AtRest v.ch[p]
      rw [show v.ch[p] = _ from perforated_ch u p true]
      exact h
    have hraised : (v.raised p).tr[p] = { v.tr[p] with frame := u.tr[p].frame + 1 } := raised_perforated_tr u p
    obtain ⟨hch, hphase, hfilm⟩ := frameAdvanced_atRest (v.ahead p) hrest
    rw [show t = _ from perforation_up hm hc hf]
    refine ⟨hch, hphase.trans (by rw [hraised]), fun _ hfound => ?_⟩
    obtain ⟨htr, hdet, hcues⟩ := hfilm hfound
    exact ⟨by rw [htr, hraised]; rfl, fun _ => ⟨hdet, hcues⟩⟩

/-- A carry whose frame count the report period divides posts the POSITION notice (R63, R65). -/
theorem perforation_reports (hf : if forward then u.tr[p].frame < 999999 else -99999 < u.tr[p].frame) (hperiod : u.tr[p].period ≠ 0)
    (hmod : (if forward then u.tr[p].frame + 1 else u.tr[p].frame - 1) % u.tr[p].period = 0)
    (hroom : u.line.queue.length < 16 ∨ ∃ n, Notice.position n ∈ u.line.queue ∧ n.projector = p) :
    .position ⟨p, if forward then u.tr[p].frame + 1 else u.tr[p].frame - 1,
      movePhase u.ch[p].config.gauge.perfs u.tr[p].phase forward, u.tr[p].lock, u.tb.field⟩ ∈ (u.perforation p forward).line.queue := by
  have hvtr := perforated_tr u p forward
  cases forward with
  | false =>
    have hlow := lowered_perforated_tr u p
    rw [hvtr] at hlow
    have h := frameRetreated_reports (s := (u.perforated p false).lowered p) (p := p) (by rw [hlow]; exact hperiod)
      (by rw [hlow]; exact hmod) hroom
    rw [hlow] at h
    rw [perforation_down hm hc hf]
    exact h
  | true =>
    have hraised := raised_perforated_tr u p
    rw [hvtr] at hraised
    have h := frameAdvanced_reports (s := (u.perforated p true).raised p) ((u.perforated p true).ahead p) (by rw [hraised]; exact hperiod)
      (by rw [hraised]; exact hmod) hroom
    rw [hraised] at h
    rw [perforation_up hm hc hf]
    exact h

end Clauses

/-- A frame count that moves within its limits is not held. -/
theorem moves_of_range {f : Int} {forward : Bool} (hlo : -99999 ≤ if forward then f + 1 else f - 1)
    (hhi : (if forward then f + 1 else f - 1) ≤ 999999) : if forward then f < 999999 else -99999 < f := by
  cases forward with
  | false => exact Int.lt_of_le_sub_one hlo
  | true => exact Int.lt_of_add_one_le hhi

theorem exec_perfPulse {s : State} (h : s.resetHeld = false) (m : Moment) (p : Proj) :
    exec (.perfPulse m p) s = .next ((s.arrive m).perforation p m.pins.proj[p].forward) := by
  show s.event (fun s => (s.arrive m).perforation p m.pins.proj[p].forward) = _
  rw [event_of_running s _ h]

/-- A carry in INCH or COAST is a frame advance with a sample. -/
theorem perforation_advances {u : State} {p : Proj} (hm : u.tr[p].motor = false)
    (hc : isCarry u.ch[p].config.gauge.perfs u.tr[p].phase true = true) (hf : u.tr[p].frame + 1 ≤ 999999)
    (h : u.ch[p].state = .inch ∨ u.ch[p].state = .coast) :
    ∃ a before, u.perforation p true = State.frameAdvanced a p before ∧ a.ch[p].running = false ∧ a.ch[p].sampling = true
      ∧ a.tr[p] = { (u.perforated p true).tr[p] with frame := u.tr[p].frame + 1 } ∧ a.det = u.det ∧ a.cues = u.cues ∧ a.pins = u.pins
      ∧ a.field = u.tb.field ∧ a.line = u.line := by
  have hch : ((u.perforated p true).raised p).ch[p] = { u.ch[p] with still := 0 } := perforated_ch u p true
  obtain ⟨hr, hs⟩ := sampling_of_inch_or_coast (c := { u.ch[p] with still := 0 }) h
  have hlt : u.tr[p].frame < 999999 := by omega
  have hup := perforation_up hm hc hlt
  exact ⟨(u.perforated p true).raised p, (u.perforated p true).ahead p, hup, by rw [hch]; exact hr, by rw [hch]; exact hs, raised_perforated_tr u p, rfl, rfl, rfl,
    rfl, rfl⟩

end Sys2Proof.Machine

section
open Sys2Proof Sys2Proof.Machine Sys2Proof.Claims

/-- Settles O12: the perforation, then what its carry makes of the frame count, the detector and the list. -/
theorem perforationMovesPhase : Obligations.PerforationMovesPhase := by
  unfold Obligations.PerforationMovesPhase
  intro s m p hreset
  have hexec := exec_perfPulse hreset m p
  have hpins := arrive_pins s m
  generalize s.arrive m = u at hexec hpins ⊢
  intro u' forward g x phase carry next d list h
  have hexec' : exec (.perfPulse m p) s = .next (u.perforation p forward) := hexec
  have hphase : movePhase g x forward = phase := movePhase_eq g x forward
  have hcarry : isCarry g x forward = true ↔ carry := isCarry_iff g x forward
  have hvtr := perforated_tr u p forward
  rw [hexec']
  rw [show movePhase u.ch[p].config.gauge.perfs u.tr[p].phase forward = phase from hphase] at hvtr
  refine ⟨fun hstill => ?_, fun hm hc => ⟨fun hrest => ?_, fun hlo hhi hperiod hmod hroom => ?_, fun hback hlo => ?_,
    fun hfwd hhi hstate => ?_⟩⟩
  · rw [perforation_of_no_carry (hstill.imp_right (mt hcarry.1)), ← hphase]
    rfl
  · obtain ⟨hch, htphase, hmoves⟩ := perforation_atRest hm (hcarry.2 hc) hrest
    have hvch := perforated_ch u p forward
    have hheld (hf : u.tr[p].frame = if forward then 999999 else -99999) :
        u.perforation p forward = (u.perforated p forward).pass (.proj p .counterLimit) :=
      perforation_held hm (hcarry.2 hc) (by rw [hf]; cases forward <;> decide)
    refine ⟨_, rfl, by rw [hch, hvch], by rw [htphase, hvtr], by rw [hch, hvch], fun hlo hhi hmin hmax => ?_, fun hf => ?_,
      fun q hq => ?_, perforation_settings u p forward⟩
    · have hmove := moves_of_range hlo hhi
      exact ⟨fun hfound => (hmoves hmove hfound).1, perforation_lists u p forward, fun hfwd hfound => (hmoves hmove hfound).2 hfwd⟩
    · have hn := pass_notified (u.perforated p forward) (.proj p .counterLimit)
      rw [hheld hf]
      exact ⟨by rw [hn.tr, hvtr], hn.det, hn.cues, pass_latches _ _⟩
    · obtain ⟨h1, h2, h3, -⟩ := perforation_others u forward hq
      exact ⟨h1, h2, h3⟩
  · exact ⟨_, rfl, hphase ▸ perforation_reports hm (hcarry.2 hc) (moves_of_range hlo hhi) hperiod hmod hroom⟩
  · have hback' : forward = false := hback
    have hnext : next = u'.tr[p].frame - 1 := by
      show (if forward then u'.tr[p].frame + 1 else u'.tr[p].frame - 1) = _
      rw [hback']
      rfl
    have heq := perforation_down (u := u) (p := p) hm (by rw [← hback']; exact hcarry.2 hc) (by
      show -99999 < u'.tr[p].frame
      omega)
    obtain ⟨-, htr, hdet, hcues⟩ := frameRetreated_film ((u.perforated p false).lowered p) p
    rw [hback', heq]
    refine ⟨_, rfl, ?_, hdet, hcues⟩
    rw [htr, lowered_perforated_tr, hnext]
  · have hfwd' : forward = true := hfwd
    have hnext : next = u'.tr[p].frame + 1 := by
      show (if forward then u'.tr[p].frame + 1 else u'.tr[p].frame - 1) = _
      rw [hfwd']
      rfl
    rw [hfwd'] at hvtr ⊢
    obtain ⟨v, before, heq, hr, hs, htr, hdet, hcues, hvpins, hfield, hline⟩ :=
      perforation_advances hm (hfwd' ▸ hcarry.2 hc) (by rw [← hnext]; exact hhi) hstate
    have hframe : v.tr[p].frame = next := by rw [htr, hnext]
    have hdetp : v.det[p] = d := by rw [hdet]
    have hlist : v.cues.lists[p] = list := by rw [hcues]
    have hcue : v.pins.proj[p].cue = m.pins.proj[p].cue := by rw [hvpins, hpins]
    have hstray : v.tr[p].strayMarks = u.tr[p].strayMarks := by rw [htr, hvtr]
    have hcorr : v.tr[p].corrections = u.tr[p].corrections := by rw [htr, hvtr]
    have hquiet : v.tr[p].quiet = u.tr[p].quiet := by rw [htr, hvtr]
    rw [heq]
    have hsampled : sampled v.det[p].history v.det[p].latch = h := by rw [hdetp]
    refine ⟨fun hno hfound hwhole => ?_, fun hall hfound hlate hnone => ⟨fun hopen => ?_, fun e hl ho he => ?_⟩,
      fun hall hfound hlate => ?_, fun e w y hno hfound hl hk hw hn => ?_⟩
    · have h := frameAdvanced_samples before hr hs (by rw [hsampled, hdetp]; exact hno) (by rw [hdetp]; exact hfound)
        (by rw [hlist]; exact numbered_of_whole hwhole p)
      rw [hframe, hsampled, hdetp, hlist, hcue, hcues, hdet] at h
      obtain ⟨htr', hdet', hlists, hfree, hlatch⟩ := h
      exact ⟨_, rfl, by rw [htr', hframe], hdet', hlists, hfree, hlatch⟩
    · have h := frameAdvanced_strays before hr hs (by rw [hsampled, hdetp]; exact hall) (by rw [hdetp]; exact hfound)
        (by rw [hvpins, hpins]; exact hlate) (by rw [hframe, hlist]; exact hnone) (by rw [hframe, hlist]; exact hopen)
      rw [hframe, hdetp, hcue, hcues, hdet, hquiet, hstray] at h
      obtain ⟨htr', hdet', hcues', hlatch⟩ := h
      exact ⟨_, rfl, by rw [htr']; exact hframe, by rw [htr'], hdet', hcues', hlatch⟩
    · have h := frameAdvanced_matches before hr hs (by rw [hsampled, hdetp]; exact hall) (by rw [hdetp]; exact hfound)
        (by rw [hvpins, hpins]; exact hlate) (by rw [hframe, hlist]; exact hnone) (by rw [hlist]; exact hl) (by rw [hframe]; exact ho) he
      rw [hframe, hdetp, hcue, hcues, hdet, hcorr, hfield, hline] at h
      obtain ⟨htr', hcorr', hdet', hcues', hposted⟩ := h
      exact ⟨_, rfl, htr', hcorr', hdet', hcues', hposted⟩
    · have h := frameAdvanced_waits before hr hs (by rw [hsampled, hdetp]; exact hall) (by rw [hdetp]; exact hfound)
        (by rw [hvpins, hpins]; exact hlate)
      rw [hframe, hdetp, hcue, hdet] at h
      obtain ⟨htr', hdet'⟩ := h
      exact ⟨_, rfl, by rw [htr', hframe], hdet'⟩
    · have hpassed : passedMark e next = true := by
        unfold passedMark
        rw [hk]
        exact decide_eq_true (by omega)
      have h := frameAdvanced_misses before hr hs (by rw [hsampled, hdetp]; exact hno) (by rw [hdetp]; exact hfound)
        (by rw [hlist]; exact hl) (by rw [hframe]; exact hpassed) (by rw [hk]; rfl)
      rw [hframe, hsampled, hdetp, hcue, hcues, hdet, hstray, hfield, hline] at h
      obtain ⟨htr', hlists, hdet', hlatch, hposted⟩ := h
      exact ⟨_, rfl, by rw [htr']; exact hframe, by rw [htr'], by rw [htr']; exact hcorr, hlists, hdet', hlatch, hposted⟩

end
end

section
/-! A cut: the grant of a take, the entry to TAILOUT and the stop point (R92 to R95, R153 to R157). -/

namespace Sys2Proof.Machine
open Sys2Proof.Claims

/-! ### A grant to the only record that asks (R92, R95) -/

/-- The only changeover request that waits is the best one when it is due. -/
theorem bestSlot_only {s : State} {r : Rec} {q : ChangeReq} (hq : s.take.slots[r] = some q) (hr : requestReady q.posted q.due s.field)
    (hrest : ∀ x : Rec, x ≠ r → s.take.slots[x] = none) : s.bestSlot = some (r, q) := by
  have hother {x : Rec} (hx : x ≠ r) (best : Option (Rec × ChangeReq)) : s.better best x = best := by
    unfold State.better
    rw [hrest x hx]
  rw [bestSlot_eq]
  refine foldl_at (I := fun best => best = none) (J := fun best => best = some (r, q)) (by decide) (mem_allRec r)
    (fun best x _ hx hb => (hother hx best).trans hb) (fun best hb => ?_) (fun best x _ hx hb => (hother hx best).trans hb) rfl
  unfold State.better
  rw [hq, hb]
  exact if_pos ((requestDue_iff _ _ _).2 hr)

theorem countDeferrals_eq (s : State) (g : Option Origin) : ∃ slots, s.countDeferrals g = { s with take := { s.take with slots := slots } } := by
  refine foldl_inv (I := fun w : State => ∃ slots, w = { s with take := { s.take with slots := slots } }) (fun w r _ hw => ?_) ⟨_, rfl⟩
  obtain ⟨slots, hw⟩ := hw
  split
  · rw [hw]
    exact ⟨_, rfl⟩
  · exact ⟨slots, hw⟩

/-- What judging a window and dropping the strobe touch: the notices of the judgement, the take port and the steps. -/
theorem readied_notified (s : State) : ∃ v, Notified s v ∧ (.windowJudged ∉ s.due → v = s)
    ∧ s.readied = { v with take := s.readied.take, due := s.readied.due } := by
  have hdrop (w : State) : (if .strobeDrop ∈ w.due then w.dropStrobe.dropDue .strobeDrop else w) =
      { w with take := (if .strobeDrop ∈ w.due then w.dropStrobe.dropDue .strobeDrop else w).take
               due := (if .strobeDrop ∈ w.due then w.dropStrobe.dropDue .strobeDrop else w).due } := by
    split <;> rfl
  by_cases hj : .windowJudged ∈ s.due
  · obtain ⟨v, hv, heq⟩ := judgeWindow_eq s
    refine ⟨v, hv, fun h => absurd hj h, ?_⟩
    unfold State.readied
    rw [if_pos hj, heq]
    exact hdrop _
  · refine ⟨s, .refl s, fun _ => rfl, ?_⟩
    unfold State.readied
    rw [if_neg hj]
    exact hdrop s

/-- An arbitration with one record's request alone, and no protective one, grants it and hands it on. -/
theorem arbitrate_only {s : State} {r : Rec} {q : ChangeReq} (hprot : s.take.protective = none) (hsync : s.tb.madeInSync = true)
    (hq : s.take.slots[r] = some q) (hr : requestReady q.posted q.due s.field) (hrest : ∀ x : Rec, x ≠ r → s.take.slots[x] = none) :
    ∃ v g : State, Notified s v ∧ (.windowJudged ∉ s.due → v = s) ∧ g = { v with take := g.take, due := g.due }
      ∧ s.arbitrate = g.grantToRecord r q.deferrals ∧ g.take.tsrc = q.source ∧ g.take.strobe = true
      ∧ g.take.last = some ⟨s.field, q.source, .record r⟩ ∧ g.take.protective = none ∧ g.take.host = s.take.host := by
  obtain ⟨htake, htb⟩ := readied_eq s
  obtain ⟨v, hv, hvs, hready⟩ := readied_notified s
  have hfield : s.readied.field = s.field := congrArg Timebase.field htb
  have hslots : s.readied.take.slots = s.take.slots := by rw [htake]
  have hbest : s.readied.bestSlot = some (r, q) :=
    bestSlot_only (by rw [hslots]; exact hq) (by rw [hfield]; exact hr) (by rw [hslots]; exact hrest)
  have hprot' : s.readied.take.protective = none := by rw [htake]; exact hprot
  have hhost : s.readied.take.host = s.take.host := by rw [htake]
  have hwinner : s.readied.winner = some ⟨.record r, q.source⟩ := by
    unfold State.winner
    rw [hprot', htb, hsync, hbest]
    rfl
  have hhanded : s.readied.handed ⟨.record r, q.source⟩ = some (r, q.deferrals) := by
    unfold State.handed
    simp only [hslots, hq, Option.map_some]
  have harb := arbitrate_of_some s hwinner
  rw [hhanded] at harb
  generalize s.readied = w at hready hfield hprot' hhost harb
  obtain ⟨slots, hcount⟩ := countDeferrals_eq w (some (.record r))
  have hgrant : w.granting ⟨.record r, q.source⟩ = { w with take := (w.granting ⟨.record r, q.source⟩).take } := by
    unfold State.granting
    rw [hcount]
    rfl
  refine ⟨v, w.granting ⟨.record r, q.source⟩, hv, hvs, ?_, harb, rfl, rfl, ?_, ?_, ?_⟩
  · rw [show (w.granting ⟨.record r, q.source⟩).due = w.due by rw [hgrant]]
    generalize (w.granting ⟨.record r, q.source⟩) = g at hgrant
    rw [hgrant]
    generalize g.take = take
    rw [hready]
  · rw [granting_last, hfield]
  · unfold State.granting
    rw [hcount]
    exact hprot'
  · unfold State.granting
    rw [hcount]
    exact hhost

/-! ### The entry to TAILOUT (R156, R157) -/

/-- A record with its cut made in a field (R156). -/
def enteredTailout (rec : Record) (n : Field) (unlocked : Bool) : Record :=
  { rec with
    state := .tailout, cutMade := some n, flags := { rec.flags with unlockedAtCut := rec.flags.unlockedAtCut || unlocked } }

/-- A record put into the table with its claims released. -/
def State.cutTo (s : State) (r : Rec) (cut : Record) : State :=
  { s with
    eng := { s.eng with records := s.eng.records.set r (some cut) }
    isl := map4 (fun u => if u.claim = some r then { u with claim := none } else u) s.isl }

theorem cutTo_record (s : State) (r : Rec) (cut : Record) : (s.cutTo r cut).eng.records[r] = some cut := getElem_set_same _ _ _

theorem cutTo_isl (s : State) (r : Rec) (cut : Record) (i : Isl) :
    (s.cutTo r cut).isl[i] = { s.isl[i] with claim := if s.isl[i].claim = some r then none else s.isl[i].claim } := by
  show (map4 (fun u => if u.claim = some r then { u with claim := none } else u) s.isl)[i] = _
  simp only [Fin.getElem_fin, getElem_map4]
  split <;> rfl

section Entry
variable {s : State} {r : Rec} {rec : Record} (hrec : s.eng.records[r] = some rec)
include hrec

theorem enterTailout_of_keep (hkeep : rec.tailOut = none) : s.enterTailout r =
    (s.cutTo r (enteredTailout rec s.tb.field (s.fieldPos rec.b).isNone)).endRecord r (rec.result.getD .onTime) := by
  unfold State.enterTailout
  rw [hrec]
  simp only [hkeep]
  unfold State.updRec
  rw [hrec]
  rfl

theorem enterTailout_of_tail {x : Nat} (hx : rec.tailOut = some x) : s.enterTailout r =
    let cut := enteredTailout rec s.tb.field (s.fieldPos rec.b).isNone
    if (rec.p : Int) + x ≤ s.tr[rec.a].frame then ((s.cutTo r cut).endRecord r (rec.result.getD .onTime)).giveStop rec.a
    else s.cutTo r cut := by
  have henter : s.enterTailout r = (s.cutTo r (enteredTailout rec s.tb.field (s.fieldPos rec.b).isNone)).tailoutTest r := by
    unfold State.enterTailout
    rw [hrec]
    simp only [hx]
    unfold State.updRec
    rw [hrec]
    rfl
  rw [henter]
  unfold State.tailoutTest
  rw [cutTo_record]
  simp only [show (enteredTailout rec s.tb.field (s.fieldPos rec.b).isNone).tailOut = some x from hx]
  exact ite_congr (propext (and_iff_right rfl)) (fun _ => rfl) (fun _ => rfl)

end Entry

theorem endResult_self (rec : Record) : rec.endResult (rec.result.getD .onTime) = rec.result.getD .onTime := by
  unfold Record.endResult
  cases rec.result with
  | none => exact ite_self _
  | some res => exact ite_self _

/-- The ending of a record, whatever the queue holds. -/
theorem endRecord_frees {s : State} {r : Rec} {rec : Record} (hrec : s.eng.records[r] = some rec) (res : Result) :
    (s.endRecord r res).eng.records = s.eng.records.set r none ∧ ∀ i : Isl, (s.endRecord r res).isl[i].claim ≠ some r := by
  have hn := post_notified ((s.withdraw r).releaseClaim r) (.change (rec.notice r (rec.endResult res) s.field)) (fun _ => rfl)
  have heq : s.endRecord r res = { (((s.withdraw r).releaseClaim r).post (.change (rec.notice r (rec.endResult res) s.field))).setRec r none with
      due := ((((s.withdraw r).releaseClaim r).post (.change (rec.notice r (rec.endResult res) s.field))).due.filter
        (fun d => !d.ofRec r)) } := by
    unfold State.endRecord
    rw [hrec]
  generalize ((s.withdraw r).releaseClaim r).post (.change (rec.notice r (rec.endResult res) s.field)) = w at hn heq
  rw [heq]
  refine ⟨?_, fun i => ?_⟩
  · show w.eng.records.set r none = _
    rw [hn.eng]
    rfl
  · show w.isl[i].claim ≠ some r
    rw [hn.isl, releaseClaim_isl]
    split
    · exact nofun
    · assumption

end Sys2Proof.Machine
end

section
/-! The cut made, and the stop point at the cut and at a slip correction (R57, R155 to R157). -/

namespace Sys2Proof.Machine
open Sys2Proof.Claims

/-! ### An ending with its STOP (R157) -/

theorem disjoint_of_set {s t : State} (h : RecordsDisjoint s) {r : Rec} {rec new : Record} (hrec : s.eng.records[r] = some rec)
    (ht : t.eng.records = s.eng.records.set r (some new)) (ha : new.a = rec.a) (hb : new.b = rec.b) : RecordsDisjoint t := by
  have hold {x : Rec} {y : Record} (hy : t.eng.records[x] = some y) : ∃ old, s.eng.records[x] = some old ∧ y.a = old.a ∧ y.b = old.b := by
    rw [ht] at hy
    by_cases hx : x = r
    · subst hx
      rw [getElem_set_same] at hy
      cases hy
      exact ⟨rec, hrec, ha, hb⟩
    · rw [getElem_set_other _ _ hx] at hy
      exact ⟨y, hy, rfl, rfl⟩
  intro x y recx recy hx hy
  obtain ⟨oldx, holdx, hxa, hxb⟩ := hold hx
  obtain ⟨oldy, holdy, hya, hyb⟩ := hold hy
  rw [hxa, hxb, hya, hyb]
  exact h x y oldx oldy holdx holdy

/-- A projector that shares no record with another is in none once its record is gone. -/
theorem inNoRecord_of_freed {s t : State} (h : RecordsDisjoint s) {r : Rec} {rec : Record} (hrec : s.eng.records[r] = some rec)
    (ht : t.eng.records = s.eng.records.set r none) : InNoRecord t rec.a := by
  intro x old hold
  rw [ht] at hold
  by_cases hx : x = r
  · rw [hx, getElem_set_same] at hold
    cases hold
  · rw [getElem_set_other _ _ hx] at hold
    obtain ⟨-, hne⟩ := h x r old rec hold hrec
    obtain ⟨haa, -, hba, -⟩ := hne hx
    exact ⟨haa, hba⟩

/-- The record ends with its decided result, and its outgoing projector is given STOP. -/
theorem endRecord_giveStop {s : State} {r : Rec} {rec : Record} {res : Result} (hd : RecordsDisjoint s) (he : s.estop = false)
    (hrec : s.eng.records[r] = some rec) (hres : rec.result = some res) (hq : s.line.queue.length < 16) :
    let t := (s.endRecord r (rec.result.getD .onTime)).giveStop rec.a
    t.eng.records = s.eng.records.set r none ∧ t.ch = s.ch.set rec.a (stopTable s.ch[rec.a])
      ∧ t.tr = s.tr.set rec.a (haltedTracker s.tr[rec.a] s.ch[rec.a])
      ∧ t.line.queue = s.line.queue ++ [changeNotice r rec res s.tb.field] ∧ t.take.slots[r] = none
      ∧ t.take = { s.take with slots := t.take.slots } ∧ ∀ i : Isl, t.isl[i] = { s.isl[i] with claim := t.isl[i].claim } := by
  have hget : rec.result.getD .onTime = res := by rw [hres]; rfl
  have hended := endRecord_of_room s r res rec hrec hq
  have hself := endResult_self rec
  have hisl := (endRecord_engineOnly s r res).isl
  rw [hget] at hself ⊢
  rw [hself] at hended
  have hest : (s.endRecord r res).estop = false := by rw [hended]; exact he
  have hfree : InNoRecord ((s.endRecord r res).halted rec.a) rec.a :=
    inNoRecord_of_freed hd hrec (by rw [hended]; rfl)
  have hstop : (s.endRecord r res).giveStop rec.a = (s.endRecord r res).halted rec.a :=
    (congrArg Prod.fst (requestStop_taken hest rec.a)).trans (engineStop_of_free hfree)
  rw [hstop]
  refine ⟨?_, ?_, ?_, ?_, ?_, ?_, hisl⟩
  all_goals rw [hended]
  · rfl
  · rfl
  · rfl
  · rfl
  · exact getElem_set_same _ _ _
  · rfl

/-- The tail-out test of the record in TAILOUT of a projector. -/
theorem tailoutOf_of_record {s : State} {r : Rec} {rec : Record} {x : Nat} (hd : RecordsDisjoint s) (hrec : s.eng.records[r] = some rec)
    (ht : rec.state = .tailout) (hx : rec.tailOut = some x) : s.tailoutOf rec.a =
      if (rec.p : Int) + x ≤ s.tr[rec.a].frame then (s.endRecord r (rec.result.getD .onTime)).giveStop rec.a else s := by
  unfold State.tailoutOf
  rw [asOutgoing_of_record hd hrec]
  show s.tailoutTest r = _
  unfold State.tailoutTest
  simp only [hrec, hx, ht, true_and]

/-! ### The entry to TAILOUT (R156, R157) -/

section Entry
variable {s : State} {r : Rec} {rec : Record} (hrec : s.eng.records[r] = some rec)
include hrec

/-- Short of the stop point the record stays, or ends with KEEP. -/
theorem enterTailout_cut (hstays : ∀ x, rec.tailOut = some x → s.tr[rec.a].frame < rec.p + x) :
    let cut := enteredTailout rec s.tb.field (s.fieldPos rec.b).isNone
    let t := s.enterTailout r
    (∀ i : Isl, t.isl[i].claim ≠ some r) ∧ t.ch = s.ch ∧ t.tr = s.tr
      ∧ (∀ x, rec.tailOut = some x → t.eng.records = s.eng.records.set r (some cut) ∧ t.line.queue = s.line.queue)
      ∧ (rec.tailOut = none → t.eng.records = s.eng.records.set r none
          ∧ ∀ res, rec.result = some res → s.line.queue.length < 16 →
              t.line.queue = s.line.queue ++ [changeNotice r cut res s.tb.field])
      ∧ t.take.tsrc = s.take.tsrc ∧ t.take.strobe = s.take.strobe ∧ ∀ i : Isl, t.isl[i] = { s.isl[i] with claim := t.isl[i].claim } := by
  intro cut t
  have hset : (s.cutTo r cut).eng.records = s.eng.records.set r (some cut) := rfl
  cases hx : rec.tailOut with
  | some x =>
    have ht : t = s.cutTo r cut := (enterTailout_of_tail hrec hx).trans (if_neg (by have := hstays x hx; omega))
    rw [ht]
    refine ⟨fun i => ?_, rfl, rfl, fun _ _ => ⟨hset, rfl⟩, nofun, rfl, rfl, fun i => by rw [cutTo_isl]⟩
    rw [cutTo_isl]
    show (if _ then _ else _) ≠ _
    split
    · exact nofun
    · assumption
  | none =>
    have ht : t = (s.cutTo r cut).endRecord r (rec.result.getD .onTime) := enterTailout_of_keep hrec hx
    have hcut := cutTo_record s r cut
    have he := endRecord_engineOnly (s.cutTo r cut) r (rec.result.getD .onTime)
    obtain ⟨hrecs, hclaims⟩ := endRecord_frees hcut (rec.result.getD .onTime)
    have htake := congrArg State.take he.eq
    have hself : cut.endResult (rec.result.getD .onTime) = rec.result.getD .onTime := endResult_self cut
    rw [ht]
    refine ⟨hclaims, he.ch, he.tr, nofun, fun _ => ⟨hrecs.trans (by rw [hset, Vector.set_set]), fun res hres hq => ?_⟩,
      (congrArg TakePort.tsrc htake).trans rfl, (congrArg TakePort.strobe htake).trans rfl, fun i => by rw [he.isl i, cutTo_isl]⟩
    rw [(ended_endRecord (rec.result.getD .onTime) hcut hq).notice, hself, hres]
    rfl

/-- At the stop point the record ends with its decided result and its outgoing projector is given STOP. -/
theorem enterTailout_stop {x : Nat} {res : Result} (hd : RecordsDisjoint s) (he : s.estop = false) (hx : rec.tailOut = some x)
    (hres : rec.result = some res) (hq : s.line.queue.length < 16) (hstop : (rec.p : Int) + x ≤ s.tr[rec.a].frame) :
    let cut := enteredTailout rec s.tb.field (s.fieldPos rec.b).isNone
    let t := s.enterTailout r
    t.eng.records = s.eng.records.set r none ∧ t.ch = s.ch.set rec.a (stopTable s.ch[rec.a])
      ∧ t.line.queue = s.line.queue ++ [changeNotice r cut res s.tb.field] ∧ t.take.slots[r] = none
      ∧ t.take.tsrc = s.take.tsrc ∧ t.take.strobe = s.take.strobe := by
  intro cut t
  have hcut := cutTo_record s r cut
  have hdis : RecordsDisjoint (s.cutTo r cut) := disjoint_of_set hd hrec rfl rfl rfl
  have ht : t = ((s.cutTo r cut).endRecord r (cut.result.getD .onTime)).giveStop cut.a :=
    (enterTailout_of_tail hrec hx).trans (if_pos hstop)
  obtain ⟨hrecs, hch, -, hqueue, hslot, htake, -⟩ := endRecord_giveStop (s := s.cutTo r cut) hdis he hcut hres hq
  rw [ht]
  refine ⟨hrecs.trans ?_, hch, hqueue, hslot, (congrArg TakePort.tsrc htake).trans rfl, (congrArg TakePort.strobe htake).trans rfl⟩
  show (s.eng.records.set r (some cut)).set r none = _
  rw [Vector.set_set]

end Entry

end Sys2Proof.Machine
end

section
/-! The stop point at a slip correction, at an edge in SEARCH and at a carry with the motor off (R157). -/

namespace Sys2Proof.Machine
open Sys2Proof.Claims

/-! ### The frame count that a film reaches, before the tail-out test -/

/-- A slip correction that waits is a move of the position, with its sample, and the tail-out test (R57, R68). -/
theorem correctSlip_of_bare {s : State} {p : Proj} {w : SlipWait} (hlock : s.tr[p].lock = .locked) (hw : s.tr[p].slipWait = some w)
    (hb : w.boundary = s.tb.field) (hlo : -99999 ≤ w.g) (hhi : w.g ≤ 999999) (hl : s.cues.lists[p] = []) (hperiod : s.tr[p].period = 0)
    (hshort : s.det[p].history.length + 1 < s.det[p].sigLen) (hfound : s.det[p].found = none) :
    ∃ det, s.correctSlip p = ({ s with
      tr := s.tr.set p { s.tr[p] with pos := some ⟨w.g, w.i, w.c⟩, frame := w.g, slipWait := none }, det := det }).tailoutOf p := by
  let x := s.updTr p fun t => { t with pos := some ⟨w.g, w.i, w.c⟩, frame := w.g, slipWait := none }
  have hclamp : clampFrame w.g = w.g := by
    unfold clampFrame Config.frameMin Config.frameMax
    omega
  have hrange : (!frameInRange w.g) = false := by
    rw [Bool.not_eq_false']
    exact Bool.and_eq_true_iff.2 ⟨decide_eq_true hlo, decide_eq_true hhi⟩
  have htr : x.tr[p] = { s.tr[p] with pos := some ⟨w.g, w.i, w.c⟩, frame := w.g, slipWait := none } := getElem_set_same _ _ _
  have hcorrect : s.correctSlip p = if s.tr[p].frame < w.g then x.frameAdvanced p 0 else x.tailoutOf p := by
    unfold State.correctSlip
    rw [hlock, hw]
    simp only [hclamp, hrange, ahead_of_empty s p hl]
    rw [if_pos (show w.boundary = s.field from hb)]
    exact ite_congr decide_eq_true_eq (fun _ => rfl) (fun _ => rfl)
  rw [hcorrect]
  split
  · have hadv := frameAdvanced_of_bare (s := x) (p := p) hl (by rw [htr]; exact hperiod) hfound hshort
    exact ⟨_, hadv.trans (congrArg (fun v : State => v.tailoutOf p) (sampledIf_eq x p))⟩
  · exact ⟨s.det, rfl⟩

/-- A frame advance of an edge in SEARCH that passes its check is a sample, and the tail-out test (R48, R68). -/
theorem searched_of_film {s : State} {p : Proj} (hf : s.tr[p].frame < 999999) (hl : s.cues.lists[p] = [])
    (hperiod : s.tr[p].period = 0) (hfound : s.det[p].found = none) (hshort : s.det[p].history.length + 1 < s.det[p].sigLen)
    (hpass : s.tr[p].interval = none ∨ s.tr[p].interval = some s.ch[p].config.gauge.perfs) :
    ∃ det, s.searched p = ({ s with
      tr := s.tr.set p { checkedEdge s.ch[p].config.gauge.perfs s.tr[p] with frame := s.tr[p].frame + 1 }, det := det }).tailoutOf p := by
  have hn := checkPerfs_notified (s.risen p) p
  have hperiod' : ((s.risen p).checkPerfs p).tr[p].period = 0 := by
    rw [risenCheck_tr, checkedEdge_eq]
    exact hperiod
  have hadv := frameAdvanced_of_bare (s := (s.risen p).checkPerfs p) (p := p) (by rw [hn.cues]; exact hl) hperiod'
    (by rw [hn.det]; exact hfound) (by rw [hn.det]; exact hshort)
  have hquiet := risenCheck_quiet (s := s) (p := p) (defects_of_passes (t := { s.tr[p] with frame := s.tr[p].frame + 1 }) hpass)
  have hcheck : (s.risen p).checkPerfs p = { s with
      tr := s.tr.set p { checkedEdge s.ch[p].config.gauge.perfs s.tr[p] with frame := s.tr[p].frame + 1 } } := by
    have h := risenCheck_updTr s p id
    rw [hquiet.1, hquiet.2] at h
    refine Eq.trans ?_ h
    show _ = ({ (s.risen p).checkPerfs p with tr := _ } : State)
    rw [show id ((s.risen p).checkPerfs p).tr[p] = ((s.risen p).checkPerfs p).tr[p] from rfl, set_getElem_self]
  refine ⟨(((s.risen p).checkPerfs p).sampledIf p).det, ?_⟩
  unfold State.searched
  rw [if_pos hf, ahead_of_empty s p hl, hadv]
  refine congrArg (fun v : State => v.tailoutOf p) ?_
  conv_lhs => rw [sampledIf_eq]
  rw [hcheck]

/-- A carry with the motor off is a sample, and the tail-out test (R46, R68). -/
theorem perforation_of_film {u : State} {p : Proj} (hm : u.tr[p].motor = false) (hc : u.ch[p].config.gauge.perfs ≤ u.tr[p].phase + 1)
    (hf : u.tr[p].frame < 999999) (hl : u.cues.lists[p] = []) (hperiod : u.tr[p].period = 0) (hfound : u.det[p].found = none)
    (hshort : u.det[p].history.length + 1 < u.det[p].sigLen) :
    ∃ det, u.perforation p true = ({ u with
      ch := u.ch.set p { u.ch[p] with still := 0 }, tr := ((u.perforated p true).raised p).tr, det := det }).tailoutOf p := by
  have htr := raised_perforated_tr u p
  have hperiod' : ((u.perforated p true).raised p).tr[p].period = 0 := by
    rw [htr, perforated_tr]
    exact hperiod
  have hahead : (u.perforated p true).ahead p = 0 := ahead_of_empty _ p hl
  have hadv := frameAdvanced_of_bare (s := (u.perforated p true).raised p) (p := p) hl hperiod' hfound hshort
  refine ⟨(((u.perforated p true).raised p).sampledIf p).det, ?_⟩
  rw [perforation_up hm (decide_eq_true hc) hf, hahead, hadv]
  exact congrArg (fun v : State => v.tailoutOf p) (sampledIf_eq _ p)

/-! ### The stop point of a record in TAILOUT -/

section Tail
variable {s w : State} {r : Rec} {rec : Record} {x : Nat} {res : Result} (hd : RecordsDisjoint s) (he : s.estop = false)
  (hrec : s.eng.records[r] = some rec) (ht : rec.state = .tailout) (hx : rec.tailOut = some x) (hres : rec.result = some res)
  (hq : s.line.queue.length < 16)
  (hw : w = { s with ch := w.ch, tr := w.tr, det := w.det })
include hd hrec ht hx hw

/-- Short of the stop point the film goes on. -/
theorem tailoutOf_short (hp : w.tr[rec.a].frame < (rec.p : Int) + x) : w.tailoutOf rec.a = w := by
  have hdw : RecordsDisjoint w := by rw [RecordsDisjoint, hw]; exact hd
  rw [tailoutOf_of_record hdw (by rw [hw]; exact hrec) ht hx, if_neg (by omega)]

include he hres hq

/-- At the stop point the record ends with its decided result, and the projector is given STOP. -/
theorem tailoutOf_stops (hp : (rec.p : Int) + x ≤ w.tr[rec.a].frame) :
    let t := w.tailoutOf rec.a
    t.eng.records = s.eng.records.set r none ∧ t.ch = w.ch.set rec.a (stopTable w.ch[rec.a])
      ∧ t.tr = w.tr.set rec.a (haltedTracker w.tr[rec.a] w.ch[rec.a])
      ∧ t.line.queue = s.line.queue ++ [changeNotice r rec res s.tb.field] ∧ t.take.slots[r] = none := by
  have hdw : RecordsDisjoint w := by rw [RecordsDisjoint, hw]; exact hd
  have hrecw : w.eng.records[r] = some rec := by rw [hw]; exact hrec
  obtain ⟨h1, h2, h3, h4, h5, -⟩ := endRecord_giveStop hdw (by rw [hw]; exact he) hrecw hres (by rw [hw]; exact hq)
  rw [tailoutOf_of_record hdw hrecw ht hx, if_pos hp]
  refine ⟨h1.trans ?_, h2, h3, h4.trans ?_, h5⟩
  · rw [show w.eng = s.eng by rw [hw]]
  · rw [show w.line = s.line by rw [hw], show w.tb = s.tb by rw [hw]]

end Tail

end Sys2Proof.Machine
end

section
/-! The grant and the mirror that make a cut, and the film that reaches the stop point (R95, R153, R155, R157). -/

namespace Sys2Proof.Machine
open Sys2Proof.Claims

/-! ### What a grant and a completed mirror hand to the entry to TAILOUT -/

theorem grantToRecord_enters {s : State} {r : Rec} {rec : Record} (hrec : s.eng.records[r] = some rec) (hcut : rec.state = .cutting)
    (n : Nat) : s.grantToRecord r n = (s.updRec r fun x => { x with deferrals := n }).enterTailout r := by
  unfold State.grantToRecord
  rw [hrec]
  exact if_pos (decide_eq_true hcut)

theorem updRec_records {s : State} {r : Rec} {rec : Record} (hrec : s.eng.records[r] = some rec) (f : Record → Record) :
    (s.updRec r f).eng.records = s.eng.records.set r (some (f rec)) := by
  unfold State.updRec
  rw [hrec]
  rfl

theorem updRec_eng (s : State) (r : Rec) (f : Record → Record) : s.updRec r f = { s with eng := (s.updRec r f).eng } := rfl

theorem completeMirror_enters {s : State} {i : Isl} {cmd : MirrorCmd} {r : Rec} {rec : Record} (hp : s.isl[i].pending = some cmd)
    (hset : s.isl[i].settled = some cmd.port) (hclaim : s.isl[i].claim = some r) (hrec : s.eng.records[r] = some rec)
    (hcut : rec.state = .cutting) :
    s.completeMirror i = (s.updIsl i fun u =>
      { u with pending := none, mismatch := u.mismatch && !decide (u.settled = some u.commanded) }).enterTailout r := by
  unfold State.completeMirror
  rw [hp]
  simp only [hset, hclaim, if_true]
  refine if_pos ?_
  show (s.eng.records[r]).any _ = true
  rw [hrec]
  exact decide_eq_true hcut

/-- A state handed to the entry to TAILOUT: a record of the table has its deferrals, and the films, the lists, the notices, the timebase
and the settings are as they were. -/
structure Handed (s : State) (r : Rec) (rec : Record) (d : Nat) (v : State) : Prop where
  records : v.eng.records = s.eng.records.set r (some { rec with deferrals := d })
  rest : v = { s with eng := v.eng, take := v.take, isl := v.isl, due := v.due }

section Made
variable {s : State} {r : Rec} {rec : Record} (h : s.resetHeld = false) (hrec : s.eng.records[r] = some rec) (hcut : rec.state = .cutting)
include h hrec hcut

/-- The only request of a record in CUTTING, granted at its row. -/
theorem takeGrant_enters {q : ChangeReq} (hw : .windowJudged ∉ s.due) (hd : .takeGrant ∈ s.due) (hprot : s.take.protective = none)
    (hsync : s.tb.madeInSync = true) (hq : s.take.slots[r] = some q) (hr : requestReady q.posted q.due s.tb.field)
    (hrest : ∀ x : Rec, x ≠ r → s.take.slots[x] = none) :
    ∃ v : State, exec .takeGrant s = .next (v.enterTailout r) ∧ Handed s r rec q.deferrals v
      ∧ v.take.tsrc = q.source ∧ v.take.strobe = true := by
  obtain ⟨v, g, -, hv, hg, harb, htsrc, hstrobe, -⟩ := arbitrate_only (s := s.dropDue .takeGrant) hprot hsync hq hr hrest
  have hv' : v = s.dropDue .takeGrant := hv fun hm => hw (mem_dropDue.1 hm).1
  have heng : g.eng = s.eng := by rw [hg, hv']; rfl
  have hrec' : g.eng.records[r] = some rec := by rw [heng]; exact hrec
  have hupd := updRec_eng g r fun x => { x with deferrals := q.deferrals }
  refine ⟨g.updRec r fun x => { x with deferrals := q.deferrals }, ?_, ⟨?_, ?_⟩, ?_, ?_⟩
  · rw [← grantToRecord_enters hrec' hcut, ← harb]
    exact event_takeDue h hd rfl
  · rw [updRec_records hrec', heng]
  · generalize (g.updRec r fun x => { x with deferrals := q.deferrals }) = w at hupd
    rw [hupd, hg, hv']
    rfl
  · rw [hupd]
    exact htsrc
  · rw [hupd]
    exact hstrobe

/-- The mirror of a record in CUTTING, complete at its row. -/
theorem mirrorComplete_enters {i : Isl} {cmd : MirrorCmd} (hd : .mirrorComplete i ∈ s.due) (hclaim : s.isl[i].claim = some r)
    (hp : s.isl[i].pending = some cmd) (hset : s.isl[i].settled = some cmd.port) :
    ∃ v : State, exec (.mirrorComplete i) s = .next (v.enterTailout r) ∧ Handed s r rec rec.deferrals v ∧ v.isl[i].pending = none := by
  have hexec : exec (.mirrorComplete i) s = .next ((s.dropDue (.mirrorComplete i)).completeMirror i) := event_takeDue h hd rfl
  rw [completeMirror_enters (s := s.dropDue (.mirrorComplete i)) hp hset hclaim hrec hcut] at hexec
  refine ⟨_, hexec, ⟨?_, rfl⟩, congrArg Island.pending (getElem_set_same _ _ _)⟩
  rw [← show s.eng.records[r] = some { rec with deferrals := rec.deferrals } from hrec, set_getElem_self]
  rfl

end Made

/-- The position for the field, by the trackers, their reactions and the field. -/
theorem fieldPos_congr {s t : State} (htr : t.tr = s.tr) (hu : t.unmoved = s.unmoved) (htb : t.tb = s.tb) (p : Proj) :
    t.fieldPos p = s.fieldPos p := by
  unfold State.fieldPos State.field
  rw [htr, hu, htb]

theorem haltedTracker_of_running {t : Tracker} {c : Channel} (h : c.state = .runup ∨ c.state = .run) : haltedTracker t c = stopped t :=
  if_pos h

theorem haltedTracker_frame (t : Tracker) (c : Channel) : (haltedTracker t c).frame = t.frame := by
  unfold haltedTracker
  split <;> rfl

/-! ### The film at an edge in SEARCH and at a carry with the motor off -/

/-- A record in TAILOUT ended by its film, its outgoing projector stopped. -/
structure TailEnded (u : State) (r : Rec) (rec : Record) (res : Result) (t : State) : Prop where
  records : t.eng.records = u.eng.records.set r none
  request : t.take.slots[r] = none
  queue : t.line.queue = u.line.queue ++ [changeNotice r rec res u.tb.field]

section Film
variable {u : State} {r : Rec} {rec : Record} {x : Nat} {res : Result} (hd : RecordsDisjoint u) (he : u.estop = false)
  (hrec : u.eng.records[r] = some rec) (ht : rec.state = .tailout) (hx : rec.tailOut = some x) (hres : rec.result = some res)
  (hq : u.line.queue.length < 16) (hf : u.tr[rec.a].frame < 999999) (hl : u.cues.lists[rec.a] = []) (hperiod : u.tr[rec.a].period = 0)
  (hfound : u.det[rec.a].found = none) (hshort : u.det[rec.a].history.length + 1 < u.det[rec.a].sigLen)

section Edge
variable (hm : u.tr[rec.a].motor = true) (hlock : u.tr[rec.a].lock = .search)
  (hpass : u.tr[rec.a].interval = none ∨ u.tr[rec.a].interval = some u.ch[rec.a].config.gauge.perfs)
include hd hrec ht hx hf hl hperiod hfound hshort hm hlock hpass

/-- An edge in SEARCH short of the stop point. -/
theorem edge_tail_short (hempty : (checkedEdge u.ch[rec.a].config.gauge.perfs u.tr[rec.a]).empty < 3)
    (hp : u.tr[rec.a].frame + 1 < (rec.p : Int) + x) : (u.edge rec.a).eng = u.eng ∧ (u.edge rec.a).ch = u.ch := by
  obtain ⟨det, hsearched⟩ := searched_of_film hf hl hperiod hfound hshort hpass
  rw [tailoutOf_short hd hrec ht hx (s := u) rfl (by rw [getElem_set_same]; exact hp)] at hsearched
  have htr := congrArg (fun t : State => t.tr[rec.a]) hsearched
  rw [show _ = _ from getElem_set_same u.tr rec.a _] at htr
  have hch := congrArg State.ch hsearched
  have heng := congrArg State.eng hsearched
  rw [edge_search hm hlock (by rw [show _ = _ from htr]; exact (checkedEdge_motor _ _).trans hm)
    (by rw [show _ = _ from htr]; exact (checkedEdge_lock _ _).trans hlock),
    measured_of_film (.inl (by rw [show _ = _ from htr]; exact Nat.ne_of_lt hempty))]
  exact ⟨heng, hch⟩

include he hres hq

/-- An edge in SEARCH that reaches the stop point stops the film and is not measured. -/
theorem edge_tail_stops (hrun : u.ch[rec.a].state = .runup ∨ u.ch[rec.a].state = .run)
    (hp : (rec.p : Int) + x ≤ u.tr[rec.a].frame + 1) :
    TailEnded u r rec res (u.edge rec.a) ∧ (u.edge rec.a).ch = u.ch.set rec.a (stopTable u.ch[rec.a])
      ∧ (u.edge rec.a).tr =
        u.tr.set rec.a (stopped { checkedEdge u.ch[rec.a].config.gauge.perfs u.tr[rec.a] with frame := u.tr[rec.a].frame + 1 }) := by
  obtain ⟨det, hsearched⟩ := searched_of_film hf hl hperiod hfound hshort hpass
  obtain ⟨hrecs, hch, htr, hqueue, hslot⟩ := tailoutOf_stops (s := u) hd he hrec ht hx hres hq
    (w := { u with
      tr := u.tr.set rec.a { checkedEdge u.ch[rec.a].config.gauge.perfs u.tr[rec.a] with frame := u.tr[rec.a].frame + 1 }
      det := det }) rfl (by rw [getElem_set_same]; exact hp)
  rw [← hsearched] at hrecs hch htr hqueue hslot
  have htr' : (u.searched rec.a).tr = u.tr.set rec.a
      (stopped { checkedEdge u.ch[rec.a].config.gauge.perfs u.tr[rec.a] with frame := u.tr[rec.a].frame + 1 }) := by
    rw [htr, getElem_set_same, Vector.set_set]
    exact congrArg (u.tr.set rec.a) (haltedTracker_of_running hrun)
  have hget := (congrArg (fun tr : Vector Tracker 8 => tr[rec.a]) htr').trans (getElem_set_same _ _ _)
  rw [edge_stopped hm hlock (by rw [show _ = _ from hget]; rfl) (by rw [show _ = _ from hget]; rfl)]
  exact ⟨⟨hrecs, hslot, hqueue⟩, hch, htr'⟩

end Edge

section Carry
variable (hm : u.tr[rec.a].motor = false) (hcarry : u.ch[rec.a].config.gauge.perfs ≤ u.tr[rec.a].phase + 1)
include hd hrec ht hx hf hl hperiod hfound hshort hm hcarry

/-- A carry with the motor off short of the stop point. -/
theorem perforation_tail_short (hp : u.tr[rec.a].frame + 1 < (rec.p : Int) + x) :
    (u.perforation rec.a true).eng = u.eng
      ∧ (u.perforation rec.a true).ch = u.ch.set rec.a { u.ch[rec.a] with still := 0 } := by
  obtain ⟨det, hperf⟩ := perforation_of_film hm hcarry hf hl hperiod hfound hshort
  rw [hperf, tailoutOf_short hd hrec ht hx (s := u) rfl (by rw [raised_perforated_tr]; exact hp)]
  exact ⟨rfl, rfl⟩

include he hres hq

/-- A carry with the motor off that reaches the stop point stops the projector. -/
theorem perforation_tail_stops (hp : (rec.p : Int) + x ≤ u.tr[rec.a].frame + 1) :
    TailEnded u r rec res (u.perforation rec.a true)
      ∧ (u.perforation rec.a true).ch = u.ch.set rec.a (stopTable { u.ch[rec.a] with still := 0 })
      ∧ (u.perforation rec.a true).tr[rec.a].frame = u.tr[rec.a].frame + 1 := by
  obtain ⟨det, hperf⟩ := perforation_of_film hm hcarry hf hl hperiod hfound hshort
  have hraised := raised_perforated_tr u rec.a
  generalize ((u.perforated rec.a true).raised rec.a).tr = tr at hperf hraised
  obtain ⟨hrecs, hch, htr, hqueue, hslot⟩ := tailoutOf_stops (s := u) hd he hrec ht hx hres hq
    (w := { u with ch := u.ch.set rec.a { u.ch[rec.a] with still := 0 }, tr := tr, det := det }) rfl
    (by show _ ≤ tr[rec.a].frame; rw [hraised]; exact hp)
  rw [← hperf] at hrecs hch htr hqueue hslot
  rw [getElem_set_same, Vector.set_set] at hch
  refine ⟨⟨hrecs, hslot, hqueue⟩, hch, ?_⟩
  rw [htr, getElem_set_same, haltedTracker_frame]
  exact (congrArg Tracker.frame hraised).trans rfl

end Carry

section Slip
variable {w : SlipWait} (hlock : u.tr[rec.a].lock = .locked) (hwait : u.tr[rec.a].slipWait = some w) (hb : w.boundary = u.tb.field)
  (hlo : -99999 ≤ w.g) (hhi : w.g ≤ 999999)
include hd hrec ht hx hl hperiod hfound hshort hlock hwait hb hlo hhi

/-- A slip correction short of the stop point. -/
theorem correctSlip_tail_short (hp : w.g < (rec.p : Int) + x) :
    (u.correctSlip rec.a).eng = u.eng ∧ (u.correctSlip rec.a).ch = u.ch := by
  obtain ⟨det, hslip⟩ := correctSlip_of_bare hlock hwait hb hlo hhi hl hperiod hshort hfound
  rw [hslip, tailoutOf_short hd hrec ht hx (s := u) rfl (by rw [getElem_set_same]; exact hp)]
  exact ⟨rfl, rfl⟩

include he hres hq

/-- A slip correction to the stop point or beyond it. -/
theorem correctSlip_tail_stops (hp : (rec.p : Int) + x ≤ w.g) :
    TailEnded u r rec res (u.correctSlip rec.a) ∧ (u.correctSlip rec.a).ch = u.ch.set rec.a (stopTable u.ch[rec.a]) := by
  obtain ⟨det, hslip⟩ := correctSlip_of_bare hlock hwait hb hlo hhi hl hperiod hshort hfound
  obtain ⟨hrecs, hch, -, hqueue, hslot⟩ := tailoutOf_stops (s := u) hd he hrec ht hx hres hq
    (w := { u with
      tr := u.tr.set rec.a { u.tr[rec.a] with pos := some ⟨w.g, w.i, w.c⟩, frame := w.g, slipWait := none }
      det := det }) rfl (by rw [getElem_set_same]; exact hp)
  rw [hslip]
  exact ⟨⟨hrecs, hslot, hqueue⟩, hch⟩

end Slip

end Film

/-! ### The cut, short of the stop point and at it -/

section Entry
variable {s v : State} {r : Rec} {rec : Record} {n : Nat} (h : Handed s r rec n v)
include h

theorem Handed.entry : v.eng.records[r] = some { rec with deferrals := n } := by rw [h.records]; exact getElem_set_same _ _ _

theorem Handed.fieldPos (p : Proj) : v.fieldPos p = s.fieldPos p := fieldPos_congr (by rw [h.rest]) (by rw [h.rest]) (by rw [h.rest]) p

/-- What a cut made short of the stop point comes to (R156). -/
theorem cut_of_enterTailout (hstays : ∀ x, rec.tailOut = some x → s.tr[rec.a].frame < rec.p + x) :
    let entered := { enteredTailout rec s.tb.field (s.fieldPos rec.b).isNone with deferrals := n }
    let t := v.enterTailout r
    ((∀ i : Isl, t.isl[i].claim ≠ some r) ∧ t.ch = s.ch ∧ t.tr = s.tr
      ∧ (∀ x, rec.tailOut = some x → s.tr[rec.a].frame < rec.p + x →
          t.eng.records = s.eng.records.set r (some entered) ∧ t.line.queue = s.line.queue)
      ∧ (rec.tailOut = none → t.eng.records = s.eng.records.set r none
          ∧ ∀ res, rec.result = some res → s.line.queue.length < 16 →
              t.line.queue = s.line.queue ++ [changeNotice r entered res s.tb.field]))
      ∧ t.take.tsrc = v.take.tsrc ∧ t.take.strobe = v.take.strobe ∧ ∀ i : Isl, t.isl[i].pending = v.isl[i].pending := by
  have hch : v.ch = s.ch := by rw [h.rest]
  have htr : v.tr = s.tr := by rw [h.rest]
  have htb : v.tb = s.tb := by rw [h.rest]
  have hline : v.line = s.line := by rw [h.rest]
  obtain ⟨hclaims, hc, ht, hsome, hnone, htsrc, hstrobe, hisl⟩ := enterTailout_cut h.entry (by rw [htr]; exact hstays)
  rw [h.records, htb, hline, h.fieldPos, Vector.set_set] at hsome hnone
  exact ⟨⟨hclaims, hc.trans hch, ht.trans htr, fun x hx _ => hsome x hx, hnone⟩, htsrc, hstrobe, fun i => by rw [hisl i]⟩

/-- What a cut made at the stop point comes to (R157). -/
theorem stop_of_enterTailout {x : Nat} {res : Result} (hrec : s.eng.records[r] = some rec) (hd : RecordsDisjoint s)
    (he : s.estop = false) (hx : rec.tailOut = some x) (hres : rec.result = some res) (hq : s.line.queue.length < 16)
    (hstop : (rec.p : Int) + x ≤ s.tr[rec.a].frame) :
    let entered := { enteredTailout rec s.tb.field (s.fieldPos rec.b).isNone with deferrals := n }
    let t := v.enterTailout r
    (t.eng.records = s.eng.records.set r none ∧ t.ch = s.ch.set rec.a (stopTable s.ch[rec.a])
      ∧ t.line.queue = s.line.queue ++ [changeNotice r entered res s.tb.field] ∧ t.take.slots[r] = none)
      ∧ t.take.tsrc = v.take.tsrc ∧ t.take.strobe = v.take.strobe := by
  have hch : v.ch = s.ch := by rw [h.rest]
  have htb : v.tb = s.tb := by rw [h.rest]
  have hline : v.line = s.line := by rw [h.rest]
  obtain ⟨hrecs, hc, hnotice, hslot, hport⟩ := enterTailout_stop h.entry (disjoint_of_set hd hrec h.records rfl rfl)
    (by rw [h.rest]; exact he) hx hres (by rw [hline]; exact hq) (by rw [show v.tr = s.tr by rw [h.rest]]; exact hstop)
  rw [h.records, Vector.set_set] at hrecs
  rw [hch] at hc
  rw [htb, hline, h.fieldPos] at hnotice
  exact ⟨⟨hrecs, hc, hnotice, hslot⟩, hport⟩

end Entry

end Sys2Proof.Machine
end

section
/-! The reactions to a boundary whose films disturb no other block, group by group: trackers, channels, islands, arming attempts. -/

namespace Sys2Proof.Machine
open Sys2Proof.Claims

/-- What a reaction that moves films alone may touch: the films, the alarms with their notices, and the steps that wait. -/
structure FilmOnly (s t : State) : Prop where
  eq : t = { s with
    ch := t.ch, tr := t.tr, det := t.det, alarm := t.alarm
    line := { s.line with queue := t.line.queue, discarded := t.line.discarded }, due := t.due, unmoved := t.unmoved }

namespace FilmOnly
variable {s t u : State}

theorem refl (s : State) : FilmOnly s s := ⟨rfl⟩

theorem trans (h : FilmOnly s t) (k : FilmOnly t u) : FilmOnly s u := ⟨by rw [k.eq, h.eq]⟩

variable (h : FilmOnly s t)
include h

theorem eng : t.eng = s.eng := by rw [h.eq]
theorem take : t.take = s.take := by rw [h.eq]
theorem isl : t.isl = s.isl := by rw [h.eq]
theorem cues : t.cues = s.cues := by rw [h.eq]
theorem tb : t.tb = s.tb := by rw [h.eq]

end FilmOnly

theorem Hushed.filmOnly {p : Proj} {s t : State} (h : Hushed p s t) : FilmOnly s t := ⟨h.eq⟩

theorem Notified.filmOnly {s t : State} (h : Notified s t) : FilmOnly s t := ⟨by rw [h.eq]⟩

theorem Strayed.filmOnly {k : Nat} {p : Proj} {s t : State} (h : Strayed k p s t) : FilmOnly s t := ⟨by rw [h.eq]⟩

/-! ### The trackers -/

/-- The next frame of a projector's film lies short of the stop point of a record in TAILOUT that has it as outgoing (R157). -/
def FilmShort (p : Proj) (s : State) : Prop :=
  ∀ (r : Rec) (rec : Record) (x : Nat) (q : Pos), s.eng.records[r] = some rec → rec.a = p → rec.state = .tailout →
    rec.tailOut = some x → s.tr[p].pos = some q → q.advance.f < (rec.p : Int) + x

theorem tailoutOf_of_short {s : State} {p : Proj} (h : ∀ (r : Rec) (rec : Record) (x : Nat), s.eng.records[r] = some rec → rec.a = p →
    rec.state = .tailout → rec.tailOut = some x → s.tr[p].frame < (rec.p : Int) + x) : s.tailoutOf p = s := by
  unfold State.tailoutOf
  cases hr : s.asOutgoing p with
  | none => rfl
  | some r =>
    obtain ⟨rec, hrec, ha⟩ := asOutgoing_some hr
    unfold State.tailoutTest
    simp only [hrec]
    cases hx : rec.tailOut with
    | none => rfl
    | some x =>
      refine if_neg fun ⟨ht, hp⟩ => ?_
      subst ha
      exact absurd (h r rec x hrec rfl ht hx) (by omega)

/-- A tracker with an empty list, short of a stop point, moves its film alone. -/
theorem tracked_filmOnly {s : State} {p : Proj} (hl : s.cues.lists[p] = []) (hshort : FilmShort p s) :
    FilmOnly s (s.tracked p) ∧ (s.tracked p).ch = s.ch := by
  by_cases hslip : s.slipsNow p = true
  · rw [tracked_of_slip s p hslip]
    exact ⟨⟨rfl⟩, rfl⟩
  by_cases hlock : s.tr[p].lock = .locked
  swap
  · rw [tracked_of_not_locked s p hlock]
    exact ⟨⟨rfl⟩, rfl⟩
  cases hpos : s.tr[p].pos with
  | none =>
    rw [tracked_of_no_pos s p hpos]
    exact ⟨⟨rfl⟩, rfl⟩
  | some q =>
    rw [tracked_cases (Bool.eq_false_iff.2 hslip) hlock hpos]
    split
    · exact ⟨⟨rfl⟩, rfl⟩
    · split
      · obtain ⟨w, hw, heq, -⟩ := frameAdvanced_of_empty (s.stepped p q.advance) p hl
        have hfilm : FilmOnly s w := FilmOnly.trans ⟨rfl⟩ hw.filmOnly
        have hframe : w.tr[p].frame = q.advance.f := by
          rw [hw.tr]
          exact congrArg Tracker.frame (getElem_set_same s.tr p { s.tr[p] with pos := some q.advance, frame := q.advance.f })
        rw [ahead_of_empty s p hl, heq, tailoutOf_of_short fun r rec x hrec ha ht hx => ?_]
        · exact ⟨hfilm, by rw [hw.eq]; rfl⟩
        · rw [hframe]
          exact hshort r rec x q (by rw [← hfilm.eng]; exact hrec) ha ht hx hpos
      · have hn := pass_notified ((s.ticked p).updTr p (fun t => { t with pos := some { q.advance with f := q.f } })) (.proj p .counterLimit)
        exact ⟨FilmOnly.trans ⟨rfl⟩ hn.filmOnly, hn.ch⟩

theorem trackerReact_filmOnly {s : State} {p : Proj} (hl : s.cues.lists[p] = []) (hshort : FilmShort p s) :
    FilmOnly s (s.trackerReact p) ∧ (s.trackerReact p).ch = s.ch := by
  obtain ⟨h, hch⟩ := tracked_filmOnly hl hshort
  rw [trackerReact_eq]
  exact ⟨h.trans ⟨rfl⟩, hch⟩

/-- The trackers of empty lists, short of every stop point, move their films alone. -/
theorem trackers_filmOnly {s : State} (hl : ∀ p : Proj, s.cues.lists[p] = []) (hshort : ∀ p, FilmShort p s) :
    FilmOnly s (allProj.foldl State.trackerReact s) ∧ (allProj.foldl State.trackerReact s).ch = s.ch := by
  refine (foldl_rest (f := State.trackerReact) (l := allProj) (s := s)
    (I := fun rest w => rest.Nodup ∧ FilmOnly s w ∧ w.ch = s.ch ∧ ∀ p ∈ rest, w.tr[p] = s.tr[p])
    (fun p rest w hw => ?_) ⟨allProj_nodup, .refl s, rfl, fun _ _ => rfl⟩).2.imp_right And.left
  obtain ⟨hnodup, hw, hch, htr⟩ := hw
  obtain ⟨hp, hrest⟩ := List.nodup_cons.1 hnodup
  obtain ⟨hstep, hch'⟩ := trackerReact_filmOnly (s := w) (p := p) (by rw [hw.cues]; exact hl p) fun r rec x q hrec ha ht hx hpos =>
    hshort p r rec x q (by rw [← hw.eng]; exact hrec) ha ht hx (by rw [← htr p List.mem_cons_self]; exact hpos)
  refine ⟨hrest, hw.trans hstep, hch'.trans hch, fun q hq => ?_⟩
  have hqp : q ≠ p := fun h => hp (h ▸ hq)
  exact ((trackerReact_within w p).films q hqp).2.1.trans (htr q (List.mem_cons_of_mem p hq))

/-! ### The channels -/

/-- The channels around one with a condition on its inputs: every other moves its film alone. -/
theorem channels_around {s : State} {y : Proj} (hloose : ∀ p : Proj, p ≠ y → Loose p s) :
    let t := allProj.foldl State.channelReact s
    ∃ v : State, (FilmOnly s v ∧ Kept s v ∧ v.ch[y] = s.ch[y])
      ∧ FilmOnly (v.channelReact y) t ∧ Kept (v.channelReact y) t ∧ t.ch[y] = (v.channelReact y).ch[y] := by
  have hkept (w : State) (p : Proj) : Kept w (w.channelReact p) := partReact_kept w (.channel p)
  have hother {w : State} {p : Proj} (hp : p ≠ y) (hw : Kept s w) :
      FilmOnly w (w.channelReact p) ∧ (w.channelReact p).ch[y] = w.ch[y] := by
    obtain ⟨h, -⟩ := channelReact_hushed w p ((hloose p hp).of_kept hw).inputFaults
    exact ⟨h.filmOnly, (h.others y (Ne.symm hp)).1⟩
  refine foldl_at (x := y) (f := State.channelReact) (I := fun w => FilmOnly s w ∧ Kept s w ∧ w.ch[y] = s.ch[y])
    (J := fun t => ∃ v : State, (FilmOnly s v ∧ Kept s v ∧ v.ch[y] = s.ch[y])
      ∧ FilmOnly (v.channelReact y) t ∧ Kept (v.channelReact y) t ∧ t.ch[y] = (v.channelReact y).ch[y])
    allProj_nodup (mem_allProj y) (fun w p _ hp ⟨hw, hk, hch⟩ => ?_) (fun w hw => ⟨w, hw, .refl _, .refl _, rfl⟩)
    (fun w p _ hp ⟨v, hv, hw, hk, hch⟩ => ?_) ⟨.refl s, .refl s, rfl⟩
  · obtain ⟨hstep, hy⟩ := hother hp hk
    exact ⟨hw.trans hstep, hk.trans (hkept w p), hy.trans hch⟩
  · obtain ⟨hstep, hy⟩ := hother hp ((hv.2.1.trans (hkept v y)).trans hk)
    exact ⟨v, hv, hw.trans hstep, hk.trans (hkept w p), hy.trans hch⟩

/-! ### The islands -/

/-- No drift reaches the claim of a record before TAILOUT (R155). -/
def ClaimsCalm (s : State) : Prop :=
  ∀ (i : Isl) (r : Rec) (rec : Record), s.isl[i].claim = some r → s.eng.records[r] = some rec → rec.state ≠ .tailout →
    s.isl[i].drifting s.pins.isl[i].mpos = false

/-- A mismatch on a claim of no record, or of one in TAILOUT, ends nothing (R155). -/
theorem engineMismatch_of_calm {s : State} {i : Isl}
    (h : ∀ (r : Rec) (rec : Record), s.isl[i].claim = some r → s.eng.records[r] = some rec → rec.state = .tailout) :
    s.engineMismatch i = s := by
  unfold State.engineMismatch
  cases hc : s.isl[i].claim with
  | none => rfl
  | some r =>
    simp only
    cases hrec : s.eng.records[r] with
    | none =>
      refine (if_neg nofun).trans ?_
      unfold State.endRecord
      rw [hrec]
    | some rec => exact if_pos (decide_eq_true (h r rec hc hrec))

/-- An island read: no claim is released, and no other island is touched. -/
structure IslandRead (i : Isl) (s t : State) : Prop where
  unstirred : Unstirred s t
  claim : ∀ j : Isl, t.isl[j].claim = s.isl[j].claim
  others : ∀ j : Isl, j ≠ i → t.isl[j] = s.isl[j]

namespace IslandRead
variable {i : Isl} {s t u : State}

theorem trans (h : IslandRead i s t) (k : IslandRead i t u) : IslandRead i s u :=
  ⟨h.unstirred.trans k.unstirred, fun j => (k.claim j).trans (h.claim j), fun j hj => (k.others j hj).trans (h.others j hj)⟩

theorem of_notified (h : Notified s t) : IslandRead i s t := ⟨h.unstirred, fun j => by rw [h.isl], fun j _ => by rw [h.isl]⟩

theorem updIsl (s : State) {f : Island → Island} (hf : (f s.isl[i]).claim = s.isl[i].claim) : IslandRead i s (s.updIsl i f) :=
  ⟨⟨rfl⟩, forall_set (R := fun x y : Island => y.claim = x.claim) (fun _ => rfl) s.isl i hf, fun _ hj => getElem_set_other _ _ hj⟩

theorem wait (s : State) (ds : List Due) : IslandRead i s (s.wait ds) := ⟨⟨rfl⟩, fun _ => rfl, fun _ _ => rfl⟩

end IslandRead

theorem mirrorRead_of_calm {s : State} {i : Isl} (h : s.isl[i].drifting s.pins.isl[i].mpos = true → ∀ (r : Rec) (rec : Record),
    s.isl[i].claim = some r → s.eng.records[r] = some rec → rec.state = .tailout) : IslandRead i s (s.mirrorRead i) := by
  have hread : IslandRead i s (s.updIsl i fun u => u.read s.pins.isl[i].mpos) := .updIsl s rfl
  unfold State.mirrorRead
  simp only
  generalize (s.updIsl i fun u => u.read s.pins.isl[i].mpos) = w at hread
  split
  · rename_i hd
    have hw : IslandRead i w ((w.updIsl i fun u => { u with mismatch := true }).pass (.isl i .mirrorMismatch)) :=
      (IslandRead.updIsl w rfl).trans (.of_notified (pass_notified _ _))
    have hraised := hread.trans hw
    unfold State.raiseMismatch
    generalize (w.updIsl i fun u => { u with mismatch := true }).pass (.isl i .mirrorMismatch) = v at hraised
    rw [engineMismatch_of_calm fun r rec hc hrec => h hd r rec ((hraised.claim i).symm.trans hc) (by rw [← hraised.unstirred.eng]; exact hrec)]
    exact hraised
  · exact hread

theorem islandStep_of_calm {s : State} {i : Isl} (h : s.isl[i].drifting s.pins.isl[i].mpos = true → ∀ (r : Rec) (rec : Record),
    s.isl[i].claim = some r → s.eng.records[r] = some rec → rec.state = .tailout) : IslandRead i s (s.islandStep i) := by
  unfold State.islandStep
  rw [readMirror_eq, readTally_eq]
  exact (((mirrorRead_of_calm h).trans (.wait _ _)).trans (.updIsl _ rfl)).trans (.of_notified (passIf_notified _ _ _))

/-- The islands' reaction with every claim calm leaves the claims, the records, the requests and the takes. -/
theorem islandsReact_of_calm {s : State} (h : ClaimsCalm s) :
    Unstirred s (s.partReact .islands) ∧ ∀ j : Isl, (s.partReact .islands).isl[j].claim = s.isl[j].claim := by
  have hread : Unstirred s s.islandsRead ∧ ∀ j : Isl, s.islandsRead.isl[j].claim = s.isl[j].claim :=
    (foldl_along (f := State.islandStep) (l := allIsl) (done := []) (s := s)
    (I := fun done w => Unstirred s w ∧ (∀ j : Isl, w.isl[j].claim = s.isl[j].claim) ∧ ∀ i ∉ done, w.isl[i] = s.isl[i])
    (fun done w i hi hw => ?_) (by decide) ⟨Unstirred.refl s, fun _ => rfl, fun _ _ => rfl⟩).imp_right And.left
  · rw [partReact_islands]
    generalize s.islandsRead = w at hread
    obtain ⟨hun, hclaim⟩ := hread
    exact ⟨hun.trans (observeWindow_unstirred _), hclaim⟩
  · obtain ⟨hun, hclaim, hrest⟩ := hw
    have hstep := islandStep_of_calm (s := w) (i := i) fun hd r rec hc hrec => by
      by_contra hlive
      rw [hrest i hi, hun.pins] at hd
      rw [hrest i hi] at hc
      rw [hun.eng] at hrec
      exact ne_true_of_eq_false (h i r rec hc hrec hlive) hd
    refine ⟨hun.trans hstep.unstirred, fun j => (hstep.claim j).trans (hclaim j), fun j hj => ?_⟩
    simp only [List.mem_append, List.mem_singleton, not_or] at hj
    exact (hstep.others j hj.2).trans (hrest j hj.1)

/-! ### The arming attempts and the arbitration -/

theorem armingParts_of_empty {s : State} (hl : ∀ p : Proj, s.cues.lists[p] = []) : armingParts.foldl State.partReact s = s :=
  foldl_inv (I := fun w => w = s) (fun w x hx hw => by
    obtain ⟨p, -, rfl⟩ := List.mem_map.1 hx
    subst hw
    exact armAttempt_of_no_change w p (by rw [hl p]; exact nofun)) rfl

/-- No arbitration comes to wait where no request is eligible (R92). -/
theorem takesReact_of_none {s : State} (h : ¬Eligible s s.field s.tb.madeInSync) (hd : .takeGrant ∉ s.due) :
    .takeGrant ∉ s.takesReact.due := by
  have hno : ¬s.winner.isSome = true := mt (winner_isSome_iff s).1 h
  obtain ⟨slots, heq⟩ := countDeferrals_eq s none
  unfold State.takesReact
  rw [if_neg hno, heq]
  exact hd

end Sys2Proof.Machine
end

section
/-! A LOOP_LOSS among the reactions to a boundary: what the fault hands on, and the films' reactions around it (R31, R100, R158). -/

namespace Sys2Proof.Machine
open Sys2Proof.Claims

/-! ### The protective request of a fault (R100, R104) -/

/-- What a fault hands on before the engine takes it: the events, and the take port's decisions. -/
def State.guarded (s : State) (p : Proj) (faults : List ChanFault) : State :=
  faults.foldl (fun s f => s.protect p f.kind) (faults.foldl (fun s f => s.pass (.proj p f.alarm)) s)

theorem guarded_protectOnly (s : State) (p : Proj) (faults : List ChanFault) : ProtectOnly s (s.guarded p faults) := by
  refine ProtectOnly.trans (t := faults.foldl (fun s f => s.pass (.proj p f.alarm)) s) ?_ ?_
  · exact foldl_inv (I := ProtectOnly s) (fun w f _ hw => hw.trans (pass_notified w _).protectOnly) (.refl s)
  · exact foldl_inv (I := ProtectOnly _) (fun w f _ hw => hw.trans (protect_protectOnly w p f.kind)) (.refl _)

/-- The protective request, if one is pending, was posted in a field. -/
def PostedAt (n : Field) (s : State) : Prop := ∀ q ∈ s.take.protective, q.posted = n

theorem postProtective_postedAt {s : State} {n : Field} (hn : s.tb.field = n) (h : PostedAt n s) (c : Source) (x : Option Proj) :
    PostedAt n (s.postProtective c x) := by
  intro q hq
  cases hp : s.take.protective with
  | none =>
    have hq' : some (⟨c, x, s.field, fieldAdd s.field 1⟩ : ProtectReq) = some q := by
      rw [← hq]
      simp only [State.postProtective, State.updTake, hp]
    cases hq'
    exact hn
  | some old =>
    have hold := h old hp
    have hq' : (if old.source = c then some old else some { old with source := c, target := x }) = some q := by
      rw [← hq]
      unfold State.postProtective State.updTake
      simp only [hp]
      split
      · exact hp.symm
      · rfl
    split at hq' <;> cases hq' <;> exact hold

theorem emergencyCut_postedAt {s : State} {n : Field} (hn : s.tb.field = n) (h : PostedAt n s) (r : Rec) : PostedAt n (s.emergencyCut r) := by
  unfold State.emergencyCut
  split
  · exact h
  · split
    · exact h
    · split
      · exact postProtective_postedAt hn h _ _
      · exact h

theorem protect_postedAt {s : State} {n : Field} (hn : s.tb.field = n) (h : PostedAt n s) (p : Proj) (k : ProtectKind) :
    PostedAt n (s.protect p k) := by
  have hpass := passIf_notified s (s.isProtective p k || s.strikesTarget p k) (.proj p .protect)
  unfold State.protect
  extract_lets isProt strikes s1 s2
  have h1 : s1.tb.field = n ∧ PostedAt n s1 := ⟨by rw [hpass.tb]; exact hn, by unfold PostedAt; rw [hpass.take]; exact h⟩
  have h2 : s2.tb.field = n ∧ PostedAt n s2 := by
    show State.field (if strikes then s1.retarget else s1) = n ∧ PostedAt n (if strikes then s1.retarget else s1)
    split
    · refine ⟨h1.1, fun q hq => ?_⟩
      obtain ⟨old, hold, rfl⟩ := Option.map_eq_some_iff.1 (show s1.take.protective.map _ = some q from hq)
      exact h1.2 old hold
    · exact h1
  clear_value s2
  split
  · split
    · exact emergencyCut_postedAt h2.1 h2.2 _
    · exact postProtective_postedAt h2.1 h2.2 _ _
  · exact h2.2

theorem guarded_postedAt {s : State} (h : s.take.protective = none) (p : Proj) (faults : List ChanFault) :
    PostedAt s.tb.field (s.guarded p faults) := by
  have hpass := foldl_inv (f := fun (s : State) (f : ChanFault) => s.pass (.proj p f.alarm)) (l := faults) (I := Notified s)
    (fun w f _ hw => hw.trans (pass_notified w _)) (.refl s)
  refine (foldl_inv (I := fun w : State => w.tb.field = s.tb.field ∧ PostedAt s.tb.field w) (fun w f _ hw =>
    ⟨(congrArg Timebase.field (protect_protectOnly w p f.kind).tb).trans hw.1, protect_postedAt hw.1 hw.2 p f.kind⟩)
    ⟨by rw [hpass.tb], ?_⟩).2
  unfold PostedAt
  rw [hpass.take, h]
  exact nofun

/-! ### The record of a fault's projector (R158) -/

/-- A fault on a projector of a record ends it, but for the incoming one of a record in TAILOUT. -/
theorem engineFault_ends {s : State} {p : Proj} {r : Rec} {rec : Record} (hd : RecordsDisjoint s) (hrec : s.eng.records[r] = some rec)
    (h : rec.a = p ∨ rec.b = p ∧ rec.state ≠ .tailout) (e : Bool) : ∃ res, s.engineFault p e = s.endRecord r res := by
  unfold State.engineFault
  rcases h with rfl | ⟨rfl, hlive⟩
  · rw [asOutgoing_of_record hd hrec]
    exact ⟨_, rfl⟩
  · obtain ⟨hout, hin⟩ := asIncoming_of_record hd hrec
    rw [hout, hin]
    simp only [hrec]
    exact ⟨_, if_neg fun ht => hlive (of_decide_eq_true ht)⟩

section Fault
variable (s : State) (p : Proj) (f : ChanFault) (fs : List ChanFault)

theorem enterFault_eng : (s.enterFault p (f :: fs)).eng = (s.beforeFault p (f :: fs)).eng := rfl

theorem enterFault_takePort : (s.enterFault p (f :: fs)).take = (s.beforeFault p (f :: fs)).take := rfl

theorem enterFault_postedAt (h : s.take.protective = none) : PostedAt s.tb.field (s.enterFault p (f :: fs)) := by
  have htake := congrArg State.take
    (engineFault_engineOnly (s.guarded p (f :: fs)) p ((f :: fs).any fun x => s.choosesEmergency p x.kind)).eq
  have hguard := guarded_postedAt h p (f :: fs)
  unfold PostedAt
  rw [enterFault_takePort]
  show ∀ q ∈ (State.engineFault (s.guarded p (f :: fs)) p _).take.protective, _
  rw [htake]
  exact hguard

variable {s p}

theorem enterFault_ends {r : Rec} {rec : Record} (hd : RecordsDisjoint s) (hrec : s.eng.records[r] = some rec)
    (h : rec.a = p ∨ rec.b = p ∧ rec.state ≠ .tailout) :
    (s.enterFault p (f :: fs)).eng.records = s.eng.records.set r none ∧ (s.enterFault p (f :: fs)).take.slots[r] = none := by
  have heng : (s.guarded p (f :: fs)).eng = s.eng := (guarded_protectOnly s p (f :: fs)).eng
  have hrec' : (s.guarded p (f :: fs)).eng.records[r] = some rec := by rw [heng]; exact hrec
  obtain ⟨res, hres⟩ := engineFault_ends (by rw [RecordsDisjoint, heng]; exact hd) hrec' h
    ((f :: fs).any fun x => s.choosesEmergency p x.kind)
  have hbefore : s.beforeFault p (f :: fs) = (s.guarded p (f :: fs)).endRecord r res := hres
  rw [enterFault_eng, enterFault_takePort, hbefore]
  exact ⟨(endRecord_frees hrec' res).1.trans (by rw [heng]), endRecord_slot _ r res hrec'⟩

theorem enterFault_keeps (h : Freed p s) : (s.enterFault p (f :: fs)).eng = s.eng := by
  have heng : (s.guarded p (f :: fs)).eng = s.eng := (guarded_protectOnly s p (f :: fs)).eng
  rw [enterFault_eng]
  show (State.engineFault (s.guarded p (f :: fs)) p _).eng = _
  rw [engineFault_of_freed _ p _ (by unfold Freed; rw [heng]; exact h), heng]

end Fault

/-! ### LOOP at a channel in RUN -/

/-- The channel that LOOP finds in RUN enters FAULT with LOOP_LOSS first among its faults (R31). -/
theorem channelReact_loop {s : State} {p : Proj} (hrun : s.ch[p].state = .run) (hloop : s.alarm.flags[p].loop = true)
    (htail : s.alarm.flags[p].tail = false) (hfresh : ∀ x ∈ s.ch[p].record, x.startField ≠ s.tb.field) :
    ∃ fs, s.channelReact p = (s.counted p).enterFault p (.loopLoss :: fs) := by
  have hinputs : s.inputFaults p = [.loopLoss] := by
    unfold State.inputFaults
    rw [counted_ch, inputFaults_eq (s.ch[p].count s.field s.alarm.flags[p].lampok) s.field _ hfresh, if_pos ⟨hloop, .inr hrun⟩,
      if_neg fun h => ne_true_of_eq_false htail h.1]
    rfl
  refine ⟨(s.counted p).ch[p].countFaults (decide ((s.counted p).ch[p].lampFails = 2)) true, (channelReact_of_faults s p (by rw [hinputs]; exact nofun)).trans ?_⟩
  rw [hinputs]
  rfl

/-! ### The films' reactions around a LOOP_LOSS -/

/-- The trackers' reactions and then the channels'. -/
def State.filmsReact (s : State) : State := allProj.foldl State.channelReact (allProj.foldl State.trackerReact s)

/-- What the films' reactions leave where LOOP_LOSS puts one channel in FAULT. -/
structure LoopLost (y : Proj) (s t : State) : Prop where
  state : t.ch[y].state = .fault
  cause : t.ch[y].cause = .loopLoss
  kept : Kept s t
  cues : t.cues = s.cues
  take : t.take = { s.take with slots := t.take.slots, protective := t.take.protective }
  slots : ∀ x : Rec, s.take.slots[x] = none → t.take.slots[x] = none
  posted : s.take.protective = none → PostedAt s.tb.field t
  pending : NoMirrorLock s → ∀ i : Isl, t.isl[i].pending = s.isl[i].pending
  ends : ∀ (r : Rec) (rec : Record), RecordsDisjoint s → s.eng.records[r] = some rec → rec.a = y ∨ rec.b = y ∧ rec.state ≠ .tailout →
    t.eng.records = s.eng.records.set r none ∧ t.take.slots[r] = none
  keeps : Freed y s → t.eng = s.eng

theorem filmsReact_loop {s : State} {y : Proj} (hl : ∀ p : Proj, s.cues.lists[p] = []) (hshort : ∀ p, FilmShort p s)
    (hloose : ∀ p : Proj, p ≠ y → Loose p s) (hrun : s.ch[y].state = .run) (hloop : s.alarm.flags[y].loop = true)
    (htail : s.alarm.flags[y].tail = false) (hfresh : ∀ x ∈ s.ch[y].record, x.startField ≠ s.tb.field) : LoopLost y s s.filmsReact := by
  have hkept : Kept s (allProj.foldl State.trackerReact s) :=
    foldl_inv (I := Kept s) (fun w p _ hw => hw.trans (partReact_kept w (.tracker p))) (.refl s)
  obtain ⟨htrackers, hch⟩ := trackers_filmOnly hl hshort
  unfold State.filmsReact
  generalize allProj.foldl State.trackerReact s = x at hkept htrackers hch
  obtain ⟨v, ⟨hv, hkv, hvy⟩, ht, hkt, hty⟩ := channels_around (s := x) (y := y) fun p hp => (hloose p hp).of_kept hkept
  generalize allProj.foldl State.channelReact x = t at ht hkt hty
  have hsv : FilmOnly s v := htrackers.trans hv
  have hflags : v.alarm.flags = s.alarm.flags := hkv.flags.trans hkept.flags
  rw [hch] at hvy
  have hkr : Kept v (v.channelReact y) := partReact_kept v (.channel y)
  obtain ⟨fs, hfault⟩ := channelReact_loop (s := v) (p := y) (by rw [hvy]; exact hrun) (by rw [hflags]; exact hloop)
    (by rw [hflags]; exact htail) (by rw [hvy, hsv.tb]; exact hfresh)
  have hcounted : FilmOnly s (v.counted y) := hsv.trans ⟨rfl⟩
  rw [hfault] at ht hty hkr hkt
  obtain ⟨hstate, -, -⟩ := enterFault_spec (v.counted y) y (fs := .loopLoss :: fs) nofun
  have hsteady := enterFault_steady (S := .of y) (v.counted y) (of_has y) (.loopLoss :: fs)
  obtain ⟨hcalm, -⟩ := hsteady.calm not_false
  have heng : (v.counted y).eng = s.eng := hcounted.eng
  refine ⟨?_, ?_, ((hkept.trans hkv).trans hkr).trans hkt, ?_, ?_, fun r hr => ?_, fun hnone => ?_, fun hlock i => ?_,
    fun r rec hd hrec h => ?_, fun hfreed => ?_⟩
  · rw [hty, hstate]
    rfl
  · rw [hty, hstate]
    rfl
  · rw [ht.cues]
    show (State.beforeFault (v.counted y) y (.loopLoss :: fs)).cues = _
    rw [(beforeFault_handedOn _ _ _).cues, hcounted.cues]
  · rw [ht.take]
    rw [hcounted.take] at hcalm
    exact hcalm
  · rw [ht.take]
    exact (hsteady.olds not_false).2.2 r (by rw [hcounted.take]; exact hr)
  · unfold PostedAt
    rw [ht.take, ← hcounted.tb]
    exact enterFault_postedAt _ y .loopLoss fs (by rw [hcounted.take]; exact hnone)
  · rw [ht.isl]
    obtain ⟨-, hmirror, -⟩ := hsteady.mirrors not_false (by unfold NoMirrorLock; rw [heng]; exact hlock)
    exact (hmirror i).2.1.trans (by rw [hcounted.isl])
  · obtain ⟨hrecs, hslot⟩ := enterFault_ends (s := v.counted y) .loopLoss fs (by rw [RecordsDisjoint, heng]; exact hd)
      (by rw [heng]; exact hrec) h
    rw [ht.eng, ht.take, hrecs, heng]
    exact ⟨rfl, hslot⟩
  · rw [ht.eng, enterFault_keeps .loopLoss fs (by unfold Freed; rw [heng]; exact hfreed), heng]

end Sys2Proof.Machine
end

section
/-! The race of a LOOP_LOSS with the cut of its boundary: the orders of the reactions, and a record alone in the table (R158, R159). -/

namespace Sys2Proof.Machine
open Sys2Proof.Claims

/-! ### The orders -/

/-- The films' reactions as parts of a boundary. -/
def filmParts : List Part := allProj.map .tracker ++ allProj.map .channel

theorem filmParts_foldl (s : State) : filmParts.foldl State.partReact s = s.filmsReact := by
  unfold filmParts State.filmsReact
  rw [List.foldl_append, List.foldl_map, List.foldl_map]
  rfl

theorem partOrder_plain : partOrder ⟨[]⟩ = (filmParts ++ .islands :: armingParts) ++ [.take] := by decide

theorem partOrder_grantFirst : partOrder ⟨[.take]⟩ = .take :: .step .takeGrant :: (filmParts ++ .islands :: armingParts) := by decide

theorem partOrder_mirrorFirst (i : Isl) : partOrder ⟨[.islands, .step (.mirrorComplete i)]⟩ =
    .islands :: .step (.mirrorComplete i) :: (filmParts ++ armingParts ++ [.take]) := by
  revert i
  decide

/-! ### A LOOP that stands at a channel in RUN -/

/-- LOOP stands at one channel in RUN, TAIL at none, and no list has an entry. -/
structure Looping (y : Proj) (s : State) : Prop where
  lists : ∀ p : Proj, s.cues.lists[p] = []
  loose : ∀ p : Proj, p ≠ y → Loose p s
  run : s.ch[y].state = .run
  loop : s.alarm.flags[y].loop = true
  tail : s.alarm.flags[y].tail = false
  fresh : ∀ x ∈ s.ch[y].record, x.startField ≠ s.tb.field

theorem Looping.congr {y : Proj} {s t : State} (h : Looping y s) (hk : Kept s t) (hch : t.ch[y] = s.ch[y])
    (hl : ∀ p : Proj, t.cues.lists[p] = []) : Looping y t where
  lists := hl
  loose p hp := (h.loose p hp).of_kept hk
  run := by rw [hch]; exact h.run
  loop := by rw [hk.flags]; exact h.loop
  tail := by rw [hk.flags]; exact h.tail
  fresh := by rw [hch, hk.tb]; exact h.fresh

theorem Looping.filmsReact {y : Proj} {s : State} (h : Looping y s) (hshort : ∀ p, FilmShort p s) : LoopLost y s s.filmsReact :=
  filmsReact_loop h.lists hshort h.loose h.run h.loop h.tail h.fresh

/-! ### A record alone in the table -/

/-- A record is alone in the table, its two projectors distinct. -/
structure Alone (r : Rec) (rec : Record) (s : State) : Prop where
  records : s.eng.records = (Vector.replicate 4 none).set r (some rec)
  ne : rec.a ≠ rec.b

namespace Alone
variable {r : Rec} {rec : Record} {s t : State} (h : Alone r rec s)
include h

theorem entry : s.eng.records[r] = some rec := by rw [h.records]; exact getElem_set_same _ _ _

theorem eq {x : Rec} {old : Record} (hx : s.eng.records[x] = some old) : x = r ∧ old = rec := by
  rw [h.records] at hx
  by_cases hxr : x = r
  · subst hxr
    rw [getElem_set_same] at hx
    cases hx
    exact ⟨rfl, rfl⟩
  · rw [getElem_set_other _ _ hxr] at hx
    simp at hx

theorem disjoint : RecordsDisjoint s := by
  intro x z recx recz hx hz
  obtain ⟨rfl, rfl⟩ := h.eq hx
  obtain ⟨rfl, rfl⟩ := h.eq hz
  exact ⟨h.ne, fun hne => absurd rfl hne⟩

theorem noMirrorLock (hs : rec.state ≠ .locked) : NoMirrorLock s := by
  intro x old hx
  rw [(h.eq hx).2]
  exact fun hm => hs hm.2

theorem ended (ht : t.eng.records = s.eng.records.set r none) (x : Rec) : t.eng.records[x] = none := by
  rw [ht, h.records, Vector.set_set]
  by_cases hx : x = r
  · rw [hx]
    exact getElem_set_same _ _ _
  · rw [getElem_set_other _ _ hx]
    simp

theorem congr (ht : t.eng = s.eng) : Alone r rec t := ⟨by rw [ht]; exact h.records, h.ne⟩

theorem cutTo {cut : Record} (hb : cut.a = rec.a ∧ cut.b = rec.b) (ht : t.eng.records = s.eng.records.set r (some cut)) : Alone r cut t :=
  ⟨by rw [ht, h.records, Vector.set_set], by rw [hb.1, hb.2]; exact h.ne⟩

end Alone

/-! ### LOOP_LOSS before the cut, and behind it -/

section Lost
variable {r : Rec} {rec : Record} {s : State} {y : Proj} (h : Alone r rec s) (hy : y = rec.a ∨ y = rec.b) (hloop : Looping y s)
include h hy hloop

/-- LOOP_LOSS on a projector of a record before TAILOUT ends it. -/
theorem filmsReact_ends (hlive : rec.state ≠ .tailout) :
    LoopLost y s s.filmsReact ∧ (∀ x : Rec, s.filmsReact.eng.records[x] = none) ∧ s.filmsReact.take.slots[r] = none := by
  have hlost := hloop.filmsReact fun p x old w q hx _ ht => absurd ((h.eq hx).2 ▸ ht) hlive
  obtain ⟨hrecs, hslot⟩ := hlost.ends r rec h.disjoint h.entry (hy.imp Eq.symm fun hb => ⟨hb.symm, hlive⟩)
  exact ⟨hlost, h.ended hrecs, hslot⟩

/-- LOOP_LOSS behind the cut ends the record of the outgoing projector, and leaves that of the incoming one (R158). -/
theorem filmsReact_tailout (ht : rec.state = .tailout) (hshort : FilmShort rec.a s) :
    LoopLost y s s.filmsReact ∧ (y = rec.a → ∀ x : Rec, s.filmsReact.eng.records[x] = none)
      ∧ (y = rec.b → s.filmsReact.eng = s.eng) := by
  have hlost := hloop.filmsReact fun p x old w q hx ha => by
    obtain ⟨rfl, rfl⟩ := h.eq hx
    subst ha
    exact hshort x old w q hx rfl
  refine ⟨hlost, fun ha => h.ended (hlost.ends r rec h.disjoint h.entry (.inl ha.symm)).1, fun hb => hlost.keeps fun x old hx => ?_⟩
  obtain ⟨-, rfl⟩ := h.eq hx
  exact ⟨fun ha => h.ne (ha.trans hb), fun _ => ht⟩

end Lost

/-- What is left of the boundary's blocks after the films: the islands read with calm claims, and no arming. -/
theorem islands_arming {s : State} (hl : ∀ p : Proj, s.cues.lists[p] = []) (hcalm : ClaimsCalm s) :
    let t := (Part.islands :: armingParts).foldl State.partReact s
    Unstirred s t ∧ t.ch = s.ch := by
  obtain ⟨hun, -⟩ := islandsReact_of_calm hcalm
  have hw := islandsReact_within (R := fun _ => True) s fun _ _ _ _ _ _ _ => .inl trivial
  have hempty : ∀ p : Proj, (s.partReact .islands).cues.lists[p] = [] := fun p => by rw [hun.cues]; exact hl p
  rw [List.foldl_cons, armingParts_of_empty hempty]
  exact ⟨hun, vector_ext fun p => (hw.films p not_false).1⟩

end Sys2Proof.Machine
end

section
/-! The plain order, and the orders that have the cut first (R93, R155, R158, R159). -/

namespace Sys2Proof.Machine
open Sys2Proof.Claims

theorem react_eq (s : State) {o : BoundaryOrder} {l : List Part} (h : partOrder o = l) : s.react o = l.foldl State.partReact s :=
  congrArg (List.foldl State.partReact s) h

theorem foldl_calm {l : List Part} (hl : .take ∉ l) {s : State} (hd : .takeGrant ∉ s.due) : .takeGrant ∉ (l.foldl State.partReact s).due :=
  foldl_inv (I := fun w : State => .takeGrant ∉ w.due)
    (fun w _ hx hw => (partReact_calm w (fun h => hl (h ▸ hx)) hw).due (fun h => hl (h ▸ hx)) hw) hd

/-- No request is eligible: the protective one, if any, is of this very field, and there is no other (R91, R92). -/
theorem not_eligible {s : State} {n : Field} {inSync : Bool} (hp : PostedAt n s) (hslots : ∀ x : Rec, s.take.slots[x] = none)
    (hhost : s.take.host = none) : ¬Eligible s n inSync := by
  rintro (⟨q, hq, hready⟩ | ⟨-, ⟨x, q, hq, -⟩ | ⟨q, hq, -⟩⟩)
  · have hposted : q.posted = n := hp q hq
    have hlt := hready.1
    rw [hposted] at hlt
    simp [fieldDiff] at hlt
  · rw [hslots x] at hq
    cases hq
  · rw [hhost] at hq
    cases hq

/-! ### The plain order: the fault, and then no cut -/

/-- A fault that ends the record of its projector before the cut. -/
structure FaultFirst (y : Proj) (r : Rec) (s t : State) : Prop where
  state : t.ch[y].state = .fault
  cause : t.ch[y].cause = .loopLoss
  record : t.eng.records[r] = none
  slot : t.take.slots[r] = none
  tsrc : t.take.tsrc = s.take.tsrc

section Plain
variable {r : Rec} {rec : Record} {s : State} {y : Proj} (h : Alone r rec s) (hy : y = rec.a ∨ y = rec.b) (hloop : Looping y s)
  (hlive : rec.state ≠ .tailout)
include h hy hloop hlive

/-- What the plain order's reactions but the arbitration come to. -/
theorem plain_blocks : let t := (filmParts ++ .islands :: armingParts).foldl State.partReact s
    FaultFirst y r s t ∧ (∀ p : Proj, t.cues.lists[p] = [])
      ∧ ((∀ x : Rec, x ≠ r → s.take.slots[x] = none) → ∀ x : Rec, t.take.slots[x] = none)
      ∧ (s.take.protective = none → PostedAt s.tb.field t) ∧ t.take.host = s.take.host := by
  obtain ⟨hlost, hnone, hslot⟩ := filmsReact_ends h hy hloop hlive
  intro t
  have ht : t = (Part.islands :: armingParts).foldl State.partReact s.filmsReact := by
    show (filmParts ++ Part.islands :: armingParts).foldl State.partReact s = _
    rw [List.foldl_append, filmParts_foldl]
  generalize s.filmsReact = w at hlost hnone hslot ht
  have hlists : ∀ p : Proj, w.cues.lists[p] = [] := fun p => by rw [hlost.cues]; exact hloop.lists p
  obtain ⟨hun, hch⟩ := islands_arming hlists fun i x old _ hx => nomatch (hnone x).symm.trans hx
  rw [← ht] at hun hch
  refine ⟨⟨by rw [hch]; exact hlost.state, by rw [hch]; exact hlost.cause, by rw [hun.eng]; exact hnone r,
    by rw [hun.take]; exact hslot, by rw [hun.take, hlost.take]⟩, fun p => by rw [hun.cues]; exact hlists p, fun hslots x => ?_,
    fun hp => by unfold PostedAt; rw [hun.take]; exact hlost.posted hp, by rw [hun.take, hlost.take]⟩
  rw [hun.take]
  by_cases hx : x = r
  · rw [hx]
    exact hslot
  · exact hlost.slots x (hslots x hx)

/-- In the plain order the fault comes first and ends the record. -/
theorem react_plain : FaultFirst y r s (s.react ⟨[]⟩) := by
  obtain ⟨hfirst, hlists, -⟩ := plain_blocks h hy hloop hlive
  rw [react_eq s partOrder_plain, List.foldl_append]
  generalize (filmParts ++ Part.islands :: armingParts).foldl State.partReact s = w at hfirst hlists
  show FaultFirst y r s w.takesReact
  have hended : EndedForGood r w.takesReact := EndedForGood.takes ⟨hfirst.record, hfirst.slot, hlists⟩
  obtain ⟨slots, ds, heq, -⟩ := takesReact_eq w
  refine ⟨by rw [takesReact_ch]; exact hfirst.state, by rw [takesReact_ch]; exact hfirst.cause, hended.record, hended.slot, ?_⟩
  rw [heq]
  exact hfirst.tsrc

/-- And no arbitration comes to wait. -/
theorem react_plain_calm (hslots : ∀ x : Rec, x ≠ r → s.take.slots[x] = none) (hp : s.take.protective = none) (hhost : s.take.host = none)
    (hd : .takeGrant ∉ s.due) : .takeGrant ∉ (s.react ⟨[]⟩).due := by
  obtain ⟨-, -, hnone, hposted, hhost'⟩ := plain_blocks h hy hloop hlive
  have hkept := foldl_kept (filmParts ++ Part.islands :: armingParts) s
  have hcalm := foldl_calm (l := filmParts ++ Part.islands :: armingParts) (by decide) hd
  rw [react_eq s partOrder_plain, List.foldl_append]
  generalize (filmParts ++ Part.islands :: armingParts).foldl State.partReact s = w at hnone hposted hhost' hkept hcalm
  refine takesReact_of_none (not_eligible ?_ (hnone hslots) (hhost'.trans hhost)) hcalm
  rw [State.field, hkept.tb]
  exact hposted hp

end Plain

/-! ### The cut first -/

/-- A record whose cut is made before the films react. -/
structure CutMade (r : Rec) (rec : Record) (n : Field) (s t : State) : Prop where
  made : ∃ cut : Record, t.eng.records = s.eng.records.set r (some cut) ∧ cut.state = .tailout ∧ cut.cutMade = some n ∧ cut.a = rec.a
    ∧ cut.b = rec.b ∧ cut.p = rec.p ∧ cut.tailOut = rec.tailOut
  kept : Kept s t
  ch : t.ch = s.ch
  tr : t.tr = s.tr
  cues : t.cues = s.cues

/-- A fault behind the cut: the record of the outgoing projector ends, that of the incoming one stays in TAILOUT. -/
structure FaultBehind (y : Proj) (r : Rec) (rec : Record) (n : Field) (t : State) : Prop where
  state : t.ch[y].state = .fault
  cause : t.ch[y].cause = .loopLoss
  outgoing : y = rec.a → t.eng.records[r] = none
  incoming : y = rec.b → ∃ cut : Record, t.eng.records[r] = some cut ∧ cut.state = .tailout ∧ cut.cutMade = some n

/-- A frame advance of a film whose position goes with its frame count. -/
theorem advance_le (q : Pos) : q.advance.f ≤ q.f + 1 := by
  unfold Pos.advance
  split
  · show q.f ≤ q.f + 1
    omega
  · exact le_refl _

section Cut
variable {r : Rec} {rec : Record} {s w : State} {y : Proj} {x : Nat} {n : Field} (h : Alone r rec s) (hy : y = rec.a ∨ y = rec.b)
  (hloop : Looping y s) (hx : rec.tailOut = some x) (hshort : s.tr[rec.a].frame + 1 < (rec.p : Int) + x)
  (hpos : ∀ q ∈ s.tr[rec.a].pos, q.f = s.tr[rec.a].frame) (hcut : CutMade r rec n s w)
include h hy hloop hx hshort hpos hcut

/-- The films' reactions behind the cut. -/
theorem filmsReact_behind : LoopLost y w w.filmsReact ∧ FaultBehind y r rec n w.filmsReact
    ∧ (∀ (z : Rec) (old : Record), w.filmsReact.eng.records[z] = some old → old.state = .tailout)
    ∧ NoMirrorLock w ∧ ∀ p : Proj, w.filmsReact.cues.lists[p] = [] := by
  obtain ⟨cut, hrecs, hstate, hmade, ha, hb, hp, htail⟩ := hcut.made
  have halone : Alone r cut w := h.cutTo ⟨ha, hb⟩ hrecs
  have hloop' : Looping y w := hloop.congr hcut.kept (by rw [hcut.ch]) (by rw [hcut.cues]; exact hloop.lists)
  have hshort' : FilmShort cut.a w := fun z old x' q hold _ _ hx' hq => by
    obtain ⟨-, rfl⟩ := halone.eq hold
    rw [htail, hx] at hx'
    cases hx'
    rw [hcut.tr, ha] at hq
    have hf := hpos q hq
    have := advance_le q
    omega
  obtain ⟨hlost, hout, hin⟩ := filmsReact_tailout halone (by rw [ha, hb]; exact hy) hloop' hstate hshort'
  rw [ha] at hout
  rw [hb] at hin
  refine ⟨hlost, ⟨hlost.state, hlost.cause, fun hya => hout hya r, fun hyb => ⟨cut, ?_, hstate, hmade⟩⟩, fun z old hold => ?_,
    halone.noMirrorLock (by rw [hstate]; exact nofun), fun p => by rw [hlost.cues]; exact hloop'.lists p⟩
  · rw [hin hyb]
    exact halone.entry
  · rcases hy with hya | hyb
    · exact nomatch (hout hya z).symm.trans hold
    · rw [hin hyb] at hold
      rw [(halone.eq hold).2]
      exact hstate

/-- The rest of an order that has the grant first. -/
theorem rest_behind_grant : let t := (filmParts ++ .islands :: armingParts).foldl State.partReact w
    FaultBehind y r rec n t ∧ t.take.tsrc = w.take.tsrc ∧ t.take.strobe = w.take.strobe ∧ t.take.last = w.take.last := by
  obtain ⟨hlost, hbehind, hall, -, hlists⟩ := filmsReact_behind h hy hloop hx hshort hpos hcut
  rw [List.foldl_append, filmParts_foldl]
  generalize w.filmsReact = v at hlost hbehind hall hlists
  obtain ⟨hun, hch⟩ := islands_arming hlists fun i z old _ hold hlive => absurd (hall z old hold) hlive
  generalize (Part.islands :: armingParts).foldl State.partReact v = t at hun hch
  exact ⟨⟨by rw [hch]; exact hbehind.state, by rw [hch]; exact hbehind.cause, by rw [hun.eng]; exact hbehind.outgoing,
    by rw [hun.eng]; exact hbehind.incoming⟩, by rw [hun.take, hlost.take], by rw [hun.take, hlost.take], by rw [hun.take, hlost.take]⟩

/-- The rest of an order that has the mirror's completion first. -/
theorem rest_behind_mirror : let t := (filmParts ++ armingParts ++ [Part.take]).foldl State.partReact w
    FaultBehind y r rec n t ∧ ∀ i : Isl, t.isl[i].pending = w.isl[i].pending := by
  obtain ⟨hlost, hbehind, -, hlock, hlists⟩ := filmsReact_behind h hy hloop hx hshort hpos hcut
  rw [List.foldl_append, List.foldl_append, filmParts_foldl]
  have hpending := hlost.pending hlock
  generalize w.filmsReact = v at hbehind hlists hpending
  rw [armingParts_of_empty hlists]
  show FaultBehind y r rec n v.takesReact ∧ ∀ i : Isl, v.takesReact.isl[i].pending = _
  obtain ⟨slots, ds, heq, -⟩ := takesReact_eq v
  rw [heq]
  exact ⟨⟨hbehind.state, hbehind.cause, hbehind.outgoing, hbehind.incoming⟩, hpending⟩

end Cut

end Sys2Proof.Machine
end

section
/-! The grant and the mirror's completion that an order has first (R92, R93, R95, R153, R155). -/

namespace Sys2Proof.Machine
open Sys2Proof.Claims

section First
variable {s v : State} {r : Rec} {rec : Record} {x : Nat} (hx : rec.tailOut = some x) (hshort : s.tr[rec.a].frame < (rec.p : Int) + x)
include hx hshort

/-- An entry to TAILOUT short of the stop point is the cut made. -/
theorem cutMade_of_enterTailout {d : Nat} (hv : v.eng.records = s.eng.records.set r (some { rec with deferrals := d }))
    (hkept : Kept s (v.enterTailout r)) (htb : v.tb = s.tb) (hch : v.ch = s.ch) (htr : v.tr = s.tr) (hcues : v.cues = s.cues) :
    CutMade r rec s.tb.field s (v.enterTailout r) ∧ (v.enterTailout r).take = v.take
      ∧ ∀ i : Isl, (v.enterTailout r).isl[i].pending = v.isl[i].pending := by
  have hrec : v.eng.records[r] = some { rec with deferrals := d } := by rw [hv]; exact getElem_set_same _ _ _
  let cut := enteredTailout { rec with deferrals := d } v.tb.field (v.fieldPos rec.b).isNone
  have henter : v.enterTailout r = v.cutTo r cut := (enterTailout_of_tail hrec hx).trans (if_neg (by rw [htr]; exact not_le.2 hshort))
  rw [henter] at hkept ⊢
  refine ⟨⟨⟨cut, ?_, rfl, congrArg some (congrArg Timebase.field htb), rfl, rfl, rfl, rfl⟩, hkept, hch, htr, hcues⟩, rfl,
    fun i => by rw [cutTo_isl]⟩
  show v.eng.records.set r (some cut) = _
  rw [hv, Vector.set_set]

variable (h : Alone r rec s) (hcut : rec.state = .cutting)
include h hcut

/-- The only eligible request of the boundary, granted before the films react. -/
theorem grantFirst {q : ChangeReq} (hprot : s.take.protective = none) (hsync : s.tb.madeInSync = true)
    (hq : s.take.slots = (Vector.replicate 4 none).set r (some q)) (hr : requestReady q.posted q.due s.tb.field) :
    let w := (s.partReact .take).partReact (.step .takeGrant)
    CutMade r rec s.tb.field s w ∧ w.take.tsrc = q.source ∧ w.take.strobe = true
      ∧ w.take.last = some ⟨s.tb.field, q.source, .record r⟩ := by
  have hslot : s.take.slots[r] = some q := by rw [hq]; exact getElem_set_same _ _ _
  have hrest : ∀ z : Rec, z ≠ r → s.take.slots[z] = none := fun z hz => by
    rw [hq, getElem_set_other _ _ hz]
    simp
  have hwin : s.winner.isSome = true := (winner_isSome_iff s).2 (.inr ⟨hsync, .inl ⟨r, q, hslot, hr⟩⟩)
  have htake : s.partReact .take = s.addDue .takeGrant := if_pos hwin
  have hkept := (partReact_kept s .take).trans (partReact_kept (s.partReact .take) (.step .takeGrant))
  have hstep : (s.partReact .take).partReact (.step .takeGrant) = ((s.addDue .takeGrant).dropDue .takeGrant).arbitrate := by
    rw [htake]
    exact takeDue_of_mem _ _ (List.mem_append_right _ (List.mem_singleton_self _)) rfl
  obtain ⟨v, g, hv, -, hg, harb, htsrc, hstrobe, hlast, -⟩ :=
    arbitrate_only (s := (s.addDue .takeGrant).dropDue .takeGrant) hprot hsync hslot hr hrest
  have heng : g.eng = s.eng := by rw [hg]; exact hv.eng
  have hrec : g.eng.records[r] = some rec := by rw [heng]; exact h.entry
  rw [harb, grantToRecord_enters hrec hcut] at hstep
  have hrecs : (g.updRec r fun z => { z with deferrals := q.deferrals }).eng.records =
      s.eng.records.set r (some { rec with deferrals := q.deferrals }) := by rw [updRec_records hrec, heng]
  have hupd := updRec_eng g r fun z => { z with deferrals := q.deferrals }
  rw [hstep] at hkept ⊢
  generalize (g.updRec r fun z => { z with deferrals := q.deferrals }) = k at hrecs hupd hkept
  have htakePort : k.take = g.take := by rw [hupd]
  obtain ⟨hmade, hport, -⟩ := cutMade_of_enterTailout hx hshort hrecs hkept (by rw [hupd, hg]; exact hv.tb) (by rw [hupd, hg]; exact hv.ch)
    (by rw [hupd, hg]; exact hv.tr) (by rw [hupd, hg]; exact hv.cues)
  rw [htakePort] at hport
  exact ⟨hmade, (congrArg TakePort.tsrc hport).trans htsrc, (congrArg TakePort.strobe hport).trans hstrobe,
    (congrArg TakePort.last hport).trans hlast⟩

/-- The mirror's completion, before the films react. -/
theorem mirrorFirst {i : Isl} {cmd : MirrorCmd} (hclaim : ∀ j : Isl, s.isl[j].claim = some r ↔ j = i)
    (hp : s.isl[i].pending = some cmd) (hread : s.isl[i].reading = some s.pins.isl[i].mpos)
    (hval : s.pins.isl[i].mpos.val = cmd.port.val) :
    let w := (s.partReact .islands).partReact (.step (.mirrorComplete i))
    CutMade r rec s.tb.field s w ∧ w.isl[i].pending = none := by
  have hsettled : settledBy s.isl[i].reading s.pins.isl[i].mpos = some cmd.port := (settledBy_eq_some_iff _ _ _).2 ⟨hread, hval⟩
  have hcalm : ClaimsCalm s := fun j z old hc hold _ => by
    obtain ⟨rfl, -⟩ := h.eq hold
    obtain rfl := (hclaim j).1 hc
    unfold Island.drifting
    rw [hp]
    rfl
  have hlock := h.noMirrorLock (by rw [hcut]; exact nofun)
  have hkept := (partReact_kept s .islands).trans (partReact_kept (s.partReact .islands) (.step (.mirrorComplete i)))
  obtain ⟨hun, hclaims⟩ := islandsReact_of_calm hcalm
  have hreact := islandsReact_reacted s i
  have hfilms := (islandsReact_within (R := fun _ => True) s fun _ _ _ _ _ _ _ => .inl trivial).films
  have hk := partReact_kept s .islands
  generalize s.partReact .islands = t at hkept hun hclaims hreact hfilms hk
  have hpend : t.isl[i].pending = some cmd := (hreact.mirror hlock).2.1.trans hp
  have hset : t.isl[i].settled = some cmd.port := by
    rw [show t.isl[i].settled = settledBy s.isl[i].reading s.pins.isl[i].mpos from (congrArg Island.settled hreact.isl).trans rfl]
    exact hsettled
  have hdue : .mirrorComplete i ∈ t.due := (hreact.dues hlock _ rfl (.inl rfl)).2 (.inr (by
    unfold mirrorDues
    rw [hp]
    simp only
    rw [if_pos hsettled]
    exact List.mem_singleton_self _))
  have hstep : t.partReact (.step (.mirrorComplete i)) = (t.dropDue (.mirrorComplete i)).completeMirror i := takeDue_of_mem t _ hdue rfl
  have hrec : t.eng.records[r] = some rec := by rw [hun.eng]; exact h.entry
  rw [completeMirror_enters (s := t.dropDue (.mirrorComplete i)) hpend hset ((hclaims i).trans ((hclaim i).2 rfl)) hrec hcut] at hstep
  rw [hstep] at hkept ⊢
  obtain ⟨hmade, -, hpending⟩ := cutMade_of_enterTailout (d := rec.deferrals) hx hshort
    (by rw [← show _ = some rec from h.entry, set_getElem_self]; exact congrArg Engine.records hun.eng) hkept hk.tb
    (vector_ext fun p => (hfilms p not_false).1) (vector_ext fun p => (hfilms p not_false).2.1) hun.cues
  refine ⟨hmade, ?_⟩
  rw [hpending i]
  exact congrArg Island.pending (getElem_set_same _ _ _)

end First

/-- The orders that have the cut first, as the reactions that are left. -/
theorem react_grantFirst (s : State) : s.react ⟨[.take]⟩ =
    (filmParts ++ .islands :: armingParts).foldl State.partReact ((s.partReact .take).partReact (.step .takeGrant)) := by
  rw [react_eq s partOrder_grantFirst, List.foldl_cons, List.foldl_cons]

theorem react_mirrorFirst (s : State) (i : Isl) : s.react ⟨[.islands, .step (.mirrorComplete i)]⟩ =
    (filmParts ++ armingParts ++ [Part.take]).foldl State.partReact ((s.partReact .islands).partReact (.step (.mirrorComplete i))) := by
  rw [react_eq s (partOrder_mirrorFirst i), List.foldl_cons, List.foldl_cons]

/-! ### The race at a boundary (R158, R159) -/

section Race
variable {s : State} {r : Rec} {rec : Record} {y : Proj} {x : Nat} (h : Alone r rec s) (hy : y = rec.a ∨ y = rec.b) (hloop : Looping y s)
  (hcut : rec.state = .cutting) (hx : rec.tailOut = some x) (hshort : s.tr[rec.a].frame + 1 < (rec.p : Int) + x)
  (hpos : ∀ q ∈ s.tr[rec.a].pos, q.f = s.tr[rec.a].frame)
include h hy hloop hcut hx hshort hpos

/-- A grant that the plain order makes no more, and that an order with the arbitration first makes. -/
theorem race_by_grant {q : ChangeReq} (hprot : s.take.protective = none) (hhost : s.take.host = none) (hsync : s.tb.madeInSync = true)
    (hd : .takeGrant ∉ s.due) (hq : s.take.slots = (Vector.replicate 4 none).set r (some q))
    (hr : requestReady q.posted q.due s.tb.field) :
    (FaultFirst y r s (s.react ⟨[]⟩) ∧ .takeGrant ∉ (s.react ⟨[]⟩).due)
      ∧ FaultBehind y r rec s.tb.field (s.react ⟨[.take]⟩) ∧ (s.react ⟨[.take]⟩).take.tsrc = q.source
      ∧ (s.react ⟨[.take]⟩).take.strobe = true ∧ (s.react ⟨[.take]⟩).take.last = some ⟨s.tb.field, q.source, .record r⟩ := by
  have hlive : rec.state ≠ .tailout := by rw [hcut]; exact nofun
  obtain ⟨hmade, htsrc, hstrobe, hlast⟩ := grantFirst hx (by omega) h hcut hprot hsync hq hr
  obtain ⟨ht, h1, h2, h3⟩ := rest_behind_grant h hy hloop hx hshort hpos hmade
  rw [react_grantFirst]
  refine ⟨⟨react_plain h hy hloop hlive, react_plain_calm h hy hloop hlive (fun w hw => ?_) hprot hhost hd⟩, ht, h1.trans htsrc,
    h2.trans hstrobe, h3.trans hlast⟩
  rw [hq, getElem_set_other _ _ hw]
  simp

/-- A mirror whose completion waits behind the fault in the plain order, and that an order with the islands first completes. -/
theorem race_by_mirror {i : Isl} {cmd : MirrorCmd} (hclaim : ∀ j : Isl, s.isl[j].claim = some r ↔ j = i)
    (hp : s.isl[i].pending = some cmd) (hread : s.isl[i].reading = some s.pins.isl[i].mpos)
    (hval : s.pins.isl[i].mpos.val = cmd.port.val) :
    FaultFirst y r s (s.react ⟨[]⟩) ∧ FaultBehind y r rec s.tb.field (s.react ⟨[.islands, .step (.mirrorComplete i)]⟩)
      ∧ (s.react ⟨[.islands, .step (.mirrorComplete i)]⟩).isl[i].pending = none := by
  obtain ⟨hmade, hpending⟩ := mirrorFirst hx (by omega) h hcut hclaim hp hread hval
  obtain ⟨ht, hkeep⟩ := rest_behind_mirror h hy hloop hx hshort hpos hmade
  rw [react_mirrorFirst]
  exact ⟨react_plain h hy hloop (by rw [hcut]; exact nofun), ht, (hkeep i).trans hpending⟩

end Race

/-- The state in which the reactions to the boundary of a LOOP begin, with one record in the table. -/
theorem Begun.race {u z : State} {n : Field} {inSync : Bool} (h : Begun u z n inSync) {r : Rec} {rec : Record} {y : Proj}
    (hrecs : u.eng.records = (Vector.replicate 4 none).set r (some rec)) (hne : rec.a ≠ rec.b) (hl : ∀ p : Proj, u.cues.lists[p] = [])
    (hinputs : ∀ p : Proj, u.pins.proj[p].tail = false ∧ (u.pins.proj[p].loop = true ↔ p = y)) (hrun : u.ch[y].state = .run)
    (hfresh : ∀ x ∈ u.ch[y].record, x.startField ≠ n) : Alone r rec z ∧ Looping y z := by
  refine ⟨⟨by rw [h.eng]; exact hrecs, hne⟩, ⟨fun p => by rw [h.cues]; exact hl p, fun p hp => ?_, by rw [h.ch]; exact hrun, ?_, ?_, ?_⟩⟩
  · exact h.loose (Bool.eq_false_iff.2 (mt (hinputs p).2.1 hp)) (hinputs p).1
  · rw [h.flags y]
    exact (hinputs y).2.2 rfl
  · rw [h.flags y]
    exact (hinputs y).1
  · rw [h.ch, h.field]
    exact hfresh

end Sys2Proof.Machine

section
open Sys2Proof Sys2Proof.Machine Sys2Proof.Claims

/-- Settles O24: the grant and the mirror that make the cut, the stop point by the film, and the race with LOOP_LOSS by its order. -/
theorem cutMadeEntersTailout : Obligations.CutMadeEntersTailout := by
  refine ⟨?_, ?_, ?_, ?_⟩
  · intro s r rec h hw hrec hcut n entered cut stays
    refine ⟨fun q hstays hd hprot hsync hq hposted hdue hrest => ?_, fun i cmd hstays hd hclaim hp hset => ?_⟩
    · obtain ⟨v, hexec, hv, htsrc, hstrobe⟩ := takeGrant_enters h hrec hcut hw hd hprot hsync hq ⟨hposted, hdue⟩ hrest
      obtain ⟨hmade, ht, hs, -⟩ := cut_of_enterTailout hv hstays
      exact ⟨_, hexec, hmade, ht.trans htsrc, hs.trans hstrobe⟩
    · obtain ⟨v, hexec, hv, hpending⟩ := mirrorComplete_enters h hrec hcut hd hclaim hp hset
      obtain ⟨hmade, -, -, hkeep⟩ := cut_of_enterTailout hv hstays
      exact ⟨_, hexec, hmade, (hkeep i).trans hpending⟩
  · intro s r rec x res h hest hdis hrec hx hres hqueue a n ended
    refine ⟨fun q hcut hstop hd hw hprot hsync hq hr hrest => ?_, fun i cmd hcut hstop hd hclaim hp hset => ?_,
      fun w htail hd hlock hwait hb hlo hhi hl hperiod hshort hfound => ?_⟩
    · obtain ⟨v, hexec, hv, htsrc, hstrobe⟩ := takeGrant_enters h hrec hcut hw hd hprot hsync hq hr hrest
      obtain ⟨hended, ht, hs⟩ := stop_of_enterTailout hv hrec hdis hest hx hres hqueue hstop
      exact ⟨_, hexec, ht.trans htsrc, hs.trans hstrobe, hended⟩
    · obtain ⟨v, hexec, hv, -⟩ := mirrorComplete_enters h hrec hcut hd hclaim hp hset
      exact ⟨_, hexec, (stop_of_enterTailout hv hrec hdis hest hx hres hqueue hstop).1⟩
    · have hexec : exec (.slipCorrection a) s = .next ((s.dropDue (.slipCorrection a)).correctSlip a) := event_takeDue h hd rfl
      refine ⟨fun hstop => ?_, fun hgo => ⟨_, hexec, correctSlip_tail_short (u := s.dropDue (.slipCorrection a)) hdis hrec htail hx hl
        hperiod hfound hshort hlock hwait hb hlo hhi hgo⟩⟩
      obtain ⟨hended, hch⟩ := correctSlip_tail_stops (u := s.dropDue (.slipCorrection a)) hdis hest hrec htail hx hres hqueue hl hperiod
        hfound hshort hlock hwait hb hlo hhi hstop
      exact ⟨_, hexec, hended.records, hch, hended.queue, hended.request⟩
  · intro s m r rec x res h hdue
    have hedge := exec_shutterEdge h hdue m rec.a
    have hperf := exec_perfPulse h m rec.a
    generalize s.arrive m = u at hedge hperf ⊢
    intro u' a y gauge checked ended hest hdis hrec htail hx hres hqueue hf hl hperiod hfound hshort _
    refine ⟨fun hm hlock hpass hempty hrun => ⟨fun hstop => ?_, fun hgo => ?_⟩, fun hm hfwd hcarry hrest => ?_⟩
    · obtain ⟨hended, hch, htr⟩ := edge_tail_stops hdis hest hrec htail hx hres hqueue hf hl hperiod hfound hshort hm hlock hpass hrun hstop
      exact ⟨_, hedge, ⟨hended.records, hended.request, hended.queue⟩, hch, htr⟩
    · exact ⟨_, hedge, edge_tail_short hdis hrec htail hx hf hl hperiod hfound hshort hm hlock hpass hempty hgo⟩
    · rw [show m.pins.proj[rec.a].forward = true from hfwd] at hperf
      refine ⟨fun hstop => ?_, fun hgo => ?_⟩
      · obtain ⟨hended, hch, htr⟩ := perforation_tail_stops hdis hest hrec htail hx hres hqueue hf hl hperiod hfound hshort hm hcarry hstop
        exact ⟨_, hperf, ⟨hended.records, hended.request, hended.queue⟩, hch, htr⟩
      · exact ⟨_, hperf, perforation_tail_short hdis hrec htail hx hf hl hperiod hfound hshort hm hcarry hgo⟩
  · intro s m r rec y x h
    have hplain (o : BoundaryOrder) := exec_fldPulse m o h
    generalize s.arrive m = u at hplain ⊢
    intro u' n a hsync hdue hrecs hcut hx hshort hpos hne hl hprot hhost hy hinputs hrun hfresh cutFirst faultFirst
    obtain ⟨hbegun, htb⟩ := beginField_begun u { u.tb with lastPulse := some u.now } true
    rw [settle_of_no_due u hdue] at hbegun
    have hexec (o : BoundaryOrder) : exec (.fldPulse m o) s =
        .next (((u.retime { u.tb with lastPulse := some u.now }).beginField true).react o) :=
      (hplain o).trans (congrArg _ (pulse_of_sync u o hsync))
    generalize (u.retime { u.tb with lastPulse := some u.now }).beginField true = z at hbegun hexec
    obtain ⟨halone, hloop⟩ := hbegun.race hrecs hne hl hinputs hrun hfresh
    have hn : z.tb.field = n := hbegun.field
    have hshortz : z.tr[rec.a].frame + 1 < (rec.p : Int) + x := by rw [hbegun.tr]; exact hshort
    have hposz : ∀ q ∈ z.tr[rec.a].pos, q.f = z.tr[rec.a].frame := by rw [hbegun.tr]; exact hpos
    have hfirst {t : State} (ht : FaultFirst y r z t) : faultFirst t :=
      ⟨ht.state, ht.cause, ht.record, ht.slot, ht.tsrc.trans (by rw [hbegun.take])⟩
    have hbehind {t : State} (ht : FaultBehind y r rec n t) : cutFirst t := ⟨ht.state, ht.cause, ht.outgoing, ht.incoming⟩
    refine ⟨fun q _ hslots hready => ?_, fun i cmd _ hclaim hp hread hval => ?_⟩
    · obtain ⟨⟨hplain, hno⟩, hfault, hport⟩ := race_by_grant halone hy hloop hcut hx hshortz hposz (by rw [hbegun.take]; exact hprot)
        (by rw [hbegun.take]; exact hhost) hbegun.made hbegun.not_mem_takeGrant (by rw [hbegun.take]; exact hslots)
        (by rw [hn]; exact hready)
      rw [hn] at hfault hport
      exact ⟨⟨_, hexec ⟨[]⟩, hfirst hplain, hno⟩, _, hexec ⟨[.take]⟩, hbehind hfault, hport⟩
    · obtain ⟨hplain, hfault, hpending⟩ := race_by_mirror halone hy hloop hcut hx hshortz hposz
        (fun j => by rw [hbegun.isl j]; exact hclaim j) (by rw [hbegun.isl i]; exact hp) (by rw [hbegun.isl i, hbegun.pins]; exact hread)
        (by rw [hbegun.pins]; exact hval)
      rw [hn] at hfault
      exact ⟨⟨_, hexec ⟨[]⟩, hfirst hplain⟩, _, hexec ⟨[.islands, .step (.mirrorComplete i)]⟩, hbehind hfault, hpending⟩

end
end
